-- ==== Sys2Proof/Word.lean ====
section
/-!
DEFINITION. The names the whole model counts with: a byte of the link, the numbered resources of the shop (00_scope.md 1.2),
a bank of a fixed number of like things with its reader and writer, and the plainest saturating arithmetic (00_scope.md 6.2).
A resource is numbered from 0 here and from 1 on the link: station `0` is S1, program `15` is W16.
-/

namespace Sys2Proof

/-- One byte of the link. -/
abbrev Byte := BitVec 8

/-- Furnace stations S1 to S4. -/
abbrev Station := Fin 4
/-- Power units U1 and U2. -/
abbrev UnitId := Fin 2
/-- Water circuits C1 to C10. -/
abbrev Circuit := Fin 10
/-- Temperature channels T1 to T16. -/
abbrev Channel := Fin 16
/-- Watch programs W1 to W16. -/
abbrev Program := Fin 16
/-- Grades G0 to G15. -/
abbrev Grade := Fin 16

/-- A fixed number of like things, read with `look` and written with `place`. -/
abbrev Bank (α : Type) (n : Nat) := Vector α n

/-- The thing at place `i` of a bank. -/
def look {α : Type} {n : Nat} (b : Bank α n) (i : Fin n) : α := b[i]

/-- The bank with `x` at place `i`. -/
def place {α : Type} {n : Nat} (b : Bank α n) (i : Fin n) (x : α) : Bank α n := b.set i x

/-- The bank with every thing replaced by its image. -/
def overAll {α β : Type} {n : Nat} (f : α → β) (b : Bank α n) : Bank β n :=
  ⟨(b.toList.map f).toArray, by simp⟩

/-- Every station, in station order. -/
def allStations : List Station := [0, 1, 2, 3]
/-- Both units, in unit order. -/
def allUnits : List UnitId := [0, 1]
/-- Every circuit, in circuit order. -/
def allCircuits : List Circuit := [0, 1, 2, 3, 4, 5, 6, 7, 8, 9]
/-- Every program, in program order. -/
def allPrograms : List Program := [0, 1, 2, 3, 4, 5, 6, 7, 8, 9, 10, 11, 12, 13, 14, 15]

/-- `x` brought to the nearer end of `lo` to `hi` where it lies outside (R172). -/
def clampTo (lo hi x : Nat) : Nat := min hi (max lo x)

/-- Addition that stops at a named top value (00_scope.md 6.2). -/
def satAdd (top a b : Nat) : Nat := min top (a + b)

/-- The rounding up that the manual writes `ceil()` (00_scope.md 6.2). -/
def ceilDiv (a b : Nat) : Nat := (a + (b - 1)) / b

/-- The largest value of a four-byte count. -/
def top32 : Nat := 4294967295

end Sys2Proof
end

