-- ==== Sys2Proof/Config.lean ====
section
/-!
DEFINITION. What is fixed in the part (depths, timer lengths, the frame's constants), and the FREE VALUES: values the manual
leaves open, each an opaque constant with no body, so that no proof can rest on a number the model chose.
-/

namespace Sys2Proof.Config

/-- First byte of every frame (09, 9.1.1). -/
def syncByte : Byte := 0x5A
/-- Largest LEN of a frame (09, 9.1.1). -/
def maxLen : Nat := 250
/-- Frames the receive queue holds (R167). -/
def rxDepth : Nat := 4
/-- Notices the notice queue holds (R175). -/
def noticeDepth : Nat := 32
/-- Entries the tap queue holds (R147). -/
def tapDepth : Nat := 8
/-- Entries a dip history holds (R51). -/
def historyDepth : Nat := 8
/-- The model step and the allocation pass run once per second (R24, R91). -/
def secondMs : Nat := 1000
/-- Time allowed for the output decay (04, 4.1.1; R76). -/
def decayMs : Nat := 5000
/-- Settle time (04, 4.1.1; R78). -/
def settleMs : Nat := 2000
/-- Length of a circuit gate (R114). -/
def gateMs : Nat := 2000
/-- Time after which a channel reading lapses (R110). -/
def channelMs : Nat := 2000
/-- Lowest and highest estimate of the bath model (R30). -/
def tLow : Nat := 11000
/-- Highest estimate of the bath model (R30). -/
def tHigh : Nat := 16500
/-- Pulse count above which a gate's flow is INVALID (R115). -/
def chatterPulses : Nat := 20000

/-- FREE VALUE (log entry 6). The dip age bytes of a heat image whose last dip is absent: 9.2.2 says that a dip temperature of
0 marks the absence and gives no value for the age beside it. The argument is the time of the read in milliseconds. -/
opaque absentDipAge : Nat → BitVec 32

/-- FREE VALUE (log entry 7). Which of several standing causes an EMERGENCY WATER notice names when a station begins to hold
metal while more than one emergency stands for it (R122, R125 leave it open). The argument is the time in milliseconds; the
value is taken modulo the number of standing causes, so the named cause is always one that stands. -/
opaque openCausePick : Nat → Nat

end Sys2Proof.Config
end

