-- ==== Sys2Proof/Syntax.lean ====
section
/-!
DEFINITION. The commands: one constructor for each row of spec/opcode_table.json. A request row stands for the DISPATCH of one
request frame (R169) and carries that frame's TAG and PAYLOAD bytes, the KIND being the row itself (UNKNOWN_KIND carries its KIND too);
every other row is an event of the field, of a timer of the part, or of the link's two lines, and carries what that event delivers.
-/

namespace Sys2Proof

/-- One command to the part. -/
inductive Instr where
  /-- POWER_ON (R14): power is applied. -/
  | powerOn
  /-- RESET_LINE_ACTIVE (R14): the reset line becomes active. -/
  | resetLineActive
  /-- RESET_LINE_RELEASED (R14): the reset line is released. -/
  | resetLineReleased
  /-- RESTART_TAKES_EFFECT (R174): the restart asked for by RESTART happens. -/
  | restartTakesEffect
  /-- FRAME_RECEIVED (R167): the bytes, as the line delivers them, that end with the last CRC byte of a frame. -/
  | frameReceived (bytes : List Byte)
  /-- INTER_BYTE_GAP (R166): after these bytes the line stays quiet for more than 5 ms. -/
  | interByteGap (bytes : List Byte)
  /-- BREAK (R168): after these bytes the receive line is held low for longer than one character. -/
  | lineBreak (bytes : List Byte)
  /-- SILENCE_TIMER_EXPIRY (R178). -/
  | silenceTimerExpiry
  /-- TRANSMIT_FRAME_END (R177): the transmitter has sent the last byte of its frame. -/
  | transmitFrameEnd
  /-- UNKNOWN_KIND (R170): dispatch of a frame whose KIND is no request kind. -/
  | unknownKind (kind tag : Byte) (payload : List Byte)
  /-- SHOP_STATUS (R173). -/
  | shopStatus (tag : Byte) (payload : List Byte)
  /-- LAYOUT (R2). -/
  | layout (tag : Byte) (payload : List Byte)
  /-- TABLE_READ (R171). -/
  | tableRead (tag : Byte) (payload : List Byte)
  /-- TABLE_WRITE (R172). -/
  | tableWrite (tag : Byte) (payload : List Byte)
  /-- RESTART (R174). -/
  | restart (tag : Byte) (payload : List Byte)
  /-- STATION_ENABLE (R9). -/
  | stationEnable (tag : Byte) (payload : List Byte)
  /-- STATION_DISABLE (R8). -/
  | stationDisable (tag : Byte) (payload : List Byte)
  /-- RELINE (R13). -/
  | reline (tag : Byte) (payload : List Byte)
  /-- CHARGE (R43). -/
  | charge (tag : Byte) (payload : List Byte)
  /-- DIP (R48). -/
  | dip (tag : Byte) (payload : List Byte)
  /-- TRANSFER (R54). -/
  | transfer (tag : Byte) (payload : List Byte)
  /-- HEAT_READ (R59). -/
  | heatRead (tag : Byte) (payload : List Byte)
  /-- HEAT_LOAD (R60). -/
  | heatLoad (tag : Byte) (payload : List Byte)
  /-- HEAT_DECLARE (R62). -/
  | heatDeclare (tag : Byte) (payload : List Byte)
  /-- HEAT_EMPTY (R63). -/
  | heatEmpty (tag : Byte) (payload : List Byte)
  /-- FLAGS_CLEAR (R39). -/
  | flagsClear (tag : Byte) (payload : List Byte)
  /-- DIP_HISTORY (R52). -/
  | dipHistory (tag : Byte) (payload : List Byte)
  /-- UNIT_MODE (R87). -/
  | unitMode (tag : Byte) (payload : List Byte)
  /-- CHANGEOVER (R88). -/
  | changeover (tag : Byte) (payload : List Byte)
  /-- TRIP_RESET (R89). -/
  | tripReset (tag : Byte) (payload : List Byte)
  /-- INTERVAL_SYNC (R102). -/
  | intervalSync (tag : Byte) (payload : List Byte)
  /-- WATCH_STATUS (R143). -/
  | watchStatus (tag : Byte) (payload : List Byte)
  /-- EW_CLOSE (R124). -/
  | ewClose (tag : Byte) (payload : List Byte)
  /-- LADLE_REQUEST (R148). -/
  | ladleRequest (tag : Byte) (payload : List Byte)
  /-- LADLE_CANCEL (R164). -/
  | ladleCancel (tag : Byte) (payload : List Byte)
  /-- TAP_START (R160). -/
  | tapStart (tag : Byte) (payload : List Byte)
  /-- TAP_DONE (R161). -/
  | tapDone (tag : Byte) (payload : List Byte)
  /-- TAP_ABORT (R163). -/
  | tapAbort (tag : Byte) (payload : List Byte)
  /-- QUEUE_READ (R150). -/
  | queueRead (tag : Byte) (payload : List Byte)
  /-- MODEL_STEP (R24): a station's step timer falls due. -/
  | modelStep (station : Station)
  /-- MEASURED_POWER (R25): a unit's measured-power word, in kW. -/
  | measuredPower (unit : UnitId) (kw : Nat)
  /-- DECAY_TIMEOUT (R77). -/
  | decayTimeout (unit : UnitId)
  /-- SWITCH_CONTACTS (R70): the levels of a unit's two position contacts after the change (true is closed). -/
  | switchContacts (unit : UnitId) (a b : Bool)
  /-- TRAVEL_TIMEOUT (R78). -/
  | travelTimeout (unit : UnitId)
  /-- SETTLE_EXPIRY (R79). -/
  | settleExpiry (unit : UnitId)
  /-- DWELL_EXPIRY (R85). -/
  | dwellExpiry (unit : UnitId)
  /-- UNIT_FAULT_ACTIVE (R72). -/
  | unitFaultActive (unit : UnitId)
  /-- UNIT_FAULT_INACTIVE (R72). -/
  | unitFaultInactive (unit : UnitId)
  /-- PUMP_FAULT_ACTIVE (R72, R121). -/
  | pumpFaultActive
  /-- PUMP_FAULT_INACTIVE (R121). -/
  | pumpFaultInactive
  /-- ALLOCATION_PASS (R91). -/
  | allocationPass
  /-- CHANNEL_ARRIVAL (R109): a reading in tenths, or `none` for the converter's INVALID. -/
  | channelArrival (channel : Channel) (reading : Option Int)
  /-- CHANNEL_TIMEOUT (R110). -/
  | channelTimeout (channel : Channel)
  /-- FLOW_PULSE (R114). -/
  | flowPulse (circuit : Circuit)
  /-- CIRCUIT_GATE (R114). -/
  | circuitGate (circuit : Circuit)
  /-- PROGRAM_EVALUATION (R131). -/
  | programEvaluation (program : Program)
  /-- PERMIT_EXPIRY (R158): the timer of the permit with this id reaches 0. -/
  | permitExpiry (permit : Nat)
  /-- FRAME_LEN_ABANDONED (R166): this LEN byte follows a SYNC. -/
  | frameLenAbandoned (len : Byte)
  /-- BREAK_END (R168): the receive line returns high. -/
  | breakEnd
  deriving DecidableEq, Repr

/-- The request kinds of 9.2.1, one for each request row. -/
inductive RequestKind where
  | shopStatus | layout | tableRead | tableWrite | restart | stationEnable | stationDisable | reline
  | charge | dip | transfer | heatRead | heatLoad | heatDeclare | heatEmpty | flagsClear | dipHistory
  | unitMode | changeover | tripReset | intervalSync | watchStatus | ewClose
  | ladleRequest | ladleCancel | tapStart | tapDone | tapAbort | queueRead
  deriving DecidableEq, Repr

/-- The KIND byte of a request kind (the table of 9.2.1). -/
def RequestKind.code : RequestKind → Byte
  | .shopStatus => 0x01 | .layout => 0x02 | .tableRead => 0x03 | .tableWrite => 0x04 | .restart => 0x05
  | .stationEnable => 0x08 | .stationDisable => 0x09 | .reline => 0x0A
  | .charge => 0x10 | .dip => 0x11 | .transfer => 0x12 | .heatRead => 0x13 | .heatLoad => 0x14
  | .heatDeclare => 0x15 | .heatEmpty => 0x16 | .flagsClear => 0x17 | .dipHistory => 0x18
  | .unitMode => 0x20 | .changeover => 0x21 | .tripReset => 0x22 | .intervalSync => 0x23
  | .watchStatus => 0x28 | .ewClose => 0x29
  | .ladleRequest => 0x30 | .ladleCancel => 0x31 | .tapStart => 0x32 | .tapDone => 0x33 | .tapAbort => 0x34
  | .queueRead => 0x35

/-- Every request kind, in the order of 9.2.1. -/
def RequestKind.all : List RequestKind :=
  [.shopStatus, .layout, .tableRead, .tableWrite, .restart, .stationEnable, .stationDisable, .reline,
   .charge, .dip, .transfer, .heatRead, .heatLoad, .heatDeclare, .heatEmpty, .flagsClear, .dipHistory,
   .unitMode, .changeover, .tripReset, .intervalSync, .watchStatus, .ewClose,
   .ladleRequest, .ladleCancel, .tapStart, .tapDone, .tapAbort, .queueRead]

/-- The request kind a KIND byte names, if it is one (R170). -/
def RequestKind.ofCode (b : Byte) : Option RequestKind := RequestKind.all.find? (fun k => k.code == b)

/-- The payload length a kind requires (9.2.1). TABLE_WRITE has no single length: see `fits`. -/
def RequestKind.length : RequestKind → Nat
  | .shopStatus | .restart | .intervalSync | .watchStatus | .queueRead => 0
  | .layout => 20
  | .tableRead | .tableWrite => 3
  | .stationEnable | .stationDisable | .reline | .heatRead | .heatEmpty | .dipHistory | .tripReset
  | .ladleCancel | .tapStart => 1
  | .charge => 5
  | .dip => 3
  | .transfer => 4
  | .heatLoad => 49
  | .heatDeclare => 8
  | .flagsClear | .unitMode | .changeover | .ewClose => 2
  | .ladleRequest => 6
  | .tapDone => 5
  | .tapAbort => 3

/-- Whether a payload passes the length check of R170: the kind's own length, or at least three bytes for TABLE_WRITE. -/
def RequestKind.fits (k : RequestKind) (payload : List Byte) : Bool :=
  match k with
  | .tableWrite => decide (3 ≤ payload.length)
  | k => payload.length == k.length

/-- The request frame a request row dispatches: KIND, TAG and PAYLOAD. Events carry none. -/
def Instr.frame : Instr → Option (Byte × Byte × List Byte)
  | .unknownKind k t p => some (k, t, p)
  | .shopStatus t p => some (RequestKind.shopStatus.code, t, p)
  | .layout t p => some (RequestKind.layout.code, t, p)
  | .tableRead t p => some (RequestKind.tableRead.code, t, p)
  | .tableWrite t p => some (RequestKind.tableWrite.code, t, p)
  | .restart t p => some (RequestKind.restart.code, t, p)
  | .stationEnable t p => some (RequestKind.stationEnable.code, t, p)
  | .stationDisable t p => some (RequestKind.stationDisable.code, t, p)
  | .reline t p => some (RequestKind.reline.code, t, p)
  | .charge t p => some (RequestKind.charge.code, t, p)
  | .dip t p => some (RequestKind.dip.code, t, p)
  | .transfer t p => some (RequestKind.transfer.code, t, p)
  | .heatRead t p => some (RequestKind.heatRead.code, t, p)
  | .heatLoad t p => some (RequestKind.heatLoad.code, t, p)
  | .heatDeclare t p => some (RequestKind.heatDeclare.code, t, p)
  | .heatEmpty t p => some (RequestKind.heatEmpty.code, t, p)
  | .flagsClear t p => some (RequestKind.flagsClear.code, t, p)
  | .dipHistory t p => some (RequestKind.dipHistory.code, t, p)
  | .unitMode t p => some (RequestKind.unitMode.code, t, p)
  | .changeover t p => some (RequestKind.changeover.code, t, p)
  | .tripReset t p => some (RequestKind.tripReset.code, t, p)
  | .intervalSync t p => some (RequestKind.intervalSync.code, t, p)
  | .watchStatus t p => some (RequestKind.watchStatus.code, t, p)
  | .ewClose t p => some (RequestKind.ewClose.code, t, p)
  | .ladleRequest t p => some (RequestKind.ladleRequest.code, t, p)
  | .ladleCancel t p => some (RequestKind.ladleCancel.code, t, p)
  | .tapStart t p => some (RequestKind.tapStart.code, t, p)
  | .tapDone t p => some (RequestKind.tapDone.code, t, p)
  | .tapAbort t p => some (RequestKind.tapAbort.code, t, p)
  | .queueRead t p => some (RequestKind.queueRead.code, t, p)
  | .powerOn | .resetLineActive | .resetLineReleased | .restartTakesEffect | .frameReceived _ | .interByteGap _
  | .lineBreak _ | .silenceTimerExpiry | .transmitFrameEnd | .modelStep _ | .measuredPower _ _ | .decayTimeout _
  | .switchContacts _ _ _ | .travelTimeout _ | .settleExpiry _ | .dwellExpiry _ | .unitFaultActive _
  | .unitFaultInactive _ | .pumpFaultActive | .pumpFaultInactive | .allocationPass | .channelArrival _ _
  | .channelTimeout _ | .flowPulse _ | .circuitGate _ | .programEvaluation _ | .permitExpiry _
  | .frameLenAbandoned _ | .breakEnd => none

end Sys2Proof
end

