-- ==== Sys2Proof/WellFormed.lean ====
section
/-!
DEFINITION. Which commands are well formed: the operands a frame, a receiver event or a permit timer can carry at all. A payload of
the wrong LENGTH is well formed (the part answers it BAD_LENGTH, R170); a payload longer than any frame is not.
-/

namespace Sys2Proof

/-- A frame's PAYLOAD is 0 to 249 bytes (9.1.1). -/
def payloadFits (p : List Byte) : Bool := decide (p.length ≤ 249)

/-- The bytes of one complete frame: SYNC, an accepted LEN, LEN + 1 body bytes and two CRC bytes (R166). -/
def isWholeFrame (bytes : List Byte) : Bool :=
  match bytes with
  | sync :: len :: rest =>
    sync == Config.syncByte && decide (1 ≤ len.toNat) && decide (len.toNat ≤ Config.maxLen) &&
      rest.length == len.toNat + 3
  | _ => false

/-- The bytes of a frame that has begun and is not complete (R166). -/
def isPartFrame (bytes : List Byte) : Bool :=
  match bytes with
  | [sync] => sync == Config.syncByte
  | sync :: len :: rest =>
    sync == Config.syncByte && decide (1 ≤ len.toNat) && decide (len.toNat ≤ Config.maxLen) &&
      decide (rest.length < len.toNat + 3)
  | [] => false

/-- The well-formed commands. -/
def Instr.wf : Instr → Bool
  | .frameReceived bytes => isWholeFrame bytes
  | .interByteGap bytes => isPartFrame bytes
  | .lineBreak bytes => bytes.isEmpty || isPartFrame bytes
  | .frameLenAbandoned len => len.toNat == 0 || decide (Config.maxLen < len.toNat)
  | .unknownKind kind _ payload => (RequestKind.ofCode kind).isNone && payloadFits payload
  | .permitExpiry id => decide (1 ≤ id) && decide (id ≤ 255)
  | i => match i.frame with
    | some (_, _, payload) => payloadFits payload
    | none => true

end Sys2Proof
end

