-- ==== Sys2Proof/Decode.lean ====
section
/-!
DEFINITION. The command a word of spec/opcode_table.json spells. The table gives NO bits to any of its rows (98_reader.md: rows with
fixed bits 0, rows with fields 0): the part's commands are frames of the link, field signals and timer events, not words.
-/

namespace Sys2Proof

/-- No row of the table has bits, so no word spells a command. -/
def decodeTableWord (_nbits _w : Nat) : Option Instr := none

end Sys2Proof
end

