-- ==== Sys2Proof/Machine/State.lean ====
section
/-!
DEFINITION. The state of the part: every table, record, queue, timer, mark and input level the manual names, as plain data.
What the manual calls state but defines as a function of other state (the bar, foldback and program-trip sets, the combined readings,
the paired stations, the output signals) is stored once and computed as a view (Machine/Ops.lean); INVENTORY.md lists both.
Times run in milliseconds here and are reported in whole seconds (log entry 2).
-/

namespace Sys2Proof.Machine

/-! ## Named values (00_scope.md 6.4) -/

/-- Heat phase (R17). -/
inductive Phase where
  | off | unknown | empty | melt | hold | superheat | tapping
  deriving DecidableEq, Repr

/-- Need class, highest first (R35). -/
inductive NeedClass where
  | urgent | tap | melt | keep | idle
  deriving DecidableEq, Repr

/-- Unit state (R67); a changeover state carries its target. -/
inductive UnitState where
  | inhibited
  | feeding
  | rampDown (target : Station)
  | switching (target : Station)
  | settling (target : Station)
  deriving DecidableEq, Repr

/-- Unit mode (4.1.1). -/
inductive UnitMode where
  | auto | manual
  deriving DecidableEq, Repr

/-- Watch program state (7.2). -/
inductive ProgState where
  | off | watch | count | active | latched | stale
  deriving DecidableEq, Repr

/-- Direction of an excursion (7.2). -/
inductive Dir where
  | high | low
  deriving DecidableEq, Repr

/-- Watch action, least severe first (R138). `nothing` is the manual's NONE. -/
inductive Action where
  | nothing | note | foldback | trip | emergency
  deriving DecidableEq, Repr

/-- Where an applied action came from (7.2). -/
inductive Source where
  | high | low | stale
  deriving DecidableEq, Repr

/-- What an evaluation found (7.2). `neither` is the manual's NONE. -/
inductive Finding where
  | high | low | neither | invalid
  deriving DecidableEq, Repr

/-- Program clear mode (7.1.1). -/
inductive ClearMode where
  | auto | latch
  deriving DecidableEq, Repr

/-- What a program reads (R129). -/
inductive Quantity where
  | flow | returned | delta | heat | excess | supply | bath
  deriving DecidableEq, Repr

/-- What a program's actions reach (7.1.1). -/
inductive Target where
  | unit (u : UnitId)
  | station (st : Station)
  deriving DecidableEq, Repr

/-- Dip origin (R51). -/
inductive DipOrigin where
  | lance | tap | declare
  deriving DecidableEq, Repr

/-- The eight heat flags, in the order in which a set of them crosses the link (2.6). -/
inductive HeatFlag where
  | overtemp | undertemp | clamped | underrun | drift | water | mixed | overfill
  deriving DecidableEq, Repr

/-- A set of heat flags: bit 0 OVERTEMP to bit 7 OVERFILL (9.2.1). -/
abbrev FlagSet := BitVec 8

/-! ## Settings (00_scope.md 6.6): the layout and the six tables the host writes -/

/-- A station's entry of the layout record (1.1). -/
structure LayoutStation where
  present : Bool
  unit : Option UnitId
  capacity : Nat
  deriving DecidableEq, Repr

/-- The layout record (R1). -/
structure Layout where
  loaded : Bool
  stations : Bank LayoutStation 4
  ratings : Bank Nat 2
  deriving DecidableEq, Repr

/-- The SHOP record, in the field order of 9.3. -/
structure ShopRec where
  c10 : Nat
  h : Nat
  tMelt : Nat
  dipAgeMax : Nat
  driftTol : Nat
  transferDrop : Nat
  minDwell : Nat
  contract : Nat
  interval : Nat
  baseLoad : Nat
  holdReserve : Nat
  demandSync : Bool
  lInst : Nat
  coolStart : Nat
  coolStop : Nat
  reservoir : Nat
  permitTime : Nat
  expiryLimit : Nat
  silenceTime : Nat
  deriving DecidableEq, Repr

/-- A STATION record (2.3.2). A set bit of the notice mask is a masked flag (log entry 8). -/
structure StationRec where
  lRef : Nat
  eta : Nat
  heelMin : Nat
  coilMinFlow : Nat
  mask : FlagSet
  deriving DecidableEq, Repr

/-- A UNIT record (4.1.1). -/
structure UnitRec where
  minPower : Nat
  rampRate : Nat
  travelTime : Nat
  mode : UnitMode
  deriving DecidableEq, Repr

/-- A PROGRAM record (7.1.1). -/
structure ProgramRec where
  enabled : Bool
  quantity : Quantity
  index : Nat
  high : Int
  low : Int
  hysteresis : Nat
  debounce : Nat
  period : Nat
  onHigh : Action
  onLow : Action
  onStale : Action
  percent : Nat
  staleLimit : Nat
  target : Target
  clear : ClearMode
  deriving DecidableEq, Repr

/-- A GRADE record (2.3.3), in tenths. -/
structure GradeRec where
  tapTarget : Nat
  tapWindow : Nat
  holdTarget : Nat
  holdBand : Nat
  maximum : Nat
  deriving DecidableEq, Repr

/-- A LINING record (1.3). -/
structure LiningRec where
  melted : Nat
  limit : Nat
  peak : Nat
  overtemp : Nat
  deriving DecidableEq, Repr

/-- The settings the host writes (00_scope.md 6.6). The CIRCUIT record is its one field K; the unit mode is the UNIT record's. -/
structure Settings where
  layout : Layout
  shop : ShopRec
  stations : Bank StationRec 4
  units : Bank UnitRec 2
  circuits : Bank Nat 10
  programs : Bank ProgramRec 16
  grades : Bank GradeRec 16
  deriving DecidableEq, Repr

/-! ## Heat model (chapters 2 and 3) -/

/-- The latest dip or tap reading (2.1). -/
structure LastDip where
  temp : Nat
  age : Nat
  deriving DecidableEq, Repr

/-- The heat record (2.1). The target is a function of the phase (R18). -/
structure HeatRec where
  phase : Phase
  grade : Option Grade
  heatNo : Nat
  chargeNo : Nat
  solid : Nat
  liquid : Nat
  tEst : Nat
  residual : Int
  lastDip : Option LastDip
  dipMark : Bool
  liquidAge : Option Nat
  flags : FlagSet
  energy : Nat
  deriving DecidableEq, Repr

/-- A dip history entry (R51). -/
structure DipEntry where
  temp : Nat
  estimate : Nat
  residual : Int
  origin : DipOrigin
  phase : Phase
  time : Nat
  deriving DecidableEq, Repr

/-- What the heat model keeps for one station: the record, the dip history, the request and class of the latest computation, the two
internal conditions of R32 and the step timer of R24 (`none` when stopped). -/
structure StationHeat where
  record : HeatRec
  history : List DipEntry
  request : Nat
  need : NeedClass
  aboveMax : Bool
  belowFloor : Bool
  stepTimer : Option Nat
  deriving DecidableEq, Repr

/-! ## Unit controllers (chapter 4) -/

/-- The six fixed causes (4.4). -/
structure Causes where
  noLayout : Bool
  restart : Bool
  unitFault : Bool
  pump : Bool
  switch : Bool
  noDecay : Bool
  deriving DecidableEq, Repr

/-- A switch travel under way (4.1). -/
structure Travel where
  target : Station
  timer : Nat
  deriving DecidableEq, Repr

/-- The unit record (4.1) but for the mode (a UNIT field) and the program causes and foldback set (views over the programs).
`origin` is the station the unit stood at when the latest changeover began (R80 reports it); `inhibitedMs` is the time spent in the
present INHIBITED (R75 reports it); `dwellDone` says that the dwell expiry of this FEEDING has happened (R85: once per entry). -/
structure PowerUnit where
  state : UnitState
  position : Option Station
  travel : Option Travel
  causes : Causes
  decayTimer : Option Nat
  settleTimer : Option Nat
  feedingMs : Nat
  dwellDone : Bool
  inhibitedMs : Nat
  grant : Nat
  measured : Nat
  origin : Option Station
  deriving DecidableEq, Repr

/-! ## Power allocator (5.1) -/

/-- The allocator's state (5.1). -/
structure Allocator where
  flushMark : Bank Bool 2
  eUsed : Nat
  t : Nat
  syncLost : Bool
  pDem : Nat
  pCool : Nat
  passTimer : Nat
  deriving DecidableEq, Repr

/-! ## Cooling monitor (6.1) -/

/-- A temperature channel: its reading (`none` is INVALID) and its timer (`none` once it has expired). -/
structure ChannelSt where
  reading : Option Int
  timer : Option Nat
  deriving DecidableEq, Repr

/-- A water circuit: pulse count, gate timer, evaluated mark and the quantities of the latest gate (`none` is INVALID). -/
structure CircuitSt where
  pulses : Nat
  gateTimer : Nat
  evaluated : Bool
  flow : Option Nat
  delta : Option Int
  heat : Option Nat
  excess : Option Int
  deriving DecidableEq, Repr

/-- The reservoir account (6.6). -/
structure Reservoir where
  drawn : Nat
  lowMark : Bool
  exhaustedMark : Bool
  deriving DecidableEq, Repr

/-! ## Watch engine (7.2) -/

/-- A program's run state (7.2). -/
structure RunState where
  state : ProgState
  direction : Option Dir
  latchedDir : Option Dir
  lastConfirmed : Option Dir
  debounce : Nat
  stale : Nat
  applied : Option (Action × Source)
  lastResult : Option Finding
  positive : Bool
  negative : Bool
  periodTimer : Option Nat
  deriving DecidableEq, Repr

/-! ## Ladle scheduler (8.1) -/

/-- A permit: id, time left in milliseconds, started mark. -/
structure Permit where
  id : Nat
  leftMs : Nat
  started : Bool
  deriving DecidableEq, Repr

/-- A queue entry (8.1). -/
structure QueueEntry where
  ladle : Nat
  grade : Grade
  mass : Nat
  target : Nat
  station : Option Station
  permit : Option Permit
  expiries : Nat
  dipCall : Option Nat
  deriving DecidableEq, Repr

/-- The tap queue, head first, and the permit counter (8.1). -/
structure TapQueue where
  entries : List QueueEntry
  permitCounter : Nat
  deriving DecidableEq, Repr

/-! ## Link controller (9.1) -/

/-- A received frame that waits for its dispatch. -/
structure Frame where
  kind : Byte
  tag : Byte
  payload : List Byte
  deriving DecidableEq, Repr

/-- Receiver state (9.1): hunting for SYNC, or a frame in progress with the bytes taken so far, SYNC first. -/
inductive Receiver where
  | hunt
  | inFrame (bytes : List Byte)
  deriving DecidableEq, Repr

/-- Reply codes, in the order of their numbers (R170). -/
inductive ReplyCode where
  | ok | clamped | unknownKind | badLength | badValue | noLayout | layoutLocked | stationOff
  | wrongPhase | busy | sequence | full | duplicate | notFound | metalPresent | stillActive
  | imageInvalid | liningSpent | barred | wrongMode | gradeMismatch | assigned | inhibited | notReady
  deriving DecidableEq, Repr

/-- A reply: the KIND and TAG of the request it answers, the code and the reply data. -/
structure Reply where
  kind : Byte
  tag : Byte
  code : ReplyCode
  data : List Byte
  deriving DecidableEq, Repr

/-- Notice kinds, in the order of their codes 0x40 to 0x4F (9.5). -/
inductive NoticeKind where
  | trip | tripClear | emergencyWater | reservoir | meltDone | heatFlag | dipWanted | stationAssigned
  | tapGrant | permitExpired | ladleDropped | changeover | watch | demand | lining | link
  deriving DecidableEq, Repr

/-- A notice record (9.5): subject 0 where there is none, `none` for an absent value. -/
structure Notice where
  kind : NoticeKind
  subject : Nat
  time : Nat
  v1 : Option Int
  v2 : Option Int
  v3 : Option Int
  deriving DecidableEq, Repr

/-- What the transmitter is sending (R177). -/
inductive Sending where
  | reply (r : Reply)
  | notice (n : Notice)
  deriving DecidableEq, Repr

/-- Progress of a RESTART request (R174): none asked for; its reply not yet sent whole; the reply sent, the restart due. -/
inductive RestartStage where
  | none | replying | due
  deriving DecidableEq, Repr

/-- The link controller's state (9.1). `lineLow` is the level of the receive line during a break; `silentMs` is the time since the
entry into silence (R179 reports it). -/
structure Link where
  receiver : Receiver
  lineLow : Bool
  rx : List Frame
  pendingReply : Option Reply
  sending : Option Sending
  notices : List Notice
  discarded : Nat
  noticesLost : Bool
  silenceTimer : Option Nat
  silent : Bool
  silentMs : Nat
  silenceMark : Bool
  restart : RestartStage
  deriving DecidableEq, Repr

/-! ## Field inputs -/

/-- The two position contacts of a changeover switch; true is closed (R69). -/
structure Contacts where
  a : Bool
  b : Bool
  deriving DecidableEq, Repr

/-- The levels of the field lines as they stand (00_scope.md 3). -/
structure Lines where
  unitFault : Bank Bool 2
  pumpFault : Bool
  contacts : Bank Contacts 2
  deriving DecidableEq, Repr

/-! ## The part -/

/-- The state of the part and the queue of commands that wait for it. -/
structure State where
  /-- Layout record and settings tables. -/
  cfg : Settings
  /-- Station enables (R10). -/
  enabled : Bank Bool 4
  /-- LINING records (1.3). -/
  linings : Bank LiningRec 4
  /-- What the heat model keeps per station. -/
  heats : Bank StationHeat 4
  /-- Shop heat counter (R16). -/
  heatCounter : Nat
  /-- Inflow tally, kg (R64). -/
  inflow : Nat
  /-- Outflow tally, kg (R64). -/
  outflow : Nat
  /-- Unit records (4.1). -/
  units : Bank PowerUnit 2
  /-- Allocator (5.1). -/
  alloc : Allocator
  /-- Temperature channels (6.1). -/
  channels : Bank ChannelSt 16
  /-- Water circuits (6.1). -/
  circuits : Bank CircuitSt 10
  /-- Emergency-water valves, true is OPEN (R119). -/
  valves : Bank Bool 4
  /-- Reservoir account (6.6). -/
  reservoir : Reservoir
  /-- Run state of the watch programs (7.2). -/
  runs : Bank RunState 16
  /-- Tap queue (8.1). -/
  taps : TapQueue
  /-- Link controller (9.1). -/
  link : Link
  /-- Levels of the field lines. -/
  lines : Lines
  /-- Whether the reset line holds the part (R14). -/
  resetHeld : Bool
  /-- Time since the part last began or resumed, in milliseconds; part time is its whole seconds (R14). -/
  clockMs : Nat
  /-- Commands that wait, first in, first out (the model's own field). -/
  pending : List Instr
  deriving DecidableEq, Repr

/-- Reasons to stop with a fault. There are none: the manual answers every request and gives every event its effect, and no event
stops the part (log entry 5). -/
inductive Fault where
  deriving DecidableEq, Repr

/-- Reasons to refuse a command. -/
inductive Refusal where
  /-- Raised by `exec` alone, for a command that has no meaning yet; safe, since the model then says nothing of it. -/
  | notModelled (mnemonic : String)
  deriving DecidableEq, Repr

/-! ## Power-on values -/

/-- The clear record with a given phase (R15). -/
def HeatRec.clear (phase : Phase) : HeatRec :=
  { phase, grade := none, heatNo := 0, chargeNo := 0, solid := 0, liquid := 0, tEst := 0, residual := 0,
    lastDip := none, dipMark := false, liquidAge := none, flags := 0, energy := 0 }

/-- What the heat model keeps beside a clear record (R15). -/
def StationHeat.clear (phase : Phase) : StationHeat :=
  { record := HeatRec.clear phase, history := [], request := 0, need := .idle, aboveMax := false,
    belowFloor := false, stepTimer := none }

/-- An absent station's layout entry (1.1). -/
def LayoutStation.absent : LayoutStation := { present := false, unit := none, capacity := 0 }

/-- The layout record at power-on (R1). -/
def Layout.blank : Layout :=
  { loaded := false, stations := Vector.replicate 4 LayoutStation.absent, ratings := Vector.replicate 2 0 }

/-- The SHOP defaults (2.3.1, 5.3, 5.4, 6.4, 8.4, 9.3); L_inst is 0 at power-on (R108). -/
def ShopRec.default : ShopRec :=
  { c10 := 82, h := 1250, tMelt := 12500, dipAgeMax := 600, driftTol := 250, transferDrop := 150, minDwell := 60,
    contract := 0, interval := 900, baseLoad := 0, holdReserve := 0, demandSync := false, lInst := 0,
    coolStart := 320, coolStop := 400, reservoir := 8000, permitTime := 120, expiryLimit := 3, silenceTime := 10 }

/-- The STATION defaults (2.3.2). -/
def StationRec.default : StationRec := { lRef := 150, eta := 750, heelMin := 0, coilMinFlow := 300, mask := 0 }

/-- The UNIT defaults (4.1.1). -/
def UnitRec.default : UnitRec := { minPower := 80, rampRate := 200, travelTime := 8, mode := .auto }

/-- The PROGRAM defaults (7.1.1). -/
def ProgramRec.default : ProgramRec :=
  { enabled := false, quantity := .flow, index := 1, high := 32767, low := -32768, hysteresis := 0, debounce := 3,
    period := 1000, onHigh := .nothing, onLow := .nothing, onStale := .nothing, percent := 50, staleLimit := 10,
    target := .unit 0, clear := .auto }

/-- The GRADE defaults (2.3.3). -/
def GradeRec.default : GradeRec :=
  { tapTarget := 14800, tapWindow := 100, holdTarget := 14200, holdBand := 100, maximum := 15400 }

/-- The LINING record at power-on (1.3). -/
def LiningRec.zero : LiningRec := { melted := 0, limit := 0, peak := 0, overtemp := 0 }

/-- Layout and tables at power-on; the CIRCUIT default of K is 4,500 (6.4). -/
def Settings.default : Settings :=
  { layout := Layout.blank, shop := ShopRec.default, stations := Vector.replicate 4 StationRec.default,
    units := Vector.replicate 2 UnitRec.default, circuits := Vector.replicate 10 4500,
    programs := Vector.replicate 16 ProgramRec.default, grades := Vector.replicate 16 GradeRec.default }

/-- No fixed cause. -/
def Causes.clear : Causes :=
  { noLayout := false, restart := false, unitFault := false, pump := false, switch := false, noDecay := false }

/-- A unit just after a reset, but for its causes and position (R65, R84). -/
def PowerUnit.afterReset (causes : Causes) (position : Option Station) : PowerUnit :=
  { state := .inhibited, position, travel := none, causes, decayTimer := none, settleTimer := none, feedingMs := 0,
    dwellDone := false, inhibitedMs := 0, grant := 0, measured := 0, origin := none }

/-- The allocator just after a reset (R90). -/
def Allocator.afterReset (syncLost : Bool) : Allocator :=
  { flushMark := Vector.replicate 2 false, eUsed := 0, t := 0, syncLost, pDem := 0, pCool := 0,
    passTimer := Config.secondMs }

/-- A channel just after a reset (R109, R110). -/
def ChannelSt.afterReset : ChannelSt := { reading := none, timer := some Config.channelMs }

/-- A circuit just after a reset (R114) with the evaluated mark R113 leaves it. -/
def CircuitSt.afterReset (evaluated : Bool) : CircuitSt :=
  { pulses := 0, gateTimer := Config.gateMs, evaluated, flow := none, delta := none, heat := none, excess := none }

/-- An empty reservoir account (R126). -/
def Reservoir.zero : Reservoir := { drawn := 0, lowMark := false, exhaustedMark := false }

/-- The run state of a program that is OFF and has nothing recorded (R130). -/
def RunState.off : RunState :=
  { state := .off, direction := none, latchedDir := none, lastConfirmed := none, debounce := 0, stale := 0,
    applied := none, lastResult := none, positive := false, negative := false, periodTimer := none }

/-- The tap queue after either reset (R147). -/
def TapQueue.blank : TapQueue := { entries := [], permitCounter := 1 }

/-- The link controller after either reset (9.1) with a silence time in seconds; the level of the receive line is the field's. -/
def Link.afterReset (silenceTime : Nat) (lineLow : Bool) : Link :=
  { receiver := .hunt, lineLow, rx := [], pendingReply := none, sending := none, notices := [], discarded := 0,
    noticesLost := false, silenceTimer := some (silenceTime * 1000), silent := false, silentMs := 0,
    silenceMark := false, restart := .none }

/-- The field lines with nothing active and every contact open (log entry 4). -/
def Lines.quiet : Lines :=
  { unitFault := Vector.replicate 2 false, pumpFault := false, contacts := Vector.replicate 2 { a := false, b := false } }

/-- The part right after power is applied, with the field lines at these levels (R14, R65). -/
def State.poweredOn (lines : Lines) (lineLow : Bool) (pending : List Instr) : State :=
  { cfg := Settings.default
    enabled := Vector.replicate 4 false
    linings := Vector.replicate 4 LiningRec.zero
    heats := Vector.replicate 4 (StationHeat.clear .off)
    heatCounter := 1
    inflow := 0
    outflow := 0
    units := overAll (fun fault => PowerUnit.afterReset
      { Causes.clear with noLayout := true, unitFault := fault, pump := lines.pumpFault } none) lines.unitFault
    alloc := Allocator.afterReset false
    channels := Vector.replicate 16 ChannelSt.afterReset
    circuits := Vector.replicate 10 (CircuitSt.afterReset false)
    valves := Vector.replicate 4 false
    reservoir := Reservoir.zero
    runs := Vector.replicate 16 RunState.off
    taps := TapQueue.blank
    link := Link.afterReset ShopRec.default.silenceTime lineLow
    lines := lines
    resetHeld := false
    clockMs := 0
    pending := pending }

/-- The machine right after reset: power-on with no line active, no command waiting. -/
def State.reset : State := State.poweredOn Lines.quiet false []

end Sys2Proof.Machine
end

