-- ==== Sys2Proof/Machine/Flags.lean ====
section
/-!
DEFINITION. Sets as the manual's tables order them: heat flags (2.6), fixed causes and programs (9.2.1), and the severity order of
watch actions (R138) and need classes (R86).
-/

namespace Sys2Proof.Machine

/-- The place of a flag in a flag set: bit 0 OVERTEMP to bit 7 OVERFILL (9.2.1). -/
def HeatFlag.bit : HeatFlag → Nat
  | .overtemp => 0 | .undertemp => 1 | .clamped => 2 | .underrun => 3
  | .drift => 4 | .water => 5 | .mixed => 6 | .overfill => 7

/-- The set holding one flag. -/
def HeatFlag.mask (f : HeatFlag) : FlagSet := 1#8 <<< f.bit

/-- Whether a flag is in a set. -/
def hasFlag (fs : FlagSet) (f : HeatFlag) : Bool := fs.getLsbD f.bit

/-- The set with one flag added (R37). -/
def setFlag (fs : FlagSet) (f : HeatFlag) : FlagSet := fs ||| f.mask

/-- The set with the named flags taken out (R39). -/
def clearFlags (fs named : FlagSet) : FlagSet := fs &&& ~~~named

/-- Bit `k` of a byte built from Booleans. -/
def bitIf (b : Bool) (k : Nat) : Nat := if b then 2 ^ k else 0

/-- The fixed causes as one byte (9.2.1, TRIP RESET): bit 0 NO_LAYOUT to bit 5 NO_DECAY. -/
def Causes.bits (c : Causes) : Nat :=
  bitIf c.noLayout 0 + bitIf c.restart 1 + bitIf c.unitFault 2 + bitIf c.pump 3 + bitIf c.switch 4 + bitIf c.noDecay 5

/-- Whether no fixed cause stands. -/
def Causes.isEmpty (c : Causes) : Bool :=
  !c.noLayout && !c.restart && !c.unitFault && !c.pump && !c.switch && !c.noDecay

/-- A set of programs as two bytes (9.2.1): bit 0 W1 to bit 15 W16. The list holds no program twice. -/
def programBits (ps : List Program) : Nat := (ps.map (fun p => 2 ^ p.val)).sum

/-- Severity of an action (R138). -/
def Action.severity : Action → Nat
  | .nothing => 0 | .note => 1 | .foldback => 2 | .trip => 3 | .emergency => 4

/-- Whether an action puts its program into a trip or bar set (R140). -/
def Action.trips : Action → Bool
  | .trip | .emergency => true
  | _ => false

/-- Height of a need class: URGENT over TAP over MELT over KEEP over NONE (R86). -/
def NeedClass.height : NeedClass → Nat
  | .urgent => 4 | .tap => 3 | .melt => 2 | .keep => 1 | .idle => 0

/-- The four running phases (2.2). -/
def Phase.running : Phase → Bool
  | .melt | .hold | .superheat | .tapping => true
  | _ => false

/-- Whether a station in this phase holds metal, for the cooling monitor (6.5): a running phase or UNKNOWN. -/
def Phase.holdsMetal : Phase → Bool
  | .unknown => true
  | p => p.running

/-- The direction an action's source has, if it came from an excursion (R137). -/
def Source.dir : Source → Option Dir
  | .high => some .high
  | .low => some .low
  | .stale => none

/-- The source an excursion gives its action. -/
def Dir.source : Dir → Source
  | .high => .high
  | .low => .low

/-- The finding a direction stands for. -/
def Dir.finding : Dir → Finding
  | .high => .high
  | .low => .low

end Sys2Proof.Machine
end

