-- ==== Sys2Proof/Machine/Operands.lean ====
section
/-!
DEFINITION. Numbers and named values as they stand on the link: little-endian fields of a payload, read and written (00_scope.md 6.3),
and the code of every named value (9.2.1: from 0 in the order in which the manual's tables list the set; stations from 1, units from
1, 0 for none).
-/

namespace Sys2Proof.Machine

/-! ## Reading a payload -/

/-- The byte at an offset. Every use follows the length check of R170 or R172, which makes the offset lie inside. -/
def u8At (p : List Byte) (i : Nat) : Nat := (p.getD i 0).toNat

/-- A two-byte unsigned field. -/
def u16At (p : List Byte) (i : Nat) : Nat := u8At p i + 256 * u8At p (i + 1)

/-- A number of `w` bytes read as signed, two's complement. -/
def asSigned (bits n : Nat) : Int := if n < 2 ^ (bits - 1) then (n : Int) else (n : Int) - 2 ^ bits

/-- A two-byte signed field. -/
def s16At (p : List Byte) (i : Nat) : Int := asSigned 16 (u16At p i)

/-- A four-byte unsigned field. -/
def u32At (p : List Byte) (i : Nat) : Nat := u16At p i + 65536 * u16At p (i + 2)

/-- An eight-byte signed field. -/
def s64At (p : List Byte) (i : Nat) : Int := asSigned 64 (u32At p i + 4294967296 * u32At p (i + 4))

/-! ## Writing -/

/-- The low `w` bytes of a number, low byte first. -/
def le : (w : Nat) → Nat → List Byte
  | 0, _ => []
  | w + 1, n => BitVec.ofNat 8 n :: le w (n / 256)

/-- A signed number in `w` bytes, two's complement, low byte first. -/
def leSigned (w : Nat) (v : Int) : List Byte := le w (v % (256 ^ w : Nat)).toNat

/-- One byte. -/
def byteOf (n : Nat) : Byte := BitVec.ofNat 8 n

/-! ## Codes -/

/-- Yes is 1 and no is 0 (9.2.1). -/
def yesNo (b : Bool) : Nat := if b then 1 else 0

/-- A yes/no field, if the code is in the set. -/
def yesNoOf : Nat → Option Bool
  | 0 => some false
  | 1 => some true
  | _ => none

/-- A station's number on the link, 1 to 4 (9.2.1). -/
def stationCode (st : Station) : Nat := st.val + 1

/-- A station or NONE, 0 for none (9.2.1). -/
def stationOrNone : Option Station → Nat
  | some st => stationCode st
  | none => 0

/-- A unit's number on the link, 1 or 2. -/
def unitCode (u : UnitId) : Nat := u.val + 1

/-- A unit or none, 0 for none. -/
def unitOrNone : Option UnitId → Nat
  | some u => unitCode u
  | none => 0

/-- The station a number names, if it lies in S1 to S4. -/
def stationOf (n : Nat) : Option Station := if h : 1 ≤ n ∧ n ≤ 4 then some ⟨n - 1, by omega⟩ else none

/-- The unit a number names, if it lies in U1 to U2. -/
def unitNumber (n : Nat) : Option UnitId := if h : 1 ≤ n ∧ n ≤ 2 then some ⟨n - 1, by omega⟩ else none

/-- The grade a number names, if it lies in G0 to G15. -/
def gradeOf (n : Nat) : Option Grade := if h : n < 16 then some ⟨n, h⟩ else none

/-- Heat phase OFF 0 to TAPPING 6. -/
def Phase.code : Phase → Nat
  | .off => 0 | .unknown => 1 | .empty => 2 | .melt => 3 | .hold => 4 | .superheat => 5 | .tapping => 6

/-- Unit state INHIBITED 0 to SETTLING 4. -/
def UnitState.code : UnitState → Nat
  | .inhibited => 0 | .feeding => 1 | .rampDown _ => 2 | .switching _ => 3 | .settling _ => 4

/-- AUTO 0, MANUAL 1. -/
def UnitMode.code : UnitMode → Nat
  | .auto => 0 | .manual => 1

/-- The unit mode a code names. -/
def unitModeOf : Nat → Option UnitMode
  | 0 => some .auto
  | 1 => some .manual
  | _ => none

/-- Program state OFF 0 to STALE 5. -/
def ProgState.code : ProgState → Nat
  | .off => 0 | .watch => 1 | .count => 2 | .active => 3 | .latched => 4 | .stale => 5

/-- HIGH 0, LOW 1. -/
def Dir.code : Dir → Nat
  | .high => 0 | .low => 1

/-- NONE 0 to EMERGENCY 4. -/
def Action.code (a : Action) : Nat := a.severity

/-- The action a code names. -/
def actionOf : Nat → Option Action
  | 0 => some .nothing | 1 => some .note | 2 => some .foldback | 3 => some .trip | 4 => some .emergency
  | _ => none

/-- HIGH 0, LOW 1, STALE 2. -/
def Source.code : Source → Nat
  | .high => 0 | .low => 1 | .stale => 2

/-- HIGH 0, LOW 1, NONE 2, INVALID 3. -/
def Finding.code : Finding → Nat
  | .high => 0 | .low => 1 | .neither => 2 | .invalid => 3

/-- AUTO 0, LATCH 1. -/
def ClearMode.code : ClearMode → Nat
  | .auto => 0 | .latch => 1

/-- The clear mode a code names. -/
def clearModeOf : Nat → Option ClearMode
  | 0 => some .auto
  | 1 => some .latch
  | _ => none

/-- FLOW 0 to BATH 6. -/
def Quantity.code : Quantity → Nat
  | .flow => 0 | .returned => 1 | .delta => 2 | .heat => 3 | .excess => 4 | .supply => 5 | .bath => 6

/-- The quantity a code names. -/
def quantityOf : Nat → Option Quantity
  | 0 => some .flow | 1 => some .returned | 2 => some .delta | 3 => some .heat | 4 => some .excess
  | 5 => some .supply | 6 => some .bath
  | _ => none

/-- The target of a PROGRAM record: U1 0, U2 1, S1 2 to S4 5 (9.3). -/
def Target.code : Target → Nat
  | .unit u => u.val
  | .station st => st.val + 2

/-- The target a code names. -/
def targetOf (n : Nat) : Option Target :=
  if h : n < 2 then some (.unit ⟨n, h⟩)
  else if h : n < 6 then some (.station ⟨n - 2, by omega⟩)
  else none

/-- LANCE 0, TAP 1, DECLARE 2. -/
def DipOrigin.code : DipOrigin → Nat
  | .lance => 0 | .tap => 1 | .declare => 2

/-- The number of a reply code (R170). -/
def ReplyCode.code : ReplyCode → Nat
  | .ok => 0 | .clamped => 1 | .unknownKind => 2 | .badLength => 3 | .badValue => 4 | .noLayout => 5
  | .layoutLocked => 6 | .stationOff => 7 | .wrongPhase => 8 | .busy => 9 | .sequence => 10 | .full => 11
  | .duplicate => 12 | .notFound => 13 | .metalPresent => 14 | .stillActive => 15 | .imageInvalid => 16
  | .liningSpent => 17 | .barred => 18 | .wrongMode => 19 | .gradeMismatch => 20 | .assigned => 21
  | .inhibited => 22 | .notReady => 23

/-- The number of a notice kind, 0x40 to 0x4F (9.5). -/
def NoticeKind.code : NoticeKind → Nat
  | .trip => 0x40 | .tripClear => 0x41 | .emergencyWater => 0x42 | .reservoir => 0x43 | .meltDone => 0x44
  | .heatFlag => 0x45 | .dipWanted => 0x46 | .stationAssigned => 0x47 | .tapGrant => 0x48
  | .permitExpired => 0x49 | .ladleDropped => 0x4A | .changeover => 0x4B | .watch => 0x4C | .demand => 0x4D
  | .lining => 0x4E | .link => 0x4F

/-- Whether a notice is class A (9.5). -/
def NoticeKind.classA : NoticeKind → Bool
  | .trip | .tripClear | .emergencyWater | .reservoir => true
  | _ => false

end Sys2Proof.Machine
end

