-- ==== Sys2Proof/Machine/Wire.lean ====
section
/-!
DEFINITION. The byte layouts the host sees (chapter 9): the CRC and the frame, the reply frame, the notice record, the heat image, the
dip history entry and the queue entry.
-/

namespace Sys2Proof.Machine

/-! ## CRC and frame (9.1.1, R166) -/

/-- The CRC register after one bit of input (R166). -/
def crcBit (r : BitVec 16) (bit : Bool) : BitVec 16 :=
  if xor (r.getLsbD 0) bit then (r >>> 1) ^^^ 0xA001#16 else r >>> 1

/-- The CRC register after one byte, least significant bit first (R166). -/
def crcByte (r : BitVec 16) (b : Byte) : BitVec 16 :=
  [0, 1, 2, 3, 4, 5, 6, 7].foldl (fun r k => crcBit r (b.getLsbD k)) r

/-- The check value over LEN and the body: the ones complement of the register (R166). -/
def crc (bytes : List Byte) : BitVec 16 := ~~~(bytes.foldl crcByte 0)

/-- A check value as its two bytes, low byte first. -/
def crcBytes (v : BitVec 16) : List Byte := le 2 v.toNat

/-- A whole frame: SYNC, LEN, KIND, TAG, PAYLOAD, CRC (9.1.1). -/
def frameBytes (kind tag : Byte) (payload : List Byte) : List Byte :=
  let body := byteOf (payload.length + 1) :: kind :: tag :: payload
  Config.syncByte :: (body ++ crcBytes (crc body))

/-- The KIND of the reply to a request: the low eight bits of its KIND plus 0x80 (R170). -/
def replyKind (kind : Byte) : Byte := kind + 0x80

/-- The bytes of a reply frame (R170). -/
def Reply.bytes (r : Reply) : List Byte := frameBytes (replyKind r.kind) r.tag (byteOf r.code.code :: r.data)

/-! ## Notice record (9.5) -/

/-- A value of a notice: four bytes, 0 where it is absent. -/
def noticeValue (v : Option Int) : List Byte := leSigned 4 (v.getD 0)

/-- The 20-byte notice record (9.5). -/
def Notice.record (n : Notice) : List Byte :=
  [byteOf n.kind.code, byteOf (if n.kind.classA then 0 else 1), byteOf n.subject,
    byteOf (bitIf n.v1.isNone 0 + bitIf n.v2.isNone 1 + bitIf n.v3.isNone 2)] ++
  le 4 n.time ++ noticeValue n.v1 ++ noticeValue n.v2 ++ noticeValue n.v3

/-- The bytes of a notice frame: TAG is 0 (9.5). -/
def Notice.bytes (n : Notice) : List Byte := frameBytes (byteOf n.kind.code) 0 n.record

/-- The bytes of the frame the transmitter is sending. -/
def Sending.bytes : Sending → List Byte
  | .reply r => r.bytes
  | .notice n => n.bytes

/-! ## Records inside replies -/

/-- The heat image of a record (9.2.2); `dipAge` stands in the age bytes where the last dip is absent. -/
def heatImage (st : Station) (r : HeatRec) (dipAge : BitVec 32) : List Byte :=
  [1, byteOf (stationCode st), byteOf r.phase.code,
    (match r.grade with | some g => byteOf g.val | none => 0xFF)] ++
  le 2 r.heatNo ++ [byteOf r.chargeNo, r.flags] ++ le 4 r.solid ++ le 4 r.liquid ++ le 2 r.tEst ++
  (match r.lastDip with
    | some d => le 2 d.temp ++ le 4 d.age
    | none => le 2 0 ++ le 4 dipAge.toNat) ++
  le 4 (r.liquidAge.getD top32) ++ leSigned 8 r.residual ++ le 4 r.energy ++ le 8 0

/-- A dip history entry (9.2.1): temperature, estimate, residual, origin, phase, part time. -/
def DipEntry.bytes (e : DipEntry) : List Byte :=
  le 2 e.temp ++ le 2 e.estimate ++ leSigned 2 e.residual ++ [byteOf e.origin.code, byteOf e.phase.code] ++ le 4 e.time

/-- Seconds left of a permit: they fall by 1 each full second from the issue (R158). -/
def Permit.secondsLeft (p : Permit) : Nat := (p.leftMs + 999) / 1000

/-- A queue entry (9.2.3). -/
def QueueEntry.bytes (e : QueueEntry) : List Byte :=
  [byteOf e.ladle, byteOf e.grade.val] ++ le 2 e.mass ++ le 2 e.target ++ [byteOf (stationOrNone e.station)] ++
  (match e.permit with
    | some p => byteOf p.id :: (le 2 p.secondsLeft ++ [byteOf (yesNo p.started)])
    | none => 0 :: (le 2 0 ++ [0])) ++
  [byteOf e.expiries]

/-- A code or the 0xFF that stands for absence (9.2.1, WATCH STATUS). -/
def codeOrAbsent : Option Nat → Byte
  | some n => byteOf n
  | none => 0xFF

/-- The direction WATCH STATUS shows: 0xFF outside COUNT, ACTIVE and LATCHED (9.2.1). -/
def RunState.shownDirection (r : RunState) : Option Nat :=
  match r.state with
  | .count | .active | .latched => r.direction.map Dir.code
  | _ => none

/-- The eight bytes of one program in WATCH STATUS (9.2.1). -/
def RunState.bytes (r : RunState) : List Byte :=
  [byteOf r.state.code, codeOrAbsent r.shownDirection,
    codeOrAbsent (r.applied.map (fun a => a.1.code)), codeOrAbsent (r.applied.map (fun a => a.2.code)),
    byteOf r.debounce, byteOf r.stale, codeOrAbsent (r.lastResult.map Finding.code),
    byteOf (bitIf r.positive 0 + bitIf r.negative 1)]

end Sys2Proof.Machine
end

