-- ==== Sys2Proof/Machine/Ops.lean ====
section
/-!
DEFINITION. The named operations every block shares: reading and updating one station, unit, program, channel or circuit; the views
the manual defines over other state (pairing, contacts, active station, bar and trip sets, combined readings, outputs); and the
notice queue.
-/

namespace Sys2Proof.Machine

/-! ## One place of the state -/

/-- Part time: whole seconds since the last restart or power-on (R14). -/
def State.partTime (s : State) : Nat := s.clockMs / 1000

/-- What the heat model keeps for a station. -/
def State.heat (s : State) (st : Station) : StationHeat := look s.heats st
/-- The heat record of a station. -/
def State.record (s : State) (st : Station) : HeatRec := (look s.heats st).record
/-- The phase of a station. -/
def State.phase (s : State) (st : Station) : Phase := (look s.heats st).record.phase
/-- The unit record. -/
def State.unit (s : State) (u : UnitId) : PowerUnit := look s.units u
/-- The run state of a program. -/
def State.run (s : State) (p : Program) : RunState := look s.runs p
/-- The PROGRAM record of a program. -/
def State.program (s : State) (p : Program) : ProgramRec := look s.cfg.programs p
/-- The STATION record of a station. -/
def State.stationRec (s : State) (st : Station) : StationRec := look s.cfg.stations st
/-- The UNIT record of a unit. -/
def State.unitRec (s : State) (u : UnitId) : UnitRec := look s.cfg.units u
/-- The GRADE record of a grade. -/
def State.gradeRec (s : State) (g : Grade) : GradeRec := look s.cfg.grades g
/-- A station's entry of the layout record. -/
def State.layoutOf (s : State) (st : Station) : LayoutStation := look s.cfg.layout.stations st

/-- Change what the heat model keeps for a station. -/
def State.onHeat (s : State) (st : Station) (f : StationHeat → StationHeat) : State :=
  { s with heats := place s.heats st (f (look s.heats st)) }
/-- Change a heat record. -/
def State.onRecord (s : State) (st : Station) (f : HeatRec → HeatRec) : State :=
  s.onHeat st (fun h => { h with record := f h.record })
/-- Change a unit record. -/
def State.onUnit (s : State) (u : UnitId) (f : PowerUnit → PowerUnit) : State :=
  { s with units := place s.units u (f (look s.units u)) }
/-- Change a run state. -/
def State.onRun (s : State) (p : Program) (f : RunState → RunState) : State :=
  { s with runs := place s.runs p (f (look s.runs p)) }
/-- Change a channel. -/
def State.onChannel (s : State) (c : Channel) (f : ChannelSt → ChannelSt) : State :=
  { s with channels := place s.channels c (f (look s.channels c)) }
/-- Change a circuit. -/
def State.onCircuit (s : State) (c : Circuit) (f : CircuitSt → CircuitSt) : State :=
  { s with circuits := place s.circuits c (f (look s.circuits c)) }
/-- Change the link controller. -/
def State.onLink (s : State) (f : Link → Link) : State := { s with link := f s.link }
/-- Change the settings. -/
def State.onCfg (s : State) (f : Settings → Settings) : State := { s with cfg := f s.cfg }
/-- Replace the tap queue's entries. -/
def State.withEntries (s : State) (es : List QueueEntry) : State := { s with taps := { s.taps with entries := es } }

/-! ## Notices (R175, R176) -/

/-- Whether a notice is class A (9.5). -/
def Notice.classA (n : Notice) : Bool := n.kind.classA

/-- The notice queue after a notice arrives, and whether one was lost (R175, R176). -/
def placeNotice (q : List Notice) (n : Notice) : List Notice × Bool :=
  if q.length < Config.noticeDepth then (q ++ [n], false)
  else if q.any (fun m => !m.classA) then (q.eraseP (fun m => !m.classA) ++ [n], true)
  else if n.classA then (q.tail ++ [n], true)
  else (q, true)

/-- Queue a notice with the part time of the event (R175). -/
def State.notify (s : State) (kind : NoticeKind) (subject : Nat) (v1 v2 v3 : Option Int) : State :=
  let placed := placeNotice s.link.notices { kind, subject, time := s.partTime, v1, v2, v3 }
  s.onLink (fun l => { l with notices := placed.1, noticesLost := l.noticesLost || placed.2 })

/-- A number as a notice value. -/
def nat (n : Nat) : Option Int := some (n : Int)

/-! ## Layout views -/

/-- The unit a station is paired with (1.1). -/
def State.unitOf (s : State) (st : Station) : Option UnitId := (s.layoutOf st).unit

/-- The present stations paired with a unit, in station order (1.1). -/
def State.paired (s : State) (u : UnitId) : List Station :=
  allStations.filter (fun st => (s.layoutOf st).present && ((s.layoutOf st).unit == some u))

/-- Whether a unit is used (1.1). -/
def State.used (s : State) (u : UnitId) : Bool := !(s.paired u).isEmpty

/-- The rating of a unit. -/
def State.rating (s : State) (u : UnitId) : Nat := look s.cfg.layout.ratings u

/-- The rating of a station's unit. -/
def State.stationRating (s : State) (st : Station) : Nat :=
  match s.unitOf st with
  | some u => s.rating u
  | none => 0

/-- The capacity of a station (R1). -/
def State.capacity (s : State) (st : Station) : Nat := (s.layoutOf st).capacity

/-- A unit's paired station that is not `a`, if it has one (R85). -/
def State.otherOf (s : State) (u : UnitId) (a : Station) : Option Station := (s.paired u).find? (fun st => st != a)

/-- Largest capacity among the present stations, 0 when none is present (R148). -/
def State.largestCapacity (s : State) : Nat :=
  ((allStations.filter (fun st => (s.layoutOf st).present)).map s.capacity).foldl max 0

/-- P_min of a unit (R66). -/
def State.pMin (s : State) (u : UnitId) : Nat := s.rating u * (s.unitRec u).minPower / 1000

/-- The decay threshold of a unit (4.1.1). -/
def State.decayThreshold (s : State) (u : UnitId) : Nat := s.rating u * 2 / 100

/-- The value at which a unit's measured-power word saturates (R25). -/
def State.powerTop (s : State) (u : UnitId) : Nat := s.rating u * 125 / 100

/-! ## Switch views (R68, R69) -/

/-- The station a unit's contacts show, if they agree (R69): position A is the lower-numbered paired station. -/
def State.shown (s : State) (u : UnitId) : Option Station :=
  let c := look s.lines.contacts u
  match c.a, c.b with
  | true, false => (s.paired u)[0]?
  | false, true => (s.paired u)[1]?
  | _, _ => none

/-- The active station of a unit (R68). -/
def State.active (s : State) (u : UnitId) : Option Station :=
  if (s.unit u).travel.isSome then none
  else match (s.unit u).state with
    | .switching _ => none
    | _ => (s.unit u).position

/-- Whole seconds a unit has been FEEDING since it last entered FEEDING (4.1). -/
def PowerUnit.feedingTime (p : PowerUnit) : Nat := min top32 (p.feedingMs / 1000)

/-! ## Program sets (7.4): each is the set of programs whose applied action and target name it -/

/-- The action a program holds in force. -/
def State.held (s : State) (p : Program) : Action :=
  match (s.run p).applied with
  | some (a, _) => a
  | none => .nothing

/-- The bar set of a station (4.4). -/
def State.bars (s : State) (st : Station) : List Program :=
  allPrograms.filter (fun p => (s.held p).trips && (s.program p).target == .station st)

/-- Whether a station's bar set is non-empty. -/
def State.barred (s : State) (st : Station) : Bool := !(s.bars st).isEmpty

/-- The program causes of a unit's own trip set (R73). -/
def State.unitPrograms (s : State) (u : UnitId) : List Program :=
  allPrograms.filter (fun p => (s.held p).trips && (s.program p).target == .unit u)

/-- The foldback set of a target (R139). -/
def State.foldbacks (s : State) (t : Target) : List Program :=
  allPrograms.filter (fun p => s.held p == .foldback && (s.program p).target == t)

/-- Whether the bar set of an optional station stands against a unit. -/
def State.barsCount (s : State) (st : Option Station) : List Program :=
  match st with
  | some st => s.bars st
  | none => []

/-- The programs in a unit's effective trip set (R71): its own, the active station's bars, the travel target's bars. -/
def State.tripPrograms (s : State) (u : UnitId) : List Program :=
  allPrograms.filter (fun p => (s.unitPrograms u).contains p || (s.barsCount (s.active u)).contains p ||
    (s.barsCount ((s.unit u).travel.map Travel.target)).contains p)

/-- Whether a unit's effective trip set is empty (R71). -/
def State.tripsEmpty (s : State) (u : UnitId) : Bool := (s.unit u).causes.isEmpty && (s.tripPrograms u).isEmpty

/-! ## Suspension (7.2, 7.6) -/

/-- A program is suspended while its target is an OFF station or an unused unit (7.2). -/
def State.suspended (s : State) (t : Target) : Bool :=
  match t with
  | .unit u => !s.used u
  | .station st => s.phase st == .off

/-- A program is live while it is enabled and not suspended (7.2). -/
def State.live (s : State) (p : Program) : Bool := (s.program p).enabled && !s.suspended (s.program p).target

/-! ## Water views (R111, R112, 6.5) -/

/-- A channel's reading. -/
def State.reading (s : State) (c : Channel) : Option Int := (look s.channels c).reading

/-- The combined value of a primary and a backup reading (R111): the backup decides whether the pair is trusted. -/
def combined (primary backup : Option Int) : Option Int :=
  match primary, backup with
  | some p, some b => some (max p b)
  | none, some b => some b
  | _, none => none

/-- The combined supply header value T_sup (R111). -/
def State.supply (s : State) : Option Int := combined (s.reading 0) (s.reading 1)

/-- The coil circuit of a station. -/
def coilOf (st : Station) : Circuit := ⟨st.val, by omega⟩
/-- The lead circuit of a station. -/
def leadOf (st : Station) : Circuit := ⟨st.val + 4, by omega⟩
/-- The unit circuit of a unit. -/
def unitCircuit (u : UnitId) : Circuit := ⟨u.val + 8, by omega⟩

/-- The station whose coil a circuit cools, for C1 to C4. -/
def coilStation (c : Circuit) : Option Station := if h : c.val < 4 then some ⟨c.val, h⟩ else none

/-- The (primary) return channel of a circuit, T3 to T12. -/
def returnChannel (c : Circuit) : Channel := ⟨c.val + 2, by omega⟩
/-- The backup return channel of a station's coil circuit, T13 to T16. -/
def backupChannel (st : Station) : Channel := ⟨st.val + 12, by omega⟩

/-- A circuit's return as it stands, were it evaluated (R112). -/
def State.rawReturn (s : State) (c : Circuit) : Option Int :=
  match coilStation c with
  | some st => combined (s.reading (returnChannel c)) (s.reading (backupChannel st))
  | none => s.reading (returnChannel c)

/-- The RETURN quantity of a circuit (R112): INVALID while the circuit is not evaluated. -/
def State.returnOf (s : State) (c : Circuit) : Option Int :=
  if (look s.circuits c).evaluated then s.rawReturn c else none

/-- The coil flow of a station, as the latest gate left it. -/
def State.coilFlow (s : State) (st : Station) : Option Nat := (look s.circuits (coilOf st)).flow

/-- The programs whose applied EMERGENCY reaches a station: they target it or its unit (6.5). -/
def State.emergencyPrograms (s : State) (st : Station) : List Program :=
  allPrograms.filter (fun p => s.held p == .emergency &&
    ((s.program p).target == .station st ||
      (match s.unitOf st with | some u => (s.program p).target == .unit u | none => false)))

/-- Whether an emergency stands for a station (6.5). -/
def State.emergencyStands (s : State) (st : Station) : Bool :=
  s.lines.pumpFault || !(s.emergencyPrograms st).isEmpty

/-! ## Ladle views -/

/-- The entry a station is assigned to. -/
def State.entryOf (s : State) (st : Station) : Option QueueEntry :=
  s.taps.entries.find? (fun e => e.station == some st)

/-- The place in the queue of the entry a station is assigned to. -/
def State.entryIndex (s : State) (st : Station) : Option Nat :=
  s.taps.entries.findIdx? (fun e => e.station == some st)

/-- Change the entry at a place of the queue. -/
def State.onEntry (s : State) (i : Nat) (f : QueueEntry → QueueEntry) : State :=
  s.withEntries (s.taps.entries.modify i f)

/-- Take the entry at a place out of the queue; the others keep their order (R147). -/
def State.dropEntry (s : State) (i : Nat) : State := s.withEntries (s.taps.entries.eraseIdx i)

/-! ## Outputs (00_scope.md 3, R67, R119) -/

/-- Power setpoint of a unit, kW. -/
def State.setpoint (s : State) (u : UnitId) : Nat :=
  match (s.unit u).state with
  | .feeding => (s.unit u).grant
  | _ => 0

/-- Whether a unit's inhibit line is asserted. -/
def State.inhibitLine (s : State) (u : UnitId) : Bool :=
  match (s.unit u).state with
  | .feeding | .rampDown _ => false
  | _ => true

/-- Whether the changeover command line toward position A (`false`) or B (`true`) is driven: toward the target of a travel under way. -/
def State.commandLine (s : State) (u : UnitId) (b : Bool) : Bool :=
  match (s.unit u).travel with
  | some t => (s.paired u)[if b then 1 else 0]? == some t.target
  | none => false

end Sys2Proof.Machine
end

