-- ==== Sys2Proof/Machine/Clock.lean ====
section
/-!
DEFINITION. The part's clock. The table has no row for the passing of time, so one idle step (a step with no command waiting) is one
millisecond of it (log entry 2): part time and the counted times go on, and every running timer falls by one. A timer that stands at 0 is
due; its command is what makes its event happen. Nothing runs while the reset line holds the part (R14).
-/

namespace Sys2Proof.Machine

/-- A timer after one millisecond; an absent one does not run. -/
def runDown (t : Option Nat) : Option Nat := t.map (fun n => n - 1)

/-- A station's step timer after one millisecond (R24). -/
def StationHeat.tick (h : StationHeat) : StationHeat := { h with stepTimer := runDown h.stepTimer }

/-- A unit's timers and counted times after one millisecond (4.1): the feeding time in FEEDING, the time INHIBITED in INHIBITED. -/
def PowerUnit.tick (p : PowerUnit) : PowerUnit :=
  { p with
    decayTimer := runDown p.decayTimer
    settleTimer := runDown p.settleTimer
    travel := p.travel.map (fun t => { t with timer := t.timer - 1 })
    feedingMs := if p.state = .feeding then p.feedingMs + 1 else p.feedingMs
    inhibitedMs := if p.state = .inhibited then p.inhibitedMs + 1 else p.inhibitedMs }

/-- The allocator after one millisecond (R91). -/
def Allocator.tick (a : Allocator) : Allocator := { a with passTimer := a.passTimer - 1 }

/-- A channel after one millisecond (R110). -/
def ChannelSt.tick (c : ChannelSt) : ChannelSt := { c with timer := runDown c.timer }

/-- A circuit after one millisecond (R114). -/
def CircuitSt.tick (c : CircuitSt) : CircuitSt := { c with gateTimer := c.gateTimer - 1 }

/-- A program after one millisecond (R130). -/
def RunState.tick (r : RunState) : RunState := { r with periodTimer := runDown r.periodTimer }

/-- A permit after one millisecond: only one that is not started runs (R158, R160). -/
def Permit.tick (p : Permit) : Permit := if p.started then p else { p with leftMs := p.leftMs - 1 }

/-- A queue entry after one millisecond. -/
def QueueEntry.tick (e : QueueEntry) : QueueEntry := { e with permit := e.permit.map Permit.tick }

/-- The link after one millisecond (R178): the silence timer does not run while the link is silent. -/
def Link.tick (l : Link) : Link :=
  { l with silenceTimer := runDown l.silenceTimer, silentMs := if l.silent then l.silentMs + 1 else l.silentMs }

/-- One millisecond of the part (log entry 2). -/
def tick (s : State) : State :=
  if s.resetHeld then s
  else
    { s with
      clockMs := s.clockMs + 1
      heats := overAll StationHeat.tick s.heats
      units := overAll PowerUnit.tick s.units
      alloc := s.alloc.tick
      channels := overAll ChannelSt.tick s.channels
      circuits := overAll CircuitSt.tick s.circuits
      runs := overAll RunState.tick s.runs
      taps := { s.taps with entries := s.taps.entries.map QueueEntry.tick }
      link := s.link.tick }

end Sys2Proof.Machine
end

