-- ==== Sys2Proof/Machine/Bath.lean ====
section
/-!
DEFINITION. Power requests and need classes (2.5), AUTO scheduling and the start of a changeover (4.7, R76), and the recomputation that
joins them (R33).
-/

namespace Sys2Proof.Machine

/-! ## Loss and balance power (R26, R34) -/

/-- loss(T) in joules for one second (R26, stage 2); 0 at or below 25.0 °C. -/
def lossAt (lRef t : Nat) : Nat := if t ≤ 250 then 0 else lRef * (t - 250) * 1000 / 14250

/-- Balance power P_bal in kW (R34). -/
def balancePower (sr : StationRec) (r : HeatRec) : Nat :=
  if r.liquid = 0 then 0 else ceilDiv (lossAt sr.lRef r.tEst) sr.eta

/-- The GRADE record of a heat. A running phase always has a grade (2.1); without one the record of G0 is read. -/
def State.gradeOfHeat (s : State) (r : HeatRec) : GradeRec := s.gradeRec (r.grade.getD 0)

/-! ## Target and objective (R18) -/

/-- The target of a record (R18). `nothing` is the manual's none. -/
inductive HeatTarget where
  | nothing | hold | tap
  deriving DecidableEq, Repr

/-- The target follows from the phase (R18). -/
def Phase.target : Phase → HeatTarget
  | .melt | .hold => .hold
  | .superheat | .tapping => .tap
  | .off | .unknown | .empty => .nothing

/-- A temperature to hold or to reach, with the band or window about it, in tenths. -/
structure Objective where
  temp : Nat
  band : Nat
  deriving DecidableEq, Repr

/-- The temperature objective of a station's record, from the grade and the ladle target as they stand (R18): none in a phase without a
target; in TAP the target of the entry the station is assigned to. -/
def State.objective (s : State) (st : Station) : Option Objective :=
  let g := s.gradeOfHeat (s.record st)
  match (s.phase st).target with
  | .nothing => none
  | .hold => some { temp := g.holdTarget, band := g.holdBand }
  | .tap => (s.entryOf st).map (fun e => { temp := e.target, band := g.tapWindow })

/-! ## Requests and classes (R35) -/

/-- The request in HOLD before the clamp (R35), with P_bal `p`, rating, hold target `th` and hold band `b` at T_est `t`. -/
def holdRequest (rating p th b t : Nat) : Nat × NeedClass :=
  if t + b ≤ th then (min rating (3 * p), .urgent)
  else if t < th then (p + 2 * p * (th - t) / b, .keep)
  else if t < th + b then (p * (th + b - t) / b, .keep)
  else (0, .keep)

/-- The request in SUPERHEAT before the clamp (R35), with P_bal `p`, rating, ladle target `tt` and tap window `w` at T_est `t`. -/
def superheatRequest (rating p tt w t : Nat) : Nat :=
  if t + 300 ≤ tt then rating
  else if t < tt then ((p : Int) + Int.tdiv (((rating : Int) - p) * ((tt : Int) - t)) 300).toNat
  else if t < tt + w then p
  else 0

/-- A station's power request and need class (R35), clamped to 0 to rating. L_ref and η are read as they stand, so a request recomputed
between a write of them and the next model step uses the new values (log entry 29). -/
def State.demand (s : State) (st : Station) : Nat × NeedClass :=
  let r := s.record st
  let rating := s.stationRating st
  let p := balancePower (s.stationRec st) r
  let raw : Nat × NeedClass :=
    match r.phase with
    | .melt => (if s.link.silent then p else rating, .melt)
    | .hold =>
      match s.objective st with
      | some o => holdRequest rating p o.temp o.band r.tEst
      | none => (0, .keep)
    | .superheat =>
      match s.objective st with
      | some o => (superheatRequest rating p o.temp o.band r.tEst, .tap)
      | none => (0, .tap)
    | .tapping | .empty | .unknown | .off => (0, .idle)
  (min rating raw.1, raw.2)

/-! ## AUTO scheduling (R76, R85, R86) -/

/-- Whether a changeover to `t` may start, as far as `t` goes: enabled, not OFF, unbarred, coil flow valid and sufficient (R76). -/
def State.reachable (s : State) (t : Station) : Bool :=
  look s.enabled t && (s.phase t != .off) && !s.barred t &&
    (match s.coilFlow t with
      | some f => decide ((s.stationRec t).coilMinFlow ≤ f)
      | none => false)

/-- Start a changeover to `t`: RAMP_DOWN(t), decay timer 5 s, grant 0 (R76). The old position stays. -/
def startChangeover (u : UnitId) (t : Station) (s : State) : State :=
  s.onUnit u (fun p => { p with state := .rampDown t, decayTimer := some Config.decayMs, grant := 0, origin := p.position })

/-- Whether an evaluation of `u` moves it, and where to (R86). -/
def State.autoTarget (s : State) (u : UnitId) : Option Station :=
  if (s.unit u).state = .feeding ∧ (s.unitRec u).mode = .auto then
    match s.active u with
    | some a =>
      match s.otherOf u a with
      | some o =>
        if (s.heat a).need.height < (s.heat o).need.height ∧ s.reachable o = true ∧
            (s.cfg.shop.minDwell ≤ (s.unit u).feedingTime ∨ (s.heat a).need = .idle ∨ (s.heat o).need = .urgent)
        then some o else none
      | none => none
    | none => none
  else none

/-- An evaluation of a unit's AUTO scheduling (R85, R86). -/
def autoEvaluate (u : UnitId) (s : State) : State :=
  match s.autoTarget u with
  | some t => startChangeover u t s
  | none => s

/-- Recompute a station's request and class, and tell its unit controller of a change of class (R33). -/
def recompute (st : Station) (s : State) : State :=
  let d := s.demand st
  let s' := s.onHeat st (fun h => { h with request := d.1, need := d.2 })
  if d.2 = (s.heat st).need then s'
  else match s.unitOf st with
    | some u => autoEvaluate u s'
    | none => s'

end Sys2Proof.Machine
end

