-- ==== Sys2Proof/Machine/Scheduler.lean ====
section
/-!
DEFINITION. The ladle scheduler's shared work (chapter 8): re-examination and assignment, release without permit, the DIP WANTED and
readiness checks.
-/

namespace Sys2Proof.Machine

/-! ## Assignment (R151 to R153) -/

/-- Liquid above the heel minimum suffices for a mass: liquid − heel ≥ mass (R152). -/
def State.holdsAbove (s : State) (st : Station) (mass : Nat) : Bool :=
  decide (mass + (s.stationRec st).heelMin ≤ (s.record st).liquid)

/-- Whether a station's unit is INHIBITED. A station without a unit has none to be inhibited. -/
def State.unitInhibited (s : State) (st : Station) : Bool :=
  match s.unitOf st with
  | some u => decide ((s.unit u).state = .inhibited)
  | none => false

/-- Whether a station is eligible for an unassigned entry (R152). -/
def State.eligible (s : State) (e : QueueEntry) (st : Station) : Bool :=
  decide ((s.record st).phase = .hold) && decide ((s.record st).solid = 0) &&
    decide ((s.record st).grade = some e.grade) && s.holdsAbove st e.mass && (s.entryOf st).isNone &&
    !s.barred st && !s.unitInhibited st && !hasFlag (s.record st).flags .water

/-- Liquid ages in order: an absent age is younger than any present one (R152). -/
def ageRank : Option Nat → Nat
  | none => 0
  | some a => a + 1

/-- The station of oldest liquid, the lower number on a tie (R152). -/
def State.oldest (s : State) : List Station → Option Station
  | [] => none
  | st :: rest =>
    match s.oldest rest with
    | none => some st
    | some b => if ageRank (s.record st).liquidAge < ageRank (s.record b).liquidAge then some b else some st

/-- The station an unassigned entry takes, if one is eligible (R152). -/
def State.choice (s : State) (e : QueueEntry) : Option Station := s.oldest (allStations.filter (s.eligible e))

/-- An entry takes a station (R153). -/
def assign (i : Nat) (e : QueueEntry) (st : Station) (s : State) : State :=
  let s1 := s.onEntry i (fun e => { e with station := some st })
  let s2 := s1.onRecord st (fun r => { r with phase := .superheat, dipMark := false })
  (recompute st s2).notify .stationAssigned (stationCode st) (nat 0) (nat e.ladle) (nat e.target)

/-- A pass judges the entry at one place of the queue (R151): an assigned entry is not judged again. -/
def judgeEntry (s : State) (i : Nat) : State :=
  match s.taps.entries[i]? with
  | some e =>
    if e.station.isNone then
      match s.choice e with
      | some st => assign i e st s
      | none => s
    else s
  | none => s

/-- Re-examine the queue, head first (R151); no assignment while the link is silent (R165). -/
def reexamine (s : State) : State :=
  if s.link.silent then s else (List.range s.taps.entries.length).foldl judgeEntry s

/-! ## Release (R154, R155) -/

/-- Why an assigned station is given back, in the order of R155's codes. -/
inductive ReleaseReason where
  | inhibited | water | shortfall
  deriving DecidableEq, Repr

/-- The code of a release reason: INHIBITED 0, WATER 1, SHORTFALL 2 (9.5). -/
def ReleaseReason.code : ReleaseReason → Nat
  | .inhibited => 0 | .water => 1 | .shortfall => 2

/-- Return a station to HOLD with target HOLD and recompute its request (R19, R33). -/
def toHold (st : Station) (s : State) : State :=
  recompute st (s.onRecord st (fun r => { r with phase := .hold }))

/-- Release the station of the entry at place `i` (R155). -/
def release (i : Nat) (e : QueueEntry) (st : Station) (why : ReleaseReason) (s : State) : State :=
  let s1 := s.onEntry i (fun e => { e with station := none, dipCall := none })
  reexamine ((toHold st s1).notify .stationAssigned (stationCode st) (nat 1) (nat e.ladle) (nat why.code))

/-- The reason that releases an assigned station without permit at its model step, if one holds (R154). Where several hold, the first in
the order of R154 is reported (log entry 9). -/
def State.releaseReason (s : State) (e : QueueEntry) (st : Station) : Option ReleaseReason :=
  let r := s.record st
  let w := (s.gradeOfHeat r).tapWindow
  if (s.unitInhibited st || s.barred st) && decide (r.tEst + w < e.target) then some .inhibited
  else if hasFlag r.flags .water then some .water
  else if !s.holdsAbove st e.mass then some .shortfall
  else none

/-- The assigned entry of a station and its place, if it holds no permit. -/
def State.unpermitted (s : State) (st : Station) : Option (Nat × QueueEntry) :=
  match s.entryIndex st with
  | some i =>
    match s.taps.entries[i]? with
    | some e => if e.permit.isNone then some (i, e) else none
    | none => none
  | none => none

/-- The release check of a model step (R154). -/
def releaseCheck (st : Station) (s : State) : State :=
  match s.unpermitted st with
  | some (i, e) =>
    match s.releaseReason e st with
    | some why => release i e st why s
    | none => s
  | none => s

/-- The release that a WATER occurrence causes at once (R154). -/
def waterRelease (st : Station) (s : State) : State :=
  match s.unpermitted st with
  | some (i, e) => release i e st .water s
  | none => s

/-! ## DIP WANTED (R156) -/

/-- Whether the assigned station of an entry needs a dip (R156). -/
def State.needsDip (s : State) (e : QueueEntry) (st : Station) : Bool :=
  let r := s.record st
  decide (r.phase = .superheat) && e.permit.isNone &&
    decide (e.target ≤ r.tEst + (s.gradeOfHeat r).tapWindow) &&
    (!r.dipMark || (match r.lastDip with
      | some d => decide (s.cfg.shop.dipAgeMax < d.age)
      | none => false))

/-- Whether a DIP WANTED notice is due: none called yet, or the dip age maximum has passed since the latest (R156). -/
def State.callDue (s : State) (e : QueueEntry) : Bool :=
  match e.dipCall with
  | none => true
  | some t => decide (t + s.cfg.shop.dipAgeMax ≤ s.partTime)

/-- The DIP WANTED check of a model step (R156). -/
def dipWantedCheck (st : Station) (s : State) : State :=
  match s.entryIndex st with
  | some i =>
    match s.taps.entries[i]? with
    | some e =>
      if s.needsDip e st then
        if s.callDue e then
          (s.onEntry i (fun e => { e with dipCall := some s.partTime })).notify .dipWanted (stationCode st)
            (nat e.ladle) (nat (s.record st).tEst) ((s.record st).lastDip.map (fun d => (d.age : Int)))
        else s
      else s.onEntry i (fun e => { e with dipCall := none })
    | none => s
  | none => s

/-! ## Readiness (R157) -/

/-- The permit counter's next value, from 255 to 1 (R157). -/
def nextPermit (c : Nat) : Nat := if c < 255 then c + 1 else 1

/-- The permit ids present in the queue. -/
def State.permitIds (s : State) : List Nat := s.taps.entries.filterMap (fun e => e.permit.map Permit.id)

/-- The first id from `c` on that no permit holds (R157); with at most `fuel` ids held it is found within the fuel. -/
def freePermit (held : List Nat) : (fuel : Nat) → Nat → Nat
  | 0, c => c
  | fuel + 1, c => if held.contains c then freePermit held fuel (nextPermit c) else c

/-- Whether a permit may be issued for the entry's station (R157). -/
def State.ready (s : State) (e : QueueEntry) (st : Station) : Bool :=
  let r := s.record st
  let w := (s.gradeOfHeat r).tapWindow
  decide (r.phase = .superheat) && e.permit.isNone && r.dipMark &&
    (match r.lastDip with
      | some d => decide (d.age ≤ s.cfg.shop.dipAgeMax)
      | none => false) &&
    decide (e.target ≤ r.tEst + w) && decide (r.tEst ≤ e.target + w) && s.holdsAbove st e.mass && !s.link.silent

/-- Issue a permit to the entry at place `i` (R157). -/
def issuePermit (i : Nat) (e : QueueEntry) (st : Station) (s : State) : State :=
  let held := s.permitIds
  let id := freePermit held held.length s.taps.permitCounter
  let s1 := s.onEntry i (fun e => { e with permit := some { id, leftMs := s.cfg.shop.permitTime * 1000, started := false } })
  let s2 := { s1 with taps := { s1.taps with permitCounter := nextPermit id } }
  s2.notify .tapGrant e.ladle (nat id) (nat (stationCode st)) (nat (s.record st).tEst)

/-- The readiness check, at a model step of an assigned station and at a dip taken for it (R157). -/
def readinessCheck (st : Station) (s : State) : State :=
  match s.entryIndex st with
  | some i =>
    match s.taps.entries[i]? with
    | some e => if s.ready e st then issuePermit i e st s else s
    | none => s
  | none => s

/-- The scheduler's checks in stage 8 of a model step, in their order (R154). A station that a release's own re-examination gives to another
entry is still assigned, and the two later checks run for that entry (log entry 35). -/
def stationChecks (st : Station) (s : State) : State :=
  readinessCheck st (dipWantedCheck st (releaseCheck st s))

end Sys2Proof.Machine
end

