-- ==== Sys2Proof/Machine/Blocks.lean ====
section
/-!
DEFINITION. What one block does for another: emergency-water valves (6.5), heat flag occurrences (2.6), entry into EMPTY (R19), entry to and
exit from INHIBITED, an abandoned RAMP_DOWN, and the re-judging of a unit when a set that counts has changed (4.4 to 4.6).
-/

namespace Sys2Proof.Machine

/-! ## Valves (R119 to R125) -/

/-- The code of PUMP as the cause of an opening (9.5). -/
def causePump : Nat := 17
/-- The code of HOST as the cause of a closing (9.5). -/
def causeHost : Nat := 18
/-- The code of EMPTY as the cause of a closing (9.5). -/
def causeEmpty : Nat := 19
/-- The code of a program as the cause of an opening (9.5). -/
def causeProgram (p : Program) : Nat := p.val + 1

/-- Open a station's valve with its notice; an open valve is left alone (R119, R125). -/
def openValve (cause : Nat) (s : State) (st : Station) : State :=
  if look s.valves st then s
  else { s with valves := place s.valves st true }.notify .emergencyWater (stationCode st) (nat 0) (nat cause)
    (nat s.reservoir.drawn)

/-- Close a station's valve with its notice; a closed valve is left alone (R119, R125). -/
def closeValve (cause : Nat) (s : State) (st : Station) : State :=
  if look s.valves st then
    { s with valves := place s.valves st false }.notify .emergencyWater (stationCode st) (nat 1) (nat cause)
      (nat s.reservoir.drawn)
  else s

/-- Open the valve of a station if it holds metal (R120, R121). -/
def openIfMetal (cause : Nat) (s : State) (st : Station) : State :=
  if (s.phase st).holdsMetal then openValve cause s st else s

/-- The causes of the emergencies that stand for a station. -/
def State.standingCauses (s : State) (st : Station) : List Nat :=
  (if s.lines.pumpFault then [causePump] else []) ++ (s.emergencyPrograms st).map causeProgram

/-- One of several standing causes: the only one, or a free choice (Config.openCausePick, log entry 7). -/
def pickCause (now : Nat) : List Nat → Nat
  | [] => causePump
  | [c] => c
  | c :: cs => (c :: cs).getD (Config.openCausePick now % (cs.length + 1)) c

/-- A station begins to hold metal: its valve opens if an emergency stands for it (R122). -/
def beginMetal (st : Station) (s : State) : State :=
  if s.emergencyStands st then openValve (pickCause s.clockMs (s.standingCauses st)) s st else s

/-! ## Heat flag occurrences (R37) -/

/-- An occurrence of a heat flag for a station (R37): nothing unless its phase is a running phase. A WATER occurrence that sets the flag
prompts a re-examination and the release rule. -/
def raise (f : HeatFlag) (st : Station) (s : State) : State :=
  let r := s.record st
  if r.phase.running then
    let s1 := s.onRecord st (fun r => { r with flags := setFlag r.flags f })
    let s2 := if hasFlag (s.stationRec st).mask f then s1
      else s1.notify .heatFlag (stationCode st) (nat f.bit) (nat r.heatNo) (nat r.tEst)
    if f = .water ∧ hasFlag r.flags .water = false then waterRelease st (reexamine s2) else s2
  else s

/-! ## Entry into EMPTY (R19) -/

/-- What the heat model keeps for a station that is to become clear: the record clear, the history empty, the conditions false and the
step timer stopped; request and class wait for their recomputation. -/
def StationHeat.cleared (phase : Phase) (h : StationHeat) : StationHeat :=
  { h with record := HeatRec.clear phase, history := [], aboveMax := false, belowFloor := false, stepTimer := none }

/-- A station enters EMPTY: clear record, empty history, valve closed, request recomputed (R19, R123). An OPEN valve that so closes queues its
EMERGENCY WATER notice (R125), also in a HEAT EMPTY (log entry 31). The caller ends an assignment and prompts the re-examination. -/
def enterEmpty (st : Station) (s : State) : State :=
  recompute st (closeValve causeEmpty (s.onHeat st (StationHeat.cleared .empty)) st)

/-! ## INHIBITED and FEEDING (R71, R74, R75, R80 to R82) -/

/-- Outcomes of a changeover, in the order of their codes (9.5). -/
inductive ChangeoverEnd where
  | complete | noDecay | switchFault | abandoned
  deriving DecidableEq, Repr

/-- The code of a changeover outcome (9.5). -/
def ChangeoverEnd.code : ChangeoverEnd → Nat
  | .complete => 0 | .noDecay => 1 | .switchFault => 2 | .abandoned => 3

/-- Queue the CHANGEOVER notice of a changeover that has ended (R80). -/
def noticeChangeover (u : UnitId) (how : ChangeoverEnd) (s : State) : State :=
  s.notify .changeover (unitCode u) (nat how.code) (nat (stationOrNone (s.unit u).origin))
    (nat (stationOrNone (s.unit u).position))

/-- A unit enters INHIBITED (R71, R81): output and timers to their values there, a travel left running, TRIP queued (R75), then the
CHANGEOVER notice of a changeover this ends, then the scheduler told (R68). -/
def enterInhibited (u : UnitId) (ended : Option ChangeoverEnd) (s : State) : State :=
  let s1 := s.onUnit u (fun p =>
    { p with state := .inhibited, grant := 0, decayTimer := none, settleTimer := none, inhibitedMs := 0 })
  let s2 := s1.notify .trip (unitCode u) (nat (s.unit u).causes.bits) (nat (programBits (s.tripPrograms u)))
    (nat (stationOrNone (s.unit u).position))
  let s3 := match ended with
    | some how => noticeChangeover u how s2
    | none => s2
  reexamine s3

/-- A unit record on entry into FEEDING: feeding time and grant 0 (R74, R79). With a minimum dwell of 0 the dwell expiry falls at the
entry itself (R85). -/
def PowerUnit.feed (minDwell : Nat) (p : PowerUnit) : PowerUnit :=
  { p with state := .feeding, grant := 0, feedingMs := 0, decayTimer := none, settleTimer := none,
           dwellDone := decide (minDwell = 0) }

/-- Queue TRIP CLEAR for a unit that leaves INHIBITED (R75). -/
def noticeTripClear (u : UnitId) (s : State) : State :=
  s.notify .tripClear (unitCode u) (nat (stationOrNone (s.unit u).position))
    (nat (min 65535 ((s.unit u).inhibitedMs / 1000))) none

/-- A unit leaves INHIBITED for FEEDING (R74): TRIP CLEAR, its AUTO evaluation (R85), then the scheduler told (R68). -/
def leaveInhibited (u : UnitId) (s : State) : State :=
  reexamine (autoEvaluate u (noticeTripClear u (s.onUnit u (PowerUnit.feed s.cfg.shop.minDwell))))

/-- A RAMP_DOWN is abandoned because its target is barred or OFF (R82): FEEDING at the old position. -/
def abandonRamp (u : UnitId) (s : State) : State :=
  autoEvaluate u (noticeChangeover u .abandoned (s.onUnit u (PowerUnit.feed s.cfg.shop.minDwell)))

/-- Re-judge a unit after a change of its causes, of a set that counts, of its position or of its target (R71, R74, R82). -/
def rejudge (u : UnitId) (s : State) : State :=
  let p := s.unit u
  match p.state with
  | .inhibited => if s.tripsEmpty u && p.travel.isNone && p.position.isSome then leaveInhibited u s else s
  | .rampDown t =>
    if !s.tripsEmpty u then enterInhibited u (some .abandoned) s
    else if s.barred t || (s.phase t == .off) then abandonRamp u s
    else s
  | .settling _ => if !s.tripsEmpty u then enterInhibited u (some .abandoned) s else s
  | .feeding | .switching _ => if !s.tripsEmpty u then enterInhibited u none s else s

/-- The unit of a station evaluates its AUTO scheduling when the station is its other station (R85). -/
def evaluateIfOther (st : Station) (s : State) : State :=
  match s.unitOf st with
  | some u => if s.active u = some st then s else autoEvaluate u s
  | none => s

/-- The neighbours act on a change of the trip or bar set a target names (R73, R141): the unit controller re-judges, an emptied bar set lets
the unit evaluate, and a changed bar set prompts the re-examination. -/
def handSetChange (t : Target) (wasBarred : Bool) (s : State) : State :=
  match t with
  | .unit u => rejudge u s
  | .station st =>
    let s1 := match s.unitOf st with
      | some u => rejudge u s
      | none => s
    let s2 := if wasBarred && !s1.barred st then evaluateIfOther st s1 else s1
    reexamine s2

/-- Whether the bar set a target names is non-empty. -/
def State.targetBarred (s : State) (t : Target) : Bool :=
  match t with
  | .unit _ => false
  | .station st => s.barred st

/-- The stations a target reaches: itself, or the stations paired with the unit (7.4). -/
def State.reached (s : State) (t : Target) : List Station :=
  match t with
  | .unit u => s.paired u
  | .station st => [st]

end Sys2Proof.Machine
end

