-- ==== Sys2Proof/Machine/LinkOps.lean ====
section
/-!
DEFINITION. The link controller's shared work (chapter 9): the transmitter's choice, the end and the start of link silence, the frame that
bytes spell, and the dispatch of a request with its length check and reply. What needs the owners of the requests is in LinkEvents.lean.
-/

namespace Sys2Proof.Machine

/-! ## Transmitter (R177) -/

/-- The idle transmitter takes the pending reply, otherwise the oldest notice (R177). It takes nothing while the reset line holds the part
(R14) or once the reply to RESTART has been sent (R174). -/
def nextFrame (s : State) : State :=
  if s.resetHeld || decide (s.link.restart = .due) || s.link.sending.isSome then s
  else match s.link.pendingReply with
    | some r => s.onLink (fun l => { l with sending := some (.reply r), pendingReply := none })
    | none =>
      match s.link.notices with
      | n :: rest => s.onLink (fun l => { l with sending := some (.notice n), notices := rest })
      | [] => s

/-- The outcome of a command that the part has carried out whole: an idle transmitter then starts what waits (R177). -/
def done (s : State) : Host.Outcome State Fault Refusal := .next (nextFrame s)

/-- A command whose event the part does not take while the reset line holds it (R14). -/
def whileRunning (f : State → State) (s : State) : Host.Outcome State Fault Refusal :=
  if s.resetHeld then .next s else done (f s)

/-! ## Silence (R178, R179) -/

/-- Recompute the request of every MELT station, in station order (R178, R179). -/
def recomputeMelting (s : State) : State :=
  allStations.foldl (fun s st => if s.phase st = .melt then recompute st s else s) s

/-- The link becomes silent (R178). -/
def enterSilence (s : State) : State :=
  recomputeMelting (s.onLink (fun l => { l with silent := true, silentMs := 0, silenceMark := true, silenceTimer := none }))

/-- A valid frame restarts the silence timer and ends silence (R167, R179). -/
def validFrame (s : State) : State :=
  let s1 := s.onLink (fun l => { l with silent := false, silenceTimer := some (s.cfg.shop.silenceTime * 1000) })
  if s.link.silent then
    reexamine (recomputeMelting (s1.notify .link 0 (nat (s.link.silentMs / 1000)) none none))
  else s1

/-! ## Frames received (R166 to R168) -/

/-- Count a discarded or abandoned frame (R167). -/
def countDiscard (s : State) : State := s.onLink (fun l => { l with discarded := satAdd 65535 l.discarded 1 })

/-- The frame that complete bytes spell, if their CRC matches (R166): SYNC, LEN, LEN + 1 body bytes, two CRC bytes. -/
def frameOf (bytes : List Byte) : Option Frame :=
  match bytes with
  | _ :: len :: kind :: tag :: rest =>
    let payload := rest.take (len.toNat - 1)
    if rest.drop (len.toNat - 1) = crcBytes (crc (len :: kind :: tag :: payload)) then some { kind, tag, payload } else none
  | _ => none

/-- A frame in progress is abandoned and counted; the receiver hunts (R166, R168). -/
def abandonFrame (s : State) : State :=
  match s.link.receiver with
  | .hunt => s
  | .inFrame _ => countDiscard (s.onLink (fun l => { l with receiver := .hunt }))

/-! ## Dispatch (R169, R170) -/

/-- What an owner block answers: the state it leaves, the reply code, and the reply data. -/
structure Answer where
  state : State
  code : ReplyCode
  data : List Byte

/-- A refusal: nothing changes and the code is sent alone (R170). -/
def refuse (s : State) (code : ReplyCode) : Answer := { state := s, code, data := [] }

/-- Whether a frame may be dispatched: no reply pending (R169), no restart asked for (R174), the part not held (R14). -/
def State.dispatchOpen (s : State) : Bool :=
  !s.resetHeld && s.link.pendingReply.isNone && decide (s.link.restart = .none)

/-- The state with the frame taken from the head of the receive queue (R169). With nothing in the queue the frame is one whose arrival was
not given as bytes (log entry 1). `none`: another frame stands at the head. -/
def State.takeHead (s : State) (f : Frame) : Option State :=
  match s.link.rx with
  | [] => some s
  | g :: rest => if g = f then some (s.onLink (fun l => { l with rx := rest })) else none

/-- A frame's answer becomes the pending reply, which an idle transmitter begins at once (R169, R177). -/
def placeReply (kind tag : Byte) (a : Answer) : State :=
  nextFrame (a.state.onLink (fun l => { l with pendingReply := some { kind, tag, code := a.code, data := a.data } }))

/-- Dispatch of a frame (R169): it leaves the receive queue, is judged and carried out, and its reply becomes the pending reply. A frame that
cannot be dispatched now waits, and nothing changes. -/
def serve (kind tag : Byte) (payload : List Byte) (judge : State → Answer) (s : State) : Host.Outcome State Fault Refusal :=
  if s.dispatchOpen then
    match s.takeHead { kind, tag, payload } with
    | some s1 => .next (placeReply kind tag (judge s1))
    | none => .next s
  else .next s

/-- What a request kind answers to a payload: the length check of R170, then the owner. -/
def judged (k : RequestKind) (payload : List Byte) (owner : State → Answer) (s : State) : Answer :=
  if k.fits payload then owner s else refuse s .badLength

/-- Dispatch of a request kind (R169, R170). -/
def serveRequest (k : RequestKind) (tag : Byte) (payload : List Byte) (owner : State → Answer) (s : State) :
    Host.Outcome State Fault Refusal :=
  serve k.code tag payload (judged k payload owner) s

/-! ## The checks of R5 -/

/-- A request that needs a layout (R5, step 1). -/
def withLayout (s : State) (body : Answer) : Answer := if s.cfg.layout.loaded then body else refuse s .noLayout

/-- A request that names a station in any phase (R5, steps 1 and 2). -/
def namingStation (s : State) (n : Nat) (body : Station → Answer) : Answer :=
  withLayout s (match stationOf n with
    | some st => body st
    | none => refuse s .badValue)

/-- A request whose subject is a station that must not be OFF (R5, R7). -/
def forStation (s : State) (n : Nat) (body : Station → Answer) : Answer :=
  namingStation s n (fun st => if s.phase st = .off then refuse s .stationOff else body st)

/-- A request that names a unit (R5, steps 1 and 2). -/
def namingUnit (s : State) (n : Nat) (body : UnitId → Answer) : Answer :=
  withLayout s (match unitNumber n with
    | some u => body u
    | none => refuse s .badValue)

end Sys2Proof.Machine
end

