-- ==== Sys2Proof/Machine/Allocation.lean ====
section
/-!
DEFINITION. The power allocator (chapter 5): the demand account, the limits, the caps, the levels, rounding and flush, and ALLOCATION_PASS.
-/

namespace Sys2Proof.Machine

/-! ## Demand account (R98, R100, R101) -/

/-- The second's energy, kJ: both units' measured power and the base load (R98). -/
def State.secondEnergy (s : State) : Nat := (s.unit 0).measured + (s.unit 1).measured + s.cfg.shop.baseLoad

/-- The account after it has taken the past second (R98, steps 1 and 2). -/
def State.counted (s : State) : Allocator :=
  { s.alloc with eUsed := s.alloc.eUsed + s.secondEnergy, t := s.alloc.t + 1, passTimer := Config.secondMs }

/-- Stage 1 (R98): the past second, then the boundary test of R100 or R101. -/
def accountStage (s : State) : State :=
  let a := s.counted
  let shop := s.cfg.shop
  if shop.demandSync && !a.syncLost then
    if shop.interval + 60 ≤ a.t then
      { s with alloc := { a with eUsed := 0, t := 0, syncLost := true } }.notify .demand 0 (nat 0) (nat a.eUsed) (nat a.t)
    else { s with alloc := a }
  else if shop.interval ≤ a.t then { s with alloc := { a with eUsed := 0, t := 0 } }
  else { s with alloc := a }

/-! ## Limits (R92, R99, R106) -/

/-- P_dem from the account (R99). -/
def demandLimit (shop : ShopRec) (eUsed t : Nat) : Nat :=
  if shop.contract = 0 then shop.lInst
  else
    let budget : Int := (shop.contract * shop.interval : Nat) - (eUsed : Int)
    let divisor : Int := max ((shop.interval : Int) - t) 60
    let x := Int.tdiv budget divisor - shop.baseLoad
    min shop.lInst (max x shop.holdReserve).toNat

/-- P_cool from the supply header (R106). -/
def coolingLimit (shop : ShopRec) (supply : Option Int) : Nat :=
  match supply with
  | none => shop.lInst / 2
  | some t =>
    if t ≤ shop.coolStart then shop.lInst
    else if t < shop.coolStop then
      (Int.tdiv ((shop.lInst : Int) * (shop.coolStop - t)) ((shop.coolStop : Int) - shop.coolStart)).toNat
    else 0

/-- The shop limit of a pass whose stage 1 has left this state (R92). -/
def State.shopLimit (s : State) : Nat :=
  min s.cfg.shop.lInst (min (demandLimit s.cfg.shop s.alloc.eUsed s.alloc.t) (coolingLimit s.cfg.shop s.supply))

/-! ## Caps (R93) -/

/-- A number of kilowatts rounded down to a multiple of 10. -/
def tens (n : Nat) : Nat := n / 10 * 10

/-- The smallest foldback percent among programs, if there are any (R93). -/
def State.leastPercent (s : State) : List Program → Option Nat
  | [] => none
  | p :: rest =>
    match s.leastPercent rest with
    | none => some (s.program p).percent
    | some m => some (min (s.program p).percent m)

/-- The foldback cap of a unit feeding a station, if a program counts (R93). -/
def State.foldbackCap (s : State) (u : UnitId) (a : Station) : Option Nat :=
  (s.leastPercent (s.foldbacks (.unit u) ++ s.foldbacks (.station a))).map (fun percent => tens (s.rating u * percent / 100))

/-- The ramp cap of a unit (R93). -/
def State.rampCap (s : State) (u : UnitId) : Nat :=
  (if (s.unit u).grant = 0 then s.pMin u else (s.unit u).grant) + (s.unitRec u).rampRate

/-- The capped request of a unit feeding a station (R93). -/
def State.capped (s : State) (u : UnitId) (a : Station) : Nat :=
  let base := min (s.heat a).request (min (s.rating u) (s.rampCap u))
  match s.foldbackCap u a with
  | some c => min base c
  | none => base

/-! ## Levels (R94) -/

/-- The priority level of a need class; 0 is not served (R94). -/
def NeedClass.level : NeedClass → Nat
  | .urgent | .keep => 1
  | .tap => 2
  | .melt => 3
  | .idle => 0

/-- A unit's level and capped request: level 0 unless it is FEEDING a station whose class is not NONE (R93, R94). -/
def State.claim (s : State) (u : UnitId) : Nat × Nat :=
  if (s.unit u).state = .feeding then
    match s.active u with
    | some a => ((s.heat a).need.level, if (s.heat a).need = .idle then 0 else s.capped u a)
    | none => (0, 0)
  else (0, 0)

/-- The sum of the capped requests in a level (R94). -/
def State.levelSum (s : State) (level : Nat) : Nat :=
  (allUnits.map (fun u => if (s.claim u).1 = level then (s.claim u).2 else 0)).sum

/-- The remainder L before a level is served (R94): each level before it has taken its sum, or all there was. -/
def State.remainder (s : State) (limit level : Nat) : Nat :=
  match level with
  | 0 | 1 => limit
  | 2 => limit - s.levelSum 1
  | _ => limit - s.levelSum 1 - s.levelSum 2

/-- What a unit receives in stage 4 (R94). -/
def State.share (s : State) (limit : Nat) (u : UnitId) : Nat :=
  let level := (s.claim u).1
  let r := (s.claim u).2
  if level = 0 then 0
  else
    let l := s.remainder limit level
    let sum := s.levelSum level
    if sum ≤ l then r else l * r / sum

/-! ## Rounding, flush, hand-over (R95, R96) -/

/-- Whether stage 5 flushes a unit's grant (R95). -/
def State.flushes (s : State) (limit : Nat) (u : UnitId) : Bool :=
  decide (0 < tens (s.share limit u)) && decide (tens (s.share limit u) < s.pMin u)

/-- A unit's finished grant (R95). -/
def State.grantOf (s : State) (limit : Nat) (u : UnitId) : Nat :=
  if s.flushes limit u then 0 else tens (s.share limit u)

/-- Stage 5 for one unit (R95): the flush mark, and UNDERRUN where a run of flushes begins. -/
def flushStage (limit : Nat) (from_ : State) (s : State) (u : UnitId) : State :=
  let flushed := from_.flushes limit u
  let s1 := { s with alloc := { s.alloc with flushMark := place s.alloc.flushMark u flushed } }
  if flushed && !look from_.alloc.flushMark u then
    match from_.active u with
    | some a => raise .underrun a s1
    | none => s1
  else s1

/-- Stage 6 for one unit (R96): a FEEDING unit takes its grant, any other keeps 0. -/
def handGrant (limit : Nat) (from_ : State) (s : State) (u : UnitId) : State :=
  s.onUnit u (fun p => { p with grant := if p.state = .feeding then from_.grantOf limit u else 0 })

/-- The allocation pass (R91). Stage 5 takes U1 before U2, so that is the order of two UNDERRUN occurrences of one pass (log entry 33). -/
def allocationPass (s : State) : State :=
  let s1 := accountStage s
  let pDem := demandLimit s1.cfg.shop s1.alloc.eUsed s1.alloc.t
  let pCool := coolingLimit s1.cfg.shop s1.supply
  let limit := s1.shopLimit
  let s2 := { s1 with alloc := { s1.alloc with pDem, pCool } }
  let s3 := allUnits.foldl (flushStage limit s2) s2
  allUnits.foldl (handGrant limit s2) s3

/-- ALLOCATION_PASS (R91). -/
def execAllocationPass (s : State) : Host.Outcome State Fault Refusal := whileRunning allocationPass s

end Sys2Proof.Machine
end

