-- ==== Sys2Proof/Machine/HeatModel.lean ====
section
/-!
DEFINITION. The model step (2.4): the eight stages on one station's record, and MODEL_STEP.
-/

namespace Sys2Proof.Machine

/-- Whether a lining is spent (1.3). -/
def LiningRec.spent (l : LiningRec) : Bool := decide (l.limit ≠ 0) && decide (l.limit ≤ l.melted)

/-- Highest value of the liquid age (2.1). -/
def liquidAgeTop : Nat := 4294967294

/-- The measured power that counts at a station (R25): its unit's latest word if the station is the unit's confirmed position. -/
def State.stationPower (s : State) (st : Station) : Nat :=
  match s.unitOf st with
  | some u => if s.active u = some st then (s.unit u).measured else 0
  | none => 0

/-- Stages 1 to 3 (R26): the energy available to the step, in joules. -/
def availableEnergy (sr : StationRec) (power : Nat) (r : HeatRec) : Int :=
  (power * sr.eta : Nat) - (if r.liquid = 0 then 0 else lossAt sr.lRef r.tEst : Nat) + r.residual

/-- The mass stage 4 moves from solid to liquid, negative when it refreezes (R27, steps 1 and 2). -/
def meltedMass (h : Nat) (e : Int) (r : HeatRec) : Int :=
  let d := Int.tdiv e (h * 1000 : Nat)
  if (r.solid : Int) < d then r.solid else if d < -(r.liquid : Int) then -(r.liquid : Int) else d

/-- Stage 4: melting and refreezing (R27). -/
def stageMelt (shop : ShopRec) (e : Int) (r : HeatRec) : HeatRec :=
  let d := meltedMass shop.h e r
  let solid := ((r.solid : Int) - d).toNat
  let liquid := ((r.liquid : Int) + d).toNat
  let residual := if liquid = 0 ∧ 0 < solid then 0 else e - d * (shop.h * 1000 : Nat)
  { r with solid, liquid, residual, tEst := shop.tMelt }

/-- The temperature and residual stage 5 leaves, before the clamp (R29). -/
def stageHeat (c10 : Nat) (e : Int) (r : HeatRec) : Int × Int :=
  if r.liquid = 0 then ((r.tEst : Int), 0)
  else
    let d := Int.tdiv e (r.liquid * c10 : Nat)
    ((r.tEst : Int) + d, e - d * (r.liquid * c10 : Nat))

/-- Stage 6: the estimate clamped to 11000 to 16500, and whether it was clamped (R30). -/
def stageClamp (t : Int) : Nat × Bool :=
  if (Config.tHigh : Int) < t then (Config.tHigh, true)
  else if t < (Config.tLow : Int) then (Config.tLow, true)
  else (t.toNat, false)

/-- Stages 4 to 6 on the record, and whether stage 6 clamped. -/
def stageBath (shop : ShopRec) (e : Int) (r : HeatRec) : HeatRec × Bool :=
  if 0 < r.solid then
    let r1 := stageMelt shop e r
    let c := stageClamp r1.tEst
    ({ r1 with tEst := c.1, residual := if c.2 then 0 else r1.residual }, c.2)
  else
    let x := stageHeat shop.c10 e r
    let c := stageClamp x.1
    ({ r with tEst := c.1, residual := if c.2 then 0 else x.2 }, c.2)

/-- Stage 7 on the heat's counters (R31): energy, the last dip's age, and a liquid age if it is present. -/
def stageCount (eta power : Nat) (r : HeatRec) : HeatRec :=
  { r with
    energy := satAdd top32 r.energy (power * eta / 1000)
    lastDip := r.lastDip.map (fun d => { d with age := satAdd top32 d.age 1 })
    liquidAge := r.liquidAge.map (fun a => satAdd liquidAgeTop a 1) }

/-- MELT DONE on the record (R28): HOLD, with a liquid age. Its place in the step is after the judgements of stage 7, as the worked cases of
2.4.7 and 10.2 show (log entry 11). -/
def meltDoneRecord (r : HeatRec) : HeatRec := { r with phase := .hold, liquidAge := some (r.liquidAge.getD 0) }

/-- Stage 7 on the lining record (R11, R31): mass melted, peak, seconds above the grade maximum. -/
def stageLining (maximum : Nat) (melted : Int) (t : Nat) (l : LiningRec) : LiningRec :=
  { l with
    melted := satAdd top32 l.melted melted.toNat
    peak := max l.peak t
    overtemp := if maximum < t then satAdd top32 l.overtemp 1 else l.overtemp }

/-- The above-maximum condition (R32). -/
def isAboveMax (g : GradeRec) (r : HeatRec) : Bool := decide (g.maximum < r.tEst)

/-- The below-floor condition (R32), on the phase at stage 7; a MELT DONE of the same step comes after it (log entry 11). -/
def isBelowFloor (g : GradeRec) (r : HeatRec) : Bool :=
  (decide (r.phase = .hold) || decide (r.phase = .superheat)) && decide (r.tEst + 2 * g.holdBand < g.holdTarget)

/-- What stages 1 to 7 leave, and what they found. -/
structure BathStep where
  heat : StationHeat
  lining : LiningRec
  meltDone : Bool
  clamped : Bool
  overtemp : Bool
  undertemp : Bool

/-- Stages 1 to 7 of a model step (2.4.1 to 2.4.6), on one station's record alone. The step timer restarts (R24). -/
def bathStep (shop : ShopRec) (sr : StationRec) (g : GradeRec) (power : Nat) (h : StationHeat) (l : LiningRec) : BathStep :=
  let r := h.record
  let e := availableEnergy sr power r
  let b := stageBath shop e r
  let r1 := stageCount sr.eta power b.1
  let ended : Bool := decide (0 < r.solid) && decide (r1.solid = 0)
  let moved : Int := if 0 < r.solid then meltedMass shop.h e r else 0
  { heat := { h with record := if ended then meltDoneRecord r1 else r1, aboveMax := isAboveMax g r1, belowFloor := isBelowFloor g r1,
                     stepTimer := some Config.secondMs }
    lining := stageLining g.maximum moved r1.tEst l
    meltDone := ended
    clamped := b.2
    overtemp := isAboveMax g r1 && !h.aboveMax
    undertemp := isBelowFloor g r1 && !h.belowFloor }

/-- Queue a LINING notice for a station (R11). -/
def noticeLining (st : Station) (s : State) : State :=
  s.notify .lining (stationCode st) (nat (look s.linings st).melted) (nat (look s.linings st).limit) none

/-- Queue the LINING notice if the station's lining has become spent (R11). -/
def liningEdge (st : Station) (before : LiningRec) (s : State) : State :=
  if !before.spent && (look s.linings st).spent then noticeLining st s else s

/-- What stages 1 to 7 of a station's model step leave. -/
def State.bathStepOf (s : State) (st : Station) : BathStep :=
  bathStep s.cfg.shop (s.stationRec st) (s.gradeOfHeat (s.record st)) (s.stationPower st) (s.heat st) (look s.linings st)

/-- Stages 1 to 7 stored, with their notices: CLAMPED, LINING, OVERTEMP, UNDERTEMP in the order of the stages, then MELT DONE (log entries 11
and 12), which carries the energy that stage 7 of the same step has left (log entry 30). -/
def storeBathStep (st : Station) (s : State) : State :=
  let b := s.bathStepOf st
  let s1 := { s.onHeat st (fun _ => b.heat) with linings := place s.linings st b.lining }
  let s2 := if b.clamped then raise .clamped st s1 else s1
  let s3 := liningEdge st (look s.linings st) s2
  let s4 := if b.overtemp then raise .overtemp st s3 else s3
  let s5 := if b.undertemp then raise .undertemp st s4 else s4
  if b.meltDone then
    s5.notify .meltDone (stationCode st) (nat b.heat.record.heatNo) (nat b.heat.record.liquid) (nat b.heat.record.energy)
  else s5

/-- The model step of a running station (R24, R33): stages 1 to 7, the recomputed request, the re-examination a MELT DONE prompts, and the
scheduler's checks. -/
def modelStep (st : Station) (s : State) : State :=
  let s1 := recompute st (storeBathStep st s)
  let s2 := if (s.bathStepOf st).meltDone then reexamine s1 else s1
  stationChecks st s2

/-- MODEL_STEP (R24): a station has a step only in a running phase. -/
def execModelStep (st : Station) (s : State) : Host.Outcome State Fault Refusal :=
  whileRunning (fun s => if (s.phase st).running then modelStep st s else s) s

end Sys2Proof.Machine
end

