-- ==== Sys2Proof/Machine/HeatRequests.lean ====
section
/-!
DEFINITION. The requests of the heat model (chapter 3 and R39): CHARGE, DIP, TRANSFER, HEAT_READ, HEAT_LOAD, HEAT_DECLARE, HEAT_EMPTY,
FLAGS_CLEAR, DIP_HISTORY.
-/

namespace Sys2Proof.Machine

/-! ## Shared -/

/-- The heat counter's next value, from 65535 to 1 (R16). -/
def nextHeatNo (c : Nat) : Nat := if c < 65535 then c + 1 else 1

/-- A heat begins: it takes the counter's value and the counter advances (R16). -/
def advanceHeatNo (s : State) : State := { s with heatCounter := nextHeatNo s.heatCounter }

/-- The record of a heat that begins, with its step timer started (R24, R44, R57, R61, R62); request and class wait for their computation. -/
def StationHeat.begun (r : HeatRec) (history : List DipEntry) (h : StationHeat) : StationHeat :=
  { h with record := r, history, aboveMax := false, belowFloor := false, stepTimer := some Config.secondMs }

/-- A dip history with one more entry: the 8 most recent are kept (R51). -/
def addDip (h : List DipEntry) (e : DipEntry) : List DipEntry :=
  (h ++ [e]).drop ((h ++ [e]).length - Config.historyDepth)

/-- A residual that stays with the metal that stays (R55): trunc(residual × new / old). -/
def scaleResidual (residual : Int) (new old : Nat) : Int := Int.tdiv (residual * new) old

/-- A temperature reading brought into the model's range (R50, R162). -/
def clampReading (t : Nat) : Nat := clampTo Config.tLow Config.tHigh t

/-- Remaining capacity of a station (R43, order 9). -/
def State.room (s : State) (st : Station) : Nat := s.capacity st - ((s.record st).solid + (s.record st).liquid)

/-! ## CHARGE (R43 to R47) -/

/-- The optional grade byte of CHARGE: 0xFF is absent (9.2.1). -/
def optionalGrade (n : Nat) : Option Nat := if n = 255 then none else some n

/-- Why a CHARGE naming a station that is not OFF is refused, if it is (R43, orders 2 to 9). -/
def chargeRefusal (s : State) (st : Station) (number mass : Nat) (grade : Option Nat) : Option ReplyCode :=
  let r := s.record st
  if r.phase = .unknown ∨ r.phase = .tapping then some .wrongPhase
  else if r.phase = .superheat then some .assigned
  else if (look s.linings st).spent then some .liningSpent
  else if mass = 0 ∨ s.capacity st < mass ∨ (∃ n ∈ grade, 16 ≤ n) ∨ (r.phase = .empty ∧ grade = none) then some .badValue
  else if (r.phase = .melt ∨ r.phase = .hold) ∧ ∃ n ∈ grade, r.grade.map Fin.val ≠ some n then some .gradeMismatch
  else if number ≠ r.chargeNo + 1 then some .sequence
  else if s.room st = 0 then some .badValue
  else none

/-- The record a first charge makes (R44). -/
def chargedEmpty (tMelt heatNo number mass : Nat) (grade : Option Grade) : HeatRec :=
  { HeatRec.clear .melt with grade, heatNo, chargeNo := number, solid := mass, tEst := tMelt }

/-- The record a further charge makes (R45): the liquid's superheat becomes melting energy. -/
def chargedRunning (c10 tMelt number mass : Nat) (r : HeatRec) : HeatRec :=
  { r with
    phase := .melt, chargeNo := number, solid := r.solid + mass
    residual := if 0 < r.liquid then r.residual + (r.liquid * c10 : Nat) * ((r.tEst : Int) - tMelt) else r.residual
    tEst := if 0 < r.liquid then tMelt else r.tEst }

/-- The record part of a taken CHARGE (R44, R45), with the valve a heat's beginning may open (R122). -/
def chargeRecord (st : Station) (number mass : Nat) (grade : Option Grade) (s : State) : State :=
  if s.phase st = .empty then
    beginMetal st (advanceHeatNo (s.onHeat st
      (StationHeat.begun (chargedEmpty s.cfg.shop.tMelt s.heatCounter number mass grade) [])))
  else s.onRecord st (chargedRunning s.cfg.shop.c10 s.cfg.shop.tMelt number mass)

/-- A taken CHARGE (R44 to R47). -/
def takeCharge (st : Station) (number mass : Nat) (grade : Option Grade) (s : State) : State :=
  let recorded := min mass (s.room st)
  let s1 := chargeRecord st number recorded grade s
  let s2 := if s.room st < mass then raise .overfill st s1 else s1
  let s3 := recompute st { s2 with inflow := s2.inflow + recorded }
  if s.phase st = .melt then s3 else reexamine s3

/-- CHARGE (R43). -/
def chargeOwner (p : List Byte) (s : State) : Answer :=
  forStation s (u8At p 0) (fun st =>
    let mass := u16At p 2
    let grade := optionalGrade (u8At p 4)
    match chargeRefusal s st (u8At p 1) mass grade with
    | some code => refuse s code
    | none =>
      { state := takeCharge st (u8At p 1) mass (grade.bind gradeOf) s
        code := if s.room st < mass then .clamped else .ok, data := [] })

/-- CHARGE: payload station, charge number, mass (2), grade. -/
def execCharge (tag : Byte) (payload : List Byte) (s : State) : Host.Outcome State Fault Refusal :=
  serveRequest .charge tag payload (chargeOwner payload) s

/-! ## DIP (R48 to R53) -/

/-- The model-phase entries of a history: those whose phase is not MELT (R53). -/
def modelEntries (h : List DipEntry) : List DipEntry := h.filter (fun e => decide (e.phase ≠ .melt))

/-- Whether the three most recent model-phase entries all miss beyond the tolerance with the same sign (R53). -/
def drifts (tol : Nat) (h : List DipEntry) : Bool :=
  let m := modelEntries h
  let last := m.drop (m.length - 3)
  decide (last.length = 3) &&
    (last.all (fun e => decide ((tol : Int) < e.residual)) || last.all (fun e => decide (e.residual < -(tol : Int))))

/-- The history entry of a reading taken now (R49, R50, R162). -/
def State.dipEntry (s : State) (st : Station) (temp : Nat) (origin : DipOrigin) : DipEntry :=
  let r := s.record st
  { temp, estimate := r.tEst, residual := (temp : Int) - r.tEst, origin, phase := r.phase, time := s.partTime }

/-- The record a reading of the bath leaves (R50, R162); a reading of the stream leaves the dip mark as it is. -/
def readRecord (temp : Nat) (mark : Bool) (r : HeatRec) : HeatRec :=
  { r with tEst := clampReading temp, residual := 0, lastDip := some { temp, age := 0 }, dipMark := mark || r.dipMark }

/-- A reading enters the history and replaces the estimate; a clamp raises CLAMPED (R50, steps 1 to 5; R162, step 1). -/
def applyReading (st : Station) (temp : Nat) (origin : DipOrigin) (mark : Bool) (s : State) : State :=
  let e := s.dipEntry st temp origin
  let s1 := s.onHeat st (fun h => { h with record := readRecord temp mark h.record, history := addDip h.history e })
  if clampReading temp ≠ temp then raise .clamped st s1 else s1

/-- A DIP taken in HOLD or SUPERHEAT (R50). -/
def takeDip (st : Station) (temp : Nat) (s : State) : State :=
  let s1 := applyReading st temp .lance true s
  let s2 := if drifts s.cfg.shop.driftTol (s1.heat st).history then raise .drift st s1 else s1
  readinessCheck st (recompute st s2)

/-- DIP (R48). -/
def dipOwner (p : List Byte) (s : State) : Answer :=
  forStation s (u8At p 0) (fun st =>
    let temp := u16At p 1
    match s.phase st with
    | .unknown | .empty | .tapping | .off => refuse s .wrongPhase
    | .melt =>
      if temp < 10000 ∨ 17500 < temp then refuse s .badValue
      else { state := s.onHeat st (fun h => { h with history := addDip h.history (s.dipEntry st temp .lance) })
             code := .ok, data := [] }
    | .hold | .superheat =>
      if temp < 10000 ∨ 17500 < temp then refuse s .badValue
      else { state := takeDip st temp s, code := .ok, data := [] })

/-- DIP: payload station, temperature (2). -/
def execDip (tag : Byte) (payload : List Byte) (s : State) : Host.Outcome State Fault Refusal :=
  serveRequest .dip tag payload (dipOwner payload) s

/-! ## TRANSFER (R54 to R58) -/

/-- Why a TRANSFER between two stations that are not OFF is refused, if it is (R54, orders 3 to 10). -/
def transferRefusal (s : State) (a b : Station) (mass : Nat) : Option ReplyCode :=
  let ra := s.record a
  let rb := s.record b
  if a = b then some .badValue
  else if ra.phase = .superheat then some .assigned
  else if ra.phase ≠ .hold then some .wrongPhase
  else if mass = 0 ∨ ra.liquid < mass then some .badValue
  else if rb.phase = .superheat then some .assigned
  else if rb.phase = .unknown ∨ rb.phase = .tapping then some .wrongPhase
  else if (rb.phase = .melt ∨ rb.phase = .hold) ∧ rb.grade ≠ ra.grade then some .gradeMismatch
  else if s.room b < mass then some .badValue
  else none

/-- The source gives up mass (R55): its residual stays in proportion, or it enters EMPTY. -/
def pourOut (st : Station) (mass : Nat) (s : State) : State :=
  s.onRecord st (fun r =>
    { r with liquid := r.liquid - mass
             residual := if mass < r.liquid then scaleResidual r.residual (r.liquid - mass) r.liquid else r.residual })

/-- The larger of two liquid ages, taking account only of those present (R57). -/
def olderAge : Option Nat → Option Nat → Option Nat
  | some a, some b => some (max a b)
  | some a, none => some a
  | none, b => b

/-- The record of a destination in EMPTY (R56, R57). -/
def receivedEmpty (heatNo mass tIn : Nat) (src : HeatRec) : HeatRec :=
  { HeatRec.clear .hold with
    grade := src.grade, heatNo, liquid := mass, tEst := tIn, flags := src.flags, liquidAge := src.liquidAge }

/-- The record of a destination in MELT or HOLD (R56, R57). -/
def receivedRunning (c10 tMelt mass tIn : Nat) (src r : HeatRec) : HeatRec :=
  { r with
    liquid := r.liquid + mass
    tEst := if r.phase = .hold then (r.liquid * r.tEst + mass * tIn) / (r.liquid + mass) else r.tEst
    residual := if r.phase = .hold then r.residual else r.residual + (mass * c10 : Nat) * ((tIn : Int) - tMelt)
    flags := r.flags ||| src.flags
    liquidAge := olderAge r.liquidAge src.liquidAge
    lastDip := none, dipMark := false }

/-- The temperature at which transferred metal arrives (R56). -/
def incomingTemp (tSource drop : Nat) : Nat := max Config.tLow (tSource - drop)

/-- The destination takes the metal (R56, R57), with the valve a heat's beginning may open (R122). -/
def receive (b : Station) (mass tIn : Nat) (src : HeatRec) (s : State) : State :=
  if s.phase b = .empty then
    beginMetal b (advanceHeatNo (s.onHeat b (StationHeat.begun (receivedEmpty s.heatCounter mass tIn src) [])))
  else s.onRecord b (receivedRunning s.cfg.shop.c10 s.cfg.shop.tMelt mass tIn src)

/-- A taken TRANSFER (R55 to R58). -/
def takeTransfer (a b : Station) (mass : Nat) (s : State) : State :=
  let src := s.record a
  let s1 := pourOut a mass s
  let s2 := if mass < src.liquid then recompute a s1 else enterEmpty a s1
  let s3 := receive b mass (incomingTemp src.tEst s.cfg.shop.transferDrop) src s2
  reexamine (recompute b (raise .mixed b s3))

/-- TRANSFER (R54). -/
def transferOwner (p : List Byte) (s : State) : Answer :=
  namingStation s (u8At p 0) (fun a => namingStation s (u8At p 1) (fun b =>
    if s.phase a = .off ∨ s.phase b = .off then refuse s .stationOff
    else match transferRefusal s a b (u16At p 2) with
      | some code => refuse s code
      | none => { state := takeTransfer a b (u16At p 2) s, code := .ok, data := [] }))

/-- TRANSFER: payload source, destination, mass (2). -/
def execTransfer (tag : Byte) (payload : List Byte) (s : State) : Host.Outcome State Fault Refusal :=
  serveRequest .transfer tag payload (transferOwner payload) s

/-! ## HEAT_READ, HEAT_LOAD, HEAT_DECLARE, HEAT_EMPTY (R59 to R63) -/

/-- HEAT READ (R59). -/
def heatReadOwner (p : List Byte) (s : State) : Answer :=
  forStation s (u8At p 0) (fun st =>
    { state := s, code := .ok, data := heatImage st (s.record st) (Config.absentDipAge s.clockMs) })

/-- HEAT_READ: payload station. -/
def execHeatRead (tag : Byte) (payload : List Byte) (s : State) : Host.Outcome State Fault Refusal :=
  serveRequest .heatRead tag payload (heatReadOwner payload) s

/-- A heat established by the host starts: step timer, inflow, request, re-examination (R61, R62). -/
def establish (st : Station) (r : HeatRec) (history : List DipEntry) (s : State) : State :=
  let s1 := s.onHeat st (StationHeat.begun r history)
  reexamine (recompute st { s1 with inflow := s1.inflow + (r.solid + r.liquid) })

/-- Whether a 48-byte image fails the validation of R60 for a station of a given number and capacity. -/
def imageInvalid (number capacity : Nat) (im : List Byte) : Bool :=
  let mass := u32At im 8 + u32At im 12
  decide (u8At im 0 ≠ 1) || decide (u8At im 1 ≠ number) || (im.drop 40).any (fun b => b != 0) ||
    decide (u8At im 2 < 3) || decide (6 < u8At im 2) || decide (15 < u8At im 3) || decide (u16At im 4 = 0) ||
    decide (mass = 0) || decide (capacity < mass) || decide (u16At im 16 < Config.tLow) || decide (Config.tHigh < u16At im 16) ||
    (decide (u16At im 18 ≠ 0) && (decide (u16At im 18 < 10000) || decide (17500 < u16At im 18))) ||
    decide (10000000000 < (s64At im 28).natAbs)

/-- The record a valid image establishes (R61). -/
def loadedRecord (tMelt : Nat) (im : List Byte) : HeatRec :=
  let solid := u32At im 8
  { phase := if 0 < solid then .melt else .hold
    grade := gradeOf (u8At im 3)
    heatNo := u16At im 4
    chargeNo := u8At im 6
    solid
    liquid := u32At im 12
    tEst := if 0 < solid then tMelt else u16At im 16
    residual := s64At im 28
    lastDip := if u16At im 18 = 0 then none else some { temp := u16At im 18, age := u32At im 20 }
    dipMark := false
    liquidAge := if u32At im 24 = top32 then none else some (u32At im 24)
    flags := im.getD 7 0
    energy := u32At im 36 }

/-- HEAT LOAD (R60, R61). -/
def heatLoadOwner (p : List Byte) (s : State) : Answer :=
  forStation s (u8At p 0) (fun st =>
    let im := p.drop 1
    if s.phase st ≠ .unknown then refuse s .wrongPhase
    else if imageInvalid (u8At p 0) (s.capacity st) im then refuse s .imageInvalid
    else { state := establish st (loadedRecord s.cfg.shop.tMelt im) [] s, code := .ok, data := [] })

/-- HEAT_LOAD: payload station, heat image (48). -/
def execHeatLoad (tag : Byte) (payload : List Byte) (s : State) : Host.Outcome State Fault Refusal :=
  serveRequest .heatLoad tag payload (heatLoadOwner payload) s

/-- The record HEAT DECLARE establishes (R62). -/
def declaredRecord (tMelt heatNo : Nat) (grade : Option Grade) (solid liquid temp : Nat) : HeatRec :=
  if 0 < solid then
    { HeatRec.clear .melt with grade, heatNo, solid, liquid, tEst := tMelt }
  else
    { HeatRec.clear .hold with
      grade, heatNo, liquid, tEst := temp, lastDip := some { temp, age := 0 }, liquidAge := some 0 }

/-- The dip history HEAT DECLARE leaves (R62). -/
def declaredHistory (solid temp now : Nat) : List DipEntry :=
  if 0 < solid then []
  else [{ temp, estimate := temp, residual := 0, origin := .declare, phase := .hold, time := now }]

/-- HEAT DECLARE (R62). -/
def heatDeclareOwner (p : List Byte) (s : State) : Answer :=
  forStation s (u8At p 0) (fun st =>
    let solid := u16At p 2
    let liquid := u16At p 4
    let temp := u16At p 6
    if s.phase st ≠ .unknown then refuse s .wrongPhase
    else if 15 < u8At p 1 ∨ solid + liquid = 0 ∨ s.capacity st < solid + liquid then refuse s .badValue
    else if solid = 0 ∧ (temp < Config.tLow ∨ Config.tHigh < temp) then refuse s .badValue
    else
      { state := establish st (declaredRecord s.cfg.shop.tMelt s.heatCounter (gradeOf (u8At p 1)) solid liquid temp)
          (declaredHistory solid temp s.partTime) (advanceHeatNo s)
        code := .ok, data := [] })

/-- HEAT_DECLARE: payload station, grade, solid (2), liquid (2), temperature (2). -/
def execHeatDeclare (tag : Byte) (payload : List Byte) (s : State) : Host.Outcome State Fault Refusal :=
  serveRequest .heatDeclare tag payload (heatDeclareOwner payload) s

/-- HEAT EMPTY (R63). -/
def heatEmptyOwner (p : List Byte) (s : State) : Answer :=
  forStation s (u8At p 0) (fun st =>
    match s.phase st with
    | .unknown => { state := reexamine (enterEmpty st s), code := .ok, data := [] }
    | .empty => { state := s, code := .ok, data := [] }
    | _ => refuse s .metalPresent)

/-- HEAT_EMPTY: payload station. -/
def execHeatEmpty (tag : Byte) (payload : List Byte) (s : State) : Host.Outcome State Fault Refusal :=
  serveRequest .heatEmpty tag payload (heatEmptyOwner payload) s

/-! ## FLAGS_CLEAR and DIP_HISTORY (R39, R52) -/

/-- FLAGS CLEAR (R39). -/
def flagsClearOwner (p : List Byte) (s : State) : Answer :=
  forStation s (u8At p 0) (fun st =>
    let named : FlagSet := p.getD 1 0
    let s1 := s.onRecord st (fun r => { r with flags := clearFlags r.flags named })
    if (s.phase st).running then
      { state := if hasFlag (s.record st).flags .water && hasFlag named .water then reexamine s1 else s1
        code := .ok, data := [] }
    else { state := s, code := .ok, data := [] })

/-- FLAGS_CLEAR: payload station, flags. -/
def execFlagsClear (tag : Byte) (payload : List Byte) (s : State) : Host.Outcome State Fault Refusal :=
  serveRequest .flagsClear tag payload (flagsClearOwner payload) s

/-- DIP HISTORY (R52). -/
def dipHistoryOwner (p : List Byte) (s : State) : Answer :=
  forStation s (u8At p 0) (fun st =>
    let h := s.heat st
    { state := s, code := .ok
      data := le 2 h.record.heatNo ++ [byteOf h.history.length] ++ (h.history.map DipEntry.bytes).flatten })

/-- DIP_HISTORY: payload station. -/
def execDipHistory (tag : Byte) (payload : List Byte) (s : State) : Host.Outcome State Fault Refusal :=
  serveRequest .dipHistory tag payload (dipHistoryOwner payload) s

end Sys2Proof.Machine
end

