-- ==== Sys2Proof/Machine/Ladles.lean ====
section
/-!
DEFINITION. The requests and the event of the ladle scheduler (chapter 8): LADLE_REQUEST, LADLE_CANCEL, TAP_START, TAP_DONE, TAP_ABORT,
QUEUE_READ, PERMIT_EXPIRY.
-/

namespace Sys2Proof.Machine

/-! ## LADLE_REQUEST (R148, R149) -/

/-- The ladle target before it is kept within its range (R149). -/
def rawTarget (g : GradeRec) (offset : Option Int) : Int := (g.tapTarget : Int) + offset.getD 0

/-- The ladle target of a request (R149): within hold target + hold band + tap window to grade maximum − tap window. -/
def ladleTarget (g : GradeRec) (offset : Option Int) : Nat :=
  clampTo (g.holdTarget + g.holdBand + g.tapWindow) (g.maximum - g.tapWindow) (rawTarget g offset).toNat

/-- The optional offset of LADLE REQUEST: −32768 is absent (9.2.1). -/
def optionalOffset (v : Int) : Option Int := if v = -32768 then none else some v

/-- Whether a field of LADLE REQUEST is out of range (R148, order 2). -/
def ladleOutOfRange (s : State) (ladle grade mass : Nat) (offset : Option Int) : Bool :=
  decide (ladle < 1) || decide (250 < ladle) || decide (15 < grade) || decide (mass < 100) ||
    decide (s.largestCapacity < mass) || (match offset with
      | some o => decide (o < -500) || decide (500 < o)
      | none => false)

/-- A new queue entry (R148). -/
def newEntry (ladle : Nat) (grade : Grade) (mass target : Nat) : QueueEntry :=
  { ladle, grade, mass, target, station := none, permit := none, expiries := 0, dipCall := none }

/-- LADLE REQUEST (R148). -/
def ladleRequestOwner (p : List Byte) (s : State) : Answer :=
  withLayout s (
    let ladle := u8At p 0
    let mass := u16At p 2
    let offset := optionalOffset (s16At p 4)
    match gradeOf (u8At p 1) with
    | none => refuse s .badValue
    | some grade =>
      let g := s.gradeRec grade
      if ladleOutOfRange s ladle grade.val mass offset then refuse s .badValue
      else if s.taps.entries.any (fun e => e.ladle == ladle) then refuse s .duplicate
      else if Config.tapDepth ≤ s.taps.entries.length then refuse s .full
      else
        let target := ladleTarget g offset
        { state := reexamine (s.withEntries (s.taps.entries ++ [newEntry ladle grade mass target]))
          code := if (target : Int) = rawTarget g offset then .ok else .clamped
          data := le 2 target })

/-- LADLE_REQUEST: payload ladle id, grade, mass (2), offset (2, signed). -/
def execLadleRequest (tag : Byte) (payload : List Byte) (s : State) : Host.Outcome State Fault Refusal :=
  serveRequest .ladleRequest tag payload (ladleRequestOwner payload) s

/-! ## LADLE_CANCEL (R164) -/

/-- Return the station of an entry that has left the queue to HOLD, if it had one (R158, R164). -/
def freeStation (e : QueueEntry) (s : State) : State :=
  match e.station with
  | some st => toHold st s
  | none => s

/-- LADLE CANCEL (R164). -/
def ladleCancelOwner (p : List Byte) (s : State) : Answer :=
  withLayout s (
    match s.taps.entries.findIdx? (fun e => e.ladle == u8At p 0) with
    | none => refuse s .notFound
    | some i =>
      match s.taps.entries[i]? with
      | none => refuse s .notFound
      | some e =>
        if e.permit.any Permit.started then refuse s .wrongPhase
        else { state := reexamine (freeStation e (s.dropEntry i)), code := .ok, data := [] })

/-- LADLE_CANCEL: payload ladle id. -/
def execLadleCancel (tag : Byte) (payload : List Byte) (s : State) : Host.Outcome State Fault Refusal :=
  serveRequest .ladleCancel tag payload (ladleCancelOwner payload) s

/-! ## Permits in the queue -/

/-- Whether an entry holds the permit of an id. -/
def QueueEntry.holds (id : Nat) (e : QueueEntry) : Bool :=
  match e.permit with
  | some q => q.id == id
  | none => false

/-- Whether an entry holds the started permit of an id (R161). -/
def QueueEntry.holdsStarted (id : Nat) (e : QueueEntry) : Bool :=
  match e.permit with
  | some q => q.id == id && q.started
  | none => false

/-- The first entry of a kind and its place. -/
def State.findEntry (s : State) (which : QueueEntry → Bool) : Option (Nat × QueueEntry) :=
  match s.taps.entries.findIdx? which with
  | some i => (s.taps.entries[i]?).map (fun e => (i, e))
  | none => none

/-! ## TAP_START (R160) -/

/-- The permit at a place is started and its timer stops; its station goes into TAPPING (R160), a change of phase that prompts the
re-examination (R19, R151). -/
def startTap (i : Nat) (e : QueueEntry) (s : State) : State :=
  let s1 := s.onEntry i (fun e => { e with permit := e.permit.map (fun q => { q with started := true }) })
  match e.station with
  | some st => reexamine (recompute st (s1.onRecord st (fun r => { r with phase := .tapping })))
  | none => s1

/-- TAP START (R160). -/
def tapStartOwner (p : List Byte) (s : State) : Answer :=
  withLayout s (
    match s.findEntry (QueueEntry.holds (u8At p 0)) with
    | none => refuse s .notFound
    | some (i, e) =>
      { state := if e.permit.any Permit.started then s else startTap i e s
        code := .ok, data := [byteOf (stationOrNone e.station)] })

/-- TAP_START: payload permit id. -/
def execTapStart (tag : Byte) (payload : List Byte) (s : State) : Host.Outcome State Fault Refusal :=
  serveRequest .tapStart tag payload (tapStartOwner payload) s

/-! ## TAP_DONE (R161, R162) -/

/-- Pour a mass out of a station into a ladle (R161): liquid, residual, outflow. -/
def pourLadle (st : Station) (mass : Nat) (s : State) : State :=
  let s1 := pourOut st mass s
  { s1 with outflow := s1.outflow + mass }

/-- A station whose tap is over goes to HOLD, or to EMPTY when its liquid is gone (R162, R163). -/
def endTap (st : Station) (s : State) : State := if (s.record st).liquid = 0 then enterEmpty st s else toHold st s

/-- A taken TAP DONE (R161, R162). -/
def takeTapDone (i : Nat) (st : Station) (poured temp : Nat) (s : State) : State :=
  let s1 := pourLadle st poured s
  let s2 := if temp ≠ 0 ∧ 0 < (s1.record st).liquid then applyReading st temp .tap false s1 else s1
  reexamine (endTap st (s2.dropEntry i))

/-- TAP DONE (R161). A tap temperature of 0 is absent (9.2.1). -/
def tapDoneOwner (p : List Byte) (s : State) : Answer :=
  withLayout s (
    let mass := u16At p 1
    let temp := u16At p 3
    match s.findEntry (QueueEntry.holdsStarted (u8At p 0)) with
    | some (i, e) =>
      match e.station with
      | some st =>
        if temp ≠ 0 ∧ (temp < 10000 ∨ 17500 < temp) then refuse s .badValue
        else
          let poured := min mass (s.record st).liquid
          { state := takeTapDone i st poured temp s
            code := if poured < mass then .clamped else .ok
            data := le 2 poured ++ le 2 ((s.record st).liquid - poured) }
      | none => refuse s .notFound
    | none => refuse s .notFound)

/-- TAP_DONE: payload permit id, mass (2), tap temperature (2). -/
def execTapDone (tag : Byte) (payload : List Byte) (s : State) : Host.Outcome State Fault Refusal :=
  serveRequest .tapDone tag payload (tapDoneOwner payload) s

/-! ## TAP_ABORT (R163) -/

/-- The entry and the station after an abort, by what is left of the ladle's mass and of the liquid (R163). -/
def settleAbort (i : Nat) (st : Station) (massLeft : Nat) (s : State) : State :=
  if massLeft = 0 then endTap st (s.dropEntry i)
  else if (s.record st).liquid = 0 then
    enterEmpty st (s.onEntry i (fun e => { e with mass := massLeft, permit := none, station := none }))
  else
    recompute st ((s.onEntry i (fun e => { e with mass := massLeft, permit := none })).onRecord st
      (fun r => { r with phase := .superheat, dipMark := false }))

/-- TAP ABORT (R163). -/
def tapAbortOwner (p : List Byte) (s : State) : Answer :=
  withLayout s (
    let mass := u16At p 1
    match s.findEntry (QueueEntry.holdsStarted (u8At p 0)) with
    | some (i, e) =>
      match e.station with
      | some st =>
        let poured := min mass (s.record st).liquid
        let massLeft := e.mass - poured
        { state := reexamine (settleAbort i st massLeft (pourLadle st poured s))
          code := if poured < mass then .clamped else .ok
          data := le 2 poured ++ le 2 ((s.record st).liquid - poured) ++ le 2 massLeft }
      | none => refuse s .notFound
    | none => refuse s .notFound)

/-- TAP_ABORT: payload permit id, mass (2). -/
def execTapAbort (tag : Byte) (payload : List Byte) (s : State) : Host.Outcome State Fault Refusal :=
  serveRequest .tapAbort tag payload (tapAbortOwner payload) s

/-! ## QUEUE_READ (R150) -/

/-- QUEUE READ (R150). -/
def queueReadOwner (s : State) : Answer :=
  withLayout s
    { state := s, code := .ok
      data := byteOf s.taps.entries.length :: (s.taps.entries.map QueueEntry.bytes).flatten }

/-- QUEUE_READ: no payload. -/
def execQueueRead (tag : Byte) (payload : List Byte) (s : State) : Host.Outcome State Fault Refusal :=
  serveRequest .queueRead tag payload queueReadOwner s

/-! ## PERMIT_EXPIRY (R158) -/

/-- The permit at a place of the queue expires unused (R158). -/
def expirePermit (i : Nat) (e : QueueEntry) (id : Nat) (s : State) : State :=
  let n := e.expiries + 1
  if s.cfg.shop.expiryLimit ≤ n then
    reexamine ((freeStation e (s.dropEntry i)).notify .ladleDropped e.ladle (nat (stationOrNone e.station)) (nat n)
      (nat e.mass))
  else
    (s.onEntry i (fun e => { e with permit := none, expiries := n })).notify .permitExpired e.ladle (nat id)
      (nat (stationOrNone e.station)) (nat n)

/-- Whether an entry holds the permit of an id, not started. -/
def QueueEntry.holdsUnstarted (id : Nat) (e : QueueEntry) : Bool :=
  match e.permit with
  | some q => q.id == id && !q.started
  | none => false

/-- PERMIT_EXPIRY (R158): a permit that is gone or started has no timer. -/
def execPermitExpiry (id : Nat) (s : State) : Host.Outcome State Fault Refusal :=
  whileRunning (fun s =>
    match s.findEntry (QueueEntry.holdsUnstarted id) with
    | some (i, e) => expirePermit i e id s
    | none => s) s

end Sys2Proof.Machine
end

