-- ==== Sys2Proof/Machine/WatchOps.lean ====
section
/-!
DEFINITION. The watch engine's shared work (chapter 7): a program's input, the run state's own transition at an evaluation, and the handing
on of its changes (R138, R141), withdrawal, rewrite, suspension and release.
-/

namespace Sys2Proof.Machine

/-! ## Input and candidate (R129, R131) -/

/-- The circuit an index 1 to 10 names; an index the record's quantity does not allow is never stored (R144), and would name C1. -/
def circuitOfIndex (n : Nat) : Circuit := if h : 1 ≤ n ∧ n ≤ 10 then ⟨n - 1, by omega⟩ else 0

/-- The station an index 1 to 4 names; as `circuitOfIndex`. -/
def stationOfIndex (n : Nat) : Station := (stationOf n).getD 0

/-- The value a program reads, `none` for INVALID (R129). -/
def State.input (s : State) (r : ProgramRec) : Option Int :=
  let c := look s.circuits (circuitOfIndex r.index)
  match r.quantity with
  | .flow => c.flow.map (fun n => (n : Int))
  | .returned => s.returnOf (circuitOfIndex r.index)
  | .delta => c.delta
  | .heat => c.heat.map (fun n => (n : Int))
  | .excess => (look s.circuits (coilOf (stationOfIndex r.index))).excess
  | .supply => s.supply
  | .bath =>
    let h := s.record (stationOfIndex r.index)
    if h.phase.running && decide (0 < h.liquid) then some (h.tEst : Int) else none

/-- The direction a valid value lies in, if any (R131); a high threshold of 32767 and a low one of −32768 are not judged (R128). -/
def candidate (r : ProgramRec) (v : Int) : Option Dir :=
  if r.high ≠ 32767 ∧ r.high < v then some .high
  else if r.low ≠ -32768 ∧ v < r.low then some .low
  else none

/-! ## The run state's transition (R132 to R138) -/

/-- What an evaluation hands on beside the new run state: the action it withdrew by clearing, and the entry into ACTIVE or STALE it made, with
its event code (HIGH 0, LOW 1, STALE 2) and its own action. -/
structure Handed where
  run : RunState
  cleared : Option Action
  entry : Option (Nat × Action)

/-- The action held after another is applied against it (R138): the more severe one, with its source. -/
def applyAction (act : Action) (src : Source) (held : Option (Action × Source)) : Option (Action × Source) :=
  match held with
  | none => if act = .nothing then none else some (act, src)
  | some (a, b) => if a.severity < act.severity then some (act, src) else some (a, b)

/-- The action a record gives a direction. -/
def ProgramRec.actionFor (r : ProgramRec) : Dir → Action
  | .high => r.onHigh
  | .low => r.onLow

/-- Entry into ACTIVE (R134). -/
def enterActive (r : ProgramRec) (d : Dir) (x : RunState) : RunState :=
  { x with state := .active, direction := some d, latchedDir := none, lastConfirmed := some d, debounce := 0,
           applied := applyAction (r.actionFor d) d.source x.applied,
           positive := x.positive || decide (d = .high), negative := x.negative || decide (d = .low) }

/-- Entry into STALE (R137). -/
def enterStale (r : ProgramRec) (x : RunState) : RunState :=
  { x with state := .stale, direction := none, latchedDir := none, debounce := 0,
           applied := applyAction r.onStale .stale x.applied }

/-- Entry into LATCHED in a direction, the applied action kept (R135, R136, R137). -/
def enterLatched (d : Option Dir) (x : RunState) : RunState :=
  { x with state := .latched, direction := d, latchedDir := d, debounce := 0 }

/-- Entry into WATCH from a live state, nothing applied (R135, R137). -/
def enterWatch (x : RunState) : RunState :=
  { x with state := .watch, direction := none, latchedDir := none, debounce := 0, applied := none }

/-- A COUNT that ends without confirming: to LATCHED with its latched direction if an action is applied, otherwise to WATCH (R133, R136). -/
def endCount (x : RunState) : RunState :=
  if x.applied.isSome then enterLatched x.latchedDir x else enterWatch x

/-- COUNT in a direction with a debounce count, which enters ACTIVE when it reaches the debounce (R133). -/
def countTo (r : ProgramRec) (d : Dir) (n : Nat) (cleared : Option Action) (x : RunState) : Handed :=
  if r.debounce ≤ n then { run := enterActive r d x, cleared, entry := some (d.code, r.actionFor d) }
  else { run := { x with state := .count, direction := some d, debounce := n }, cleared, entry := none }

/-- A valid candidate judged in WATCH or LATCHED: it starts COUNT with count 1 (R133, R136). -/
def judgeIdle (r : ProgramRec) (c : Option Dir) (cleared : Option Action) (x : RunState) : Handed :=
  match c with
  | some d => countTo r d 1 cleared x
  | none => { run := x, cleared, entry := none }

/-- Whether a value counts toward clearing an excursion (R135). -/
def clears (r : ProgramRec) (d : Dir) (v : Int) : Bool :=
  match d with
  | .high => decide (v ≤ r.high - r.hysteresis)
  | .low => decide (r.low + r.hysteresis ≤ v)

/-- An evaluation in ACTIVE that reads a valid value (R135). -/
def judgeActive (r : ProgramRec) (d : Dir) (v : Int) (x : RunState) : Handed :=
  if clears r d v then
    if r.debounce ≤ x.debounce + 1 then
      if r.clear = .latch ∧ x.applied.isSome = true then { run := enterLatched (some d) x, cleared := none, entry := none }
      else { run := enterWatch x, cleared := x.applied.map Prod.fst, entry := none }
    else { run := { x with debounce := x.debounce + 1 }, cleared := none, entry := none }
  else { run := { x with debounce := 0 }, cleared := none, entry := none }

/-- The direction in which STALE is left for LATCHED (R137). -/
def staleDirection (x : RunState) : Dir :=
  match x.applied with
  | some (_, src) => (src.dir).getD (x.lastConfirmed.getD .high)
  | none => .high

/-- An evaluation that reads a valid value (R133 to R137). The direction of COUNT and ACTIVE is always present. -/
def judgeValid (r : ProgramRec) (v : Int) (x : RunState) : Handed :=
  let c := candidate r v
  let x := { x with stale := 0, lastResult := some (match c with | some d => d.finding | none => .neither) }
  match x.state with
  | .off => { run := x, cleared := none, entry := none }
  | .watch | .latched => judgeIdle r c none x
  | .count =>
    match c with
    | some d => countTo r d (if x.direction = some d then x.debounce + 1 else 1) none x
    | none => { run := endCount x, cleared := none, entry := none }
  | .active => judgeActive r (x.direction.getD .high) v x
  | .stale =>
    if r.clear = .latch ∧ x.applied.isSome = true then judgeIdle r c none (enterLatched (some (staleDirection x)) x)
    else judgeIdle r c (x.applied.map Prod.fst) (enterWatch x)

/-- An evaluation that reads INVALID (R132). -/
def judgeInvalid (r : ProgramRec) (x : RunState) : Handed :=
  let n := min r.staleLimit (x.stale + 1)
  let x := { x with stale := n, lastResult := some .invalid }
  let y := match x.state with
    | .count => endCount x
    | _ => { x with debounce := 0 }
  if x.state ≠ .stale ∧ r.staleLimit ≤ n then
    { run := enterStale r y, cleared := none, entry := some (2, r.onStale) }
  else { run := y, cleared := none, entry := none }

/-- The run state's transition at an evaluation that reads `v` (R131 to R138). The period timer restarts. -/
def evaluate (r : ProgramRec) (v : Option Int) (x : RunState) : Handed :=
  let x := { x with periodTimer := some r.period }
  match v with
  | some v => judgeValid r v x
  | none => judgeInvalid r x

/-! ## Handing on (R138, R140 to R142) -/

/-- Queue a WATCH notice (R142). -/
def noticeWatch (p : Program) (event : Nat) (a : Action) (v : Option Int) (s : State) : State :=
  s.notify .watch (p.val + 1) (nat event) (nat a.code) v

/-- Hand on the change of a program's membership in the trip or bar set its target names, if it has changed (R73, R141). -/
def handMembership (t : Target) (before after : Action) (wasBarred : Bool) (s : State) : State :=
  if before.trips = after.trips then s else handSetChange t wasBarred s

/-- The effects of an entry into ACTIVE or STALE after the sets have changed, in the order of R138: emergency water, WATER occurrences (in station
order where several stations are reached, log entry 36), the WATCH notice. -/
def handEntry (p : Program) (event : Nat) (a : Action) (v : Option Int) (s : State) : State :=
  let sts := s.reached (s.program p).target
  let s1 := if a = .emergency then sts.foldl (openIfMetal (causeProgram p)) s else s
  let s2 := if a.trips then sts.foldl (fun s st => if (s.phase st).holdsMetal then raise .water st s else s) s1 else s1
  if a = .nothing then s2 else noticeWatch p event a v s2

/-- Store the run state an evaluation left and hand its changes on: the CLEARED notice, the membership, the entry (R131, R138, R141; log
entry 10). -/
def handOn (p : Program) (v : Option Int) (h : Handed) (s : State) : State :=
  let t := (s.program p).target
  let before := s.held p
  let wasBarred := s.targetBarred t
  let s1 := s.onRun p (fun _ => h.run)
  let s2 := match h.cleared with
    | some a => noticeWatch p 3 a v s1
    | none => s1
  let s3 := handMembership t before (s1.held p) wasBarred s2
  match h.entry with
  | some (event, a) => handEntry p event a v s3
  | none => s3

/-- Replace a run state by one that holds no action, and let the neighbours act on the withdrawal (R141). -/
def withdrawInto (p : Program) (x : RunState) (s : State) : State :=
  let t := (s.program p).target
  handMembership t (s.held p) .nothing (s.targetBarred t) (s.onRun p (fun _ => x))

/-! ## Start, suspension, rewrite, release (R130, R144 to R146) -/

/-- The run state on an entry into WATCH from OFF, after a rewrite and at restart (R130). -/
def RunState.fresh (period : Nat) : RunState := { RunState.off with state := .watch, periodTimer := some period }

/-- An enabled program that is not suspended enters WATCH; any other is OFF (R130). -/
def State.startRun (s : State) (p : Program) : RunState :=
  if s.live p then RunState.fresh (s.program p).period else RunState.off

/-- A program becomes suspended: action withdrawn, counts 0, last result absent, OFF; both flags kept (R145). -/
def suspendRun (x : RunState) : RunState := { RunState.off with positive := x.positive, negative := x.negative }

/-- A released program: WATCH, counts 0, nothing applied; the period timer, the flags and the last result stay (R146). -/
def releaseRun (x : RunState) : RunState := { enterWatch x with stale := 0 }

/-- Whether TRIP RESET of a unit releases a program (R146). -/
def State.releasable (s : State) (u : UnitId) (p : Program) : Bool :=
  decide ((s.run p).state = .latched) && decide ((s.run p).lastResult = some .neither) &&
    (match (s.program p).target with
      | .unit v => decide (v = u)
      | .station st => decide (s.unitOf st = some u))

/-- Release every program of a unit that may be released, in program order (R89, step 2; R146). The neighbours act on each withdrawal (R141)
before the next program is released (log entry 32). -/
def releasePrograms (u : UnitId) (s : State) : State :=
  allPrograms.foldl (fun s p => if s.releasable u p then withdrawInto p (releaseRun (s.run p)) s else s) s

/-- Start the programs of the given targets that are live now: they enter WATCH from OFF (R9, R130). -/
def startPrograms (which : Target → Bool) (s : State) : State :=
  { s with runs := allPrograms.foldl (fun runs p =>
      if which (s.program p).target && s.live p then place runs p (RunState.fresh (s.program p).period) else runs) s.runs }

/-- Suspend every program that targets a station (R8, R145). -/
def suspendPrograms (st : Station) (s : State) : State :=
  allPrograms.foldl (fun s p =>
    if (s.program p).target = .station st then withdrawInto p (suspendRun (s.run p)) s else s) s

end Sys2Proof.Machine
end

