-- ==== Sys2Proof/Machine/UnitEvents.lean ====
section
/-!
DEFINITION. The field and timer events of the unit controllers (chapter 4): MEASURED_POWER, DECAY_TIMEOUT, SWITCH_CONTACTS, TRAVEL_TIMEOUT,
SETTLE_EXPIRY, DWELL_EXPIRY, and the fault lines.
-/

namespace Sys2Proof.Machine

/-- A fixed cause enters or leaves a unit's trip set. -/
def onCauses (u : UnitId) (f : Causes → Causes) (s : State) : State :=
  s.onUnit u (fun p => { p with causes := f p.causes })

/-- Entry into SWITCHING(t) (R78): the travel starts, the position is NONE. -/
def startTravel (u : UnitId) (t : Station) (s : State) : State :=
  s.onUnit u (fun p =>
    { p with state := .switching t, decayTimer := none, position := none
             travel := some { target := t, timer := (s.unitRec u).travelTime * 1000 } })

/-- A measured-power word replaces the previous one, saturated (R25); in RAMP_DOWN a low one confirms the decay (R77). -/
def takePower (u : UnitId) (kw : Nat) (s : State) : State :=
  let w := min kw (s.powerTop u)
  let s1 := s.onUnit u (fun p => { p with measured := w })
  match (s.unit u).state with
  | .rampDown t => if w ≤ s.decayThreshold u then rejudge u (startTravel u t s1) else s1
  | _ => s1

/-- MEASURED_POWER (R25, R77). -/
def execMeasuredPower (u : UnitId) (kw : Nat) (s : State) : Host.Outcome State Fault Refusal :=
  whileRunning (takePower u kw) s

/-- The decay timer expires (R77). -/
def decayExpired (u : UnitId) (s : State) : State :=
  match (s.unit u).state with
  | .rampDown _ => enterInhibited u (some .noDecay) (onCauses u (fun c => { c with noDecay := true }) s)
  | _ => s

/-- DECAY_TIMEOUT (R77): the timer runs in RAMP_DOWN alone. -/
def execDecayTimeout (u : UnitId) (s : State) : Host.Outcome State Fault Refusal := whileRunning (decayExpired u) s

/-- The contacts show the travel's target: the travel is over (R78, R81). -/
def endTravel (u : UnitId) (t : Station) (s : State) : State :=
  let s1 := s.onUnit u (fun p => { p with position := some t, travel := none })
  let settle := fun p : PowerUnit => { p with state := .settling t, settleTimer := some Config.settleMs }
  match (s.unit u).state with
  | .inhibited =>
    if s1.tripsEmpty u then reexamine (noticeTripClear u (s1.onUnit u settle)) else noticeChangeover u .abandoned s1
  | _ => s1.onUnit u settle

/-- Outside a travel the position follows the contacts, and SWITCH enters unless they show the position held before (R70). The position moves
before the unit is re-judged, so the TRIP of this change, and the CHANGEOVER it abandons, carry the new one (log entry 37). -/
def followContacts (u : UnitId) (s : State) : State :=
  let now := s.shown u
  let moved := now.isNone || now != (s.unit u).position
  rejudge u (s.onUnit u (fun p => { p with position := now, causes := { p.causes with switch := p.causes.switch || moved } }))

/-- A used unit takes a change of its contacts (R70, R78, R81). -/
def takeContacts (u : UnitId) (s : State) : State :=
  match (s.unit u).travel with
  | some t => if s.shown u = some t.target then endTravel u t.target s else s
  | none => followContacts u s

/-- SWITCH_CONTACTS (R70): the levels are those of the field; an unused unit takes no notice of them (R65), nor does a held part (R84). -/
def execSwitchContacts (u : UnitId) (a b : Bool) (s : State) : Host.Outcome State Fault Refusal :=
  let s := { s with lines := { s.lines with contacts := place s.lines.contacts u { a, b } } }
  whileRunning (fun s => if s.used u then takeContacts u s else s) s

/-- The travel timer expires (R78, R81): the position stays NONE and SWITCH enters. -/
def travelExpired (u : UnitId) (s : State) : State :=
  match (s.unit u).travel with
  | some _ =>
    let s1 := s.onUnit u (fun p => { p with position := none, travel := none, causes := { p.causes with switch := true } })
    if (s.unit u).state = .inhibited then noticeChangeover u .switchFault s1 else enterInhibited u (some .switchFault) s1
  | none => s

/-- TRAVEL_TIMEOUT (R78, R81): the timer runs during a travel alone. -/
def execTravelTimeout (u : UnitId) (s : State) : Host.Outcome State Fault Refusal := whileRunning (travelExpired u) s

/-- The settle timer expires: FEEDING at the target (R79). -/
def settled (u : UnitId) (s : State) : State :=
  match (s.unit u).state with
  | .settling _ =>
    autoEvaluate u (noticeChangeover u .complete (s.onUnit u (PowerUnit.feed s.cfg.shop.minDwell)))
  | _ => s

/-- SETTLE_EXPIRY (R79): the timer runs in SETTLING alone. -/
def execSettleExpiry (u : UnitId) (s : State) : Host.Outcome State Fault Refusal := whileRunning (settled u) s

/-- The feeding time has reached the minimum dwell in force, for the first time in this FEEDING (R85). -/
def State.dwellDue (s : State) (u : UnitId) : Bool :=
  decide ((s.unit u).state = .feeding) && !(s.unit u).dwellDone && decide (s.cfg.shop.minDwell ≤ (s.unit u).feedingTime)

/-- The dwell expiry (R85): the unit evaluates. An expiry behind a write that raised the dwell (R66), or behind a new entry into FEEDING, does
not happen. -/
def dwellReached (u : UnitId) (s : State) : State :=
  if s.dwellDue u then autoEvaluate u (s.onUnit u (fun p => { p with dwellDone := true })) else s

/-- DWELL_EXPIRY (R85): once per entry into FEEDING. -/
def execDwellExpiry (u : UnitId) (s : State) : Host.Outcome State Fault Refusal := whileRunning (dwellReached u) s

/-- The level of a unit's fault line. -/
def faultLine (u : UnitId) (level : Bool) (s : State) : State :=
  { s with lines := { s.lines with unitFault := place s.lines.unitFault u level } }

/-- The level of the pump-fault line. -/
def pumpLine (level : Bool) (s : State) : State := { s with lines := { s.lines with pumpFault := level } }

/-- UNIT_FAULT_ACTIVE (R72). -/
def execUnitFaultActive (u : UnitId) (s : State) : Host.Outcome State Fault Refusal :=
  whileRunning (fun s => rejudge u (onCauses u (fun c => { c with unitFault := true }) s)) (faultLine u true s)

/-- UNIT_FAULT_INACTIVE (R72): the cause stays latched. -/
def execUnitFaultInactive (u : UnitId) (s : State) : Host.Outcome State Fault Refusal :=
  whileRunning (fun s => s) (faultLine u false s)

/-- The pump-fault line becomes active: PUMP on both units (R72), then the valves of the stations that hold metal (R121; log entry 13). -/
def pumpFails (s : State) : State :=
  let s1 := allUnits.foldl (fun s u => onCauses u (fun c => { c with pump := true }) s) s
  allStations.foldl (openIfMetal causePump) (allUnits.foldl (fun s u => rejudge u s) s1)

/-- PUMP_FAULT_ACTIVE (R72, R121). -/
def execPumpFaultActive (s : State) : Host.Outcome State Fault Refusal := whileRunning pumpFails (pumpLine true s)

/-- PUMP_FAULT_INACTIVE (R121): no valve closes and PUMP stays latched. -/
def execPumpFaultInactive (s : State) : Host.Outcome State Fault Refusal := whileRunning (fun s => s) (pumpLine false s)

end Sys2Proof.Machine
end

