-- ==== Sys2Proof/Machine/UnitRequests.lean ====
section
/-!
DEFINITION. The requests that name a unit (4.8), and those of the allocator, the watch engine and the cooling monitor: UNIT_MODE,
CHANGEOVER, TRIP_RESET, INTERVAL_SYNC, WATCH_STATUS, EW_CLOSE.
-/

namespace Sys2Proof.Machine

/-! ## UNIT_MODE (R87) -/

/-- The mode field of a unit's UNIT record. -/
def withMode (u : UnitId) (m : UnitMode) (s : State) : State :=
  s.onCfg (fun c => { c with units := place c.units u { look c.units u with mode := m } })

/-- A mode takes effect (R87): AUTO makes the unit evaluate, also when it was AUTO before. -/
def setMode (u : UnitId) (m : UnitMode) (s : State) : State :=
  let s1 := withMode u m s
  if m = .auto then autoEvaluate u s1 else s1

/-- UNIT MODE (R87). -/
def unitModeOwner (p : List Byte) (s : State) : Answer :=
  namingUnit s (u8At p 0) (fun u =>
    match unitModeOf (u8At p 1) with
    | some m => { state := setMode u m s, code := .ok, data := [] }
    | none => refuse s .badValue)

/-- UNIT_MODE: payload unit, mode. -/
def execUnitMode (tag : Byte) (payload : List Byte) (s : State) : Host.Outcome State Fault Refusal :=
  serveRequest .unitMode tag payload (unitModeOwner payload) s

/-! ## CHANGEOVER (R88) -/

/-- Whether a station's coil flow is valid and at or above its coil minimum flow (R76, R88 order 7). -/
def State.flowSuffices (s : State) (t : Station) : Bool :=
  match s.coilFlow t with
  | some f => decide ((s.stationRec t).coilMinFlow ≤ f)
  | none => false

/-- CHANGEOVER to a station of the shop (R88, orders 1 to 8). -/
def changeoverTo (u : UnitId) (t : Station) (s : State) : Answer :=
  if !(s.paired u).contains t then refuse s .badValue
  else if (s.unitRec u).mode = .auto then refuse s .wrongMode
  else match (s.unit u).state with
    | .rampDown _ | .switching _ | .settling _ => refuse s .busy
    | .inhibited => refuse s .inhibited
    | .feeding =>
      if s.active u = some t then { state := s, code := .ok, data := [] }
      else if decide (s.phase t = .off) || s.barred t then refuse s .barred
      else if !s.flowSuffices t then refuse s .notReady
      else { state := startChangeover u t s, code := .ok, data := [] }

/-- CHANGEOVER (R88). -/
def changeoverOwner (p : List Byte) (s : State) : Answer :=
  namingUnit s (u8At p 0) (fun u => namingStation s (u8At p 1) (fun t => changeoverTo u t s))

/-- CHANGEOVER: payload unit, station. -/
def execChangeover (tag : Byte) (payload : List Byte) (s : State) : Host.Outcome State Fault Refusal :=
  serveRequest .changeover tag payload (changeoverOwner payload) s

/-! ## TRIP_RESET (R89) -/

/-- The fixed causes that stay after TRIP RESET has removed each latched one whose condition is absent (R89, step 1). -/
def State.causesLeft (s : State) (u : UnitId) : Causes :=
  let p := s.unit u
  { noLayout := p.causes.noLayout
    restart := false
    unitFault := p.causes.unitFault && look s.lines.unitFault u
    pump := p.causes.pump && s.lines.pumpFault
    switch := p.causes.switch && (p.travel.isSome || (s.shown u).isNone)
    noDecay := p.causes.noDecay && decide (s.decayThreshold u < p.measured) }

/-- TRIP RESET in its three steps (R89). -/
def tripReset (u : UnitId) (s : State) : State :=
  rejudge u (releasePrograms u (onCauses u (fun _ => s.causesLeft u) s))

/-- TRIP RESET (R89): the reply carries what remains of the effective trip set. -/
def tripResetOwner (p : List Byte) (s : State) : Answer :=
  namingUnit s (u8At p 0) (fun u =>
    let s1 := tripReset u s
    { state := s1, code := if s1.tripsEmpty u then .ok else .stillActive
      data := byteOf (s1.unit u).causes.bits :: le 2 (programBits (s1.tripPrograms u)) })

/-- TRIP_RESET: payload unit. -/
def execTripReset (tag : Byte) (payload : List Byte) (s : State) : Host.Outcome State Fault Refusal :=
  serveRequest .tripReset tag payload (tripResetOwner payload) s

/-! ## INTERVAL_SYNC (R102, R103) -/

/-- A taken INTERVAL SYNC: a new interval, the mark cleared, REGAINED queued if it was set. -/
def takeSync (s : State) : State :=
  let a := s.alloc
  let s1 := { s with alloc := { a with eUsed := 0, t := 0, syncLost := false } }
  if a.syncLost then s1.notify .demand 0 (nat 1) (nat a.eUsed) (nat a.t) else s1

/-- INTERVAL SYNC (R102). -/
def intervalSyncOwner (s : State) : Answer :=
  withLayout s (
    if s.cfg.shop.demandSync then
      { state := takeSync s, code := .ok, data := le 4 s.alloc.eUsed ++ le 2 s.alloc.t }
    else refuse s .wrongMode)

/-- INTERVAL_SYNC: no payload. -/
def execIntervalSync (tag : Byte) (payload : List Byte) (s : State) : Host.Outcome State Fault Refusal :=
  serveRequest .intervalSync tag payload intervalSyncOwner s

/-! ## WATCH_STATUS (R143) -/

/-- WATCH STATUS (R143): the flags it returns set become clear. -/
def watchStatusOwner (s : State) : Answer :=
  withLayout s
    { state := { s with runs := overAll (fun r => { r with positive := false, negative := false }) s.runs }
      code := .ok, data := (s.runs.toList.map RunState.bytes).flatten }

/-- WATCH_STATUS: no payload. -/
def execWatchStatus (tag : Byte) (payload : List Byte) (s : State) : Host.Outcome State Fault Refusal :=
  serveRequest .watchStatus tag payload watchStatusOwner s

/-! ## EW_CLOSE (R124) -/

/-- Whether some station's valve is OPEN. -/
def State.anyValveOpen (s : State) : Bool := allStations.any (fun st => look s.valves st)

/-- The refilled indication (R124): it zeroes the account if no valve is OPEN. -/
def refill (refilled : Bool) (s : State) : State :=
  if refilled && !s.anyValveOpen then { s with reservoir := Reservoir.zero } else s

/-- The two values EW CLOSE answers: the named station's valve and the drawn volume, after the request. -/
def ewData (st : Station) (s : State) : List Byte := byteOf (yesNo (look s.valves st)) :: le 4 s.reservoir.drawn

/-- EW CLOSE (R124). A refilled code outside yes and no is refused after the checks of R5 and R7 (9.2.1). -/
def ewCloseOwner (p : List Byte) (s : State) : Answer :=
  forStation s (u8At p 0) (fun st =>
    match yesNoOf (u8At p 1) with
    | none => refuse s .badValue
    | some refilled =>
      if look s.valves st && s.emergencyStands st then { state := s, code := .stillActive, data := ewData st s }
      else
        let s1 := refill refilled (closeValve causeHost s st)
        { state := s1, code := .ok, data := ewData st s1 })

/-- EW_CLOSE: payload station, refilled. -/
def execEwClose (tag : Byte) (payload : List Byte) (s : State) : Host.Outcome State Fault Refusal :=
  serveRequest .ewClose tag payload (ewCloseOwner payload) s

end Sys2Proof.Machine
end

