-- ==== Sys2Proof/Machine/ShopRequests.lean ====
section
/-!
DEFINITION. The shop requests: SHOP_STATUS, RESTART (9.4), LAYOUT (1.1), STATION_ENABLE, STATION_DISABLE (1.2), RELINE (1.3).
-/

namespace Sys2Proof.Machine

/-! ## SHOP_STATUS (R173) -/

/-- A unit's state code and position in the status record. -/
def PowerUnit.statusBytes (p : PowerUnit) : List Byte := [byteOf p.state.code, byteOf (stationOrNone p.position)]

/-- The status record (R173): 41 bytes. -/
def State.statusRecord (s : State) : List Byte :=
  [1, byteOf (yesNo s.cfg.layout.loaded)] ++ (s.unit 0).statusBytes ++ (s.unit 1).statusBytes ++
  allStations.map (fun st => byteOf (s.phase st).code) ++
  le 2 s.cfg.shop.lInst ++ le 2 s.alloc.pDem ++ le 2 s.alloc.pCool ++
  [byteOf (yesNo s.alloc.syncLost), byteOf (yesNo s.link.silenceMark)] ++ le 2 s.link.discarded ++
  [byteOf (yesNo s.link.noticesLost)] ++ le 8 s.inflow ++ le 8 s.outflow ++ le 4 s.partTime

/-- SHOP STATUS (R173): answered before and after a layout; the two marks are cleared once the reply is formed. -/
def shopStatusOwner (s : State) : Answer :=
  { state := s.onLink (fun l => { l with noticesLost := false, silenceMark := false }), code := .ok, data := s.statusRecord }

/-- SHOP_STATUS: no payload. -/
def execShopStatus (tag : Byte) (payload : List Byte) (s : State) : Host.Outcome State Fault Refusal :=
  serveRequest .shopStatus tag payload shopStatusOwner s

/-! ## RESTART (R174) -/

/-- RESTART (R174): the reply becomes pending and the restart is asked for; it takes effect when the reply has been sent. -/
def restartOwner (s : State) : Answer :=
  { state := s.onLink (fun l => { l with restart := .replying }), code := .ok, data := [] }

/-- RESTART: no payload. -/
def execRestart (tag : Byte) (payload : List Byte) (s : State) : Host.Outcome State Fault Refusal :=
  serveRequest .restart tag payload restartOwner s

/-! ## LAYOUT (R2, R3) -/

/-- The unit a station entry names, if its code is in the set U1, U2, none (R2, order 2). -/
def unitField (n : Nat) : Option (Option UnitId) := if n = 0 then some none else (unitNumber n).map some

/-- A station entry as it would be stored, before the clamp of its capacity; `none` where order 2 of R2 refuses it. The unit and capacity
of an absent station are disregarded. -/
def layoutEntry (p : List Byte) (i : Nat) : Option LayoutStation :=
  match yesNoOf (u8At p (4 * i)) with
  | some true => (unitField (u8At p (4 * i + 1))).map (fun u => { present := true, unit := u, capacity := u16At p (4 * i + 2) })
  | some false => some LayoutStation.absent
  | none => none

/-- The four entries of a LAYOUT, if order 2 of R2 accepts them. -/
def layoutEntries (p : List Byte) : Option (List LayoutStation) := do
  let a ← layoutEntry p 0
  let b ← layoutEntry p 1
  let c ← layoutEntry p 2
  let d ← layoutEntry p 3
  some [a, b, c, d]

/-- How many present stations name a unit. -/
def namedBy (es : List LayoutStation) (u : UnitId) : Nat := (es.filter (fun e => e.unit == some u)).length

/-- The rating a LAYOUT carries for a unit. -/
def ratingField (p : List Byte) (u : UnitId) : Nat := u16At p (16 + 2 * u.val)

/-- Whether orders 3 to 5 of R2 refuse the entries. -/
def layoutRefused (p : List Byte) (es : List LayoutStation) : Bool :=
  es.any (fun e => e.present && e.unit.isNone) ||
  allUnits.any (fun u => decide (2 < namedBy es u)) ||
  allUnits.any (fun u => decide (0 < namedBy es u) && (decide (ratingField p u < 250) || decide (8000 < ratingField p u)))

/-- A present station's capacity within 500 to 12,000 (R2, order 6). -/
def LayoutStation.clamped (e : LayoutStation) : LayoutStation :=
  if e.present then { e with capacity := clampTo 500 12000 e.capacity } else e

/-- The rating stored for a unit: 0 for an unused one (R2). -/
def keptRating (p : List Byte) (es : List LayoutStation) (u : UnitId) : Nat := if 0 < namedBy es u then ratingField p u else 0

/-- The layout record a LAYOUT stores. -/
def layoutRecord (p : List Byte) (es : List LayoutStation) : Layout :=
  let entry := fun i => (es.getD i LayoutStation.absent).clamped
  { loaded := true, stations := #v[entry 0, entry 1, entry 2, entry 3], ratings := #v[keptRating p es 0, keptRating p es 1] }

/-- L_inst at the acceptance of a layout (R3): the sum of the ratings, 500 at least. -/
def Layout.lInst (l : Layout) : Nat := max 500 (look l.ratings 0 + look l.ratings 1)

/-- A used unit at the acceptance of a layout (R3, R65): RESTART in place of NO_LAYOUT, the fault lines as they stand, the position from the
contacts. -/
def adoptUnit (s : State) (u : UnitId) : State :=
  if s.used u then
    let now := s.shown u
    s.onUnit u (fun p =>
      { p with
        position := now
        causes := { p.causes with
          noLayout := false, restart := true
          unitFault := p.causes.unitFault || look s.lines.unitFault u
          pump := p.causes.pump || s.lines.pumpFault
          switch := p.causes.switch || now.isNone } })
  else s

/-- Whether a circuit is to be evaluated (R113): its station present and enabled, or its unit used. -/
def State.shouldEvaluate (s : State) (c : Circuit) : Bool :=
  if h : c.val < 4 then look s.enabled ⟨c.val, h⟩
  else if h : c.val < 8 then look s.enabled ⟨c.val - 4, by omega⟩
  else if h : c.val < 10 then s.used ⟨c.val - 8, by omega⟩
  else false

/-- Set the evaluated mark of every circuit that is to be evaluated (R3, R113). Before a layout every circuit reads INVALID already. -/
def markEvaluated (s : State) : State :=
  allCircuits.foldl (fun s' c => s'.onCircuit c (fun x => { x with evaluated := s.shouldEvaluate c })) s

/-- A present station becomes enabled and EMPTY (R3). -/
def adoptStation (s : State) (st : Station) : State :=
  if (s.layoutOf st).present then
    { s.onHeat st (fun _ => StationHeat.clear .empty) with enabled := place s.enabled st true }
  else s

/-- An accepted layout takes effect (R3). -/
def takeLayout (l : Layout) (s : State) : State :=
  let s1 := s.onCfg (fun c => { c with layout := l, shop := { c.shop with lInst := l.lInst } })
  let s2 := allStations.foldl adoptStation s1
  let s3 := allUnits.foldl adoptUnit s2
  reexamine (startPrograms (fun _ => true) (markEvaluated s3))

/-- LAYOUT (R2). -/
def layoutOwner (p : List Byte) (s : State) : Answer :=
  if s.cfg.layout.loaded then refuse s .layoutLocked
  else match layoutEntries p with
    | none => refuse s .badValue
    | some es =>
      if layoutRefused p es then refuse s .badValue
      else { state := takeLayout (layoutRecord p es) s
             code := if es.map LayoutStation.clamped = es then .ok else .clamped, data := [] }

/-- LAYOUT: payload present, unit, capacity (2) for each of four stations; rating (2) for each of two units. -/
def execLayout (tag : Byte) (payload : List Byte) (s : State) : Host.Outcome State Fault Refusal :=
  serveRequest .layout tag payload (layoutOwner payload) s

/-! ## STATION_ENABLE and STATION_DISABLE (R8, R9) -/

/-- A circuit evaluated anew: its quantities read INVALID until its next gate (R9, R113; log entry 28). -/
def CircuitSt.marked (x : CircuitSt) : CircuitSt :=
  { x with evaluated := true, flow := none, delta := none, heat := none, excess := none }

/-- A circuit no longer evaluated: its quantities stand until its next gate (R8, R113). -/
def CircuitSt.unmarked (x : CircuitSt) : CircuitSt := { x with evaluated := false }

/-- A station's coil and lead circuits are marked evaluated or not evaluated with its enable (R8, R9). -/
def markStation (st : Station) (on : Bool) (s : State) : State :=
  let mark := if on then CircuitSt.marked else CircuitSt.unmarked
  (s.onCircuit (coilOf st) mark).onCircuit (leadOf st) mark

/-- A disabled station is enabled (R9). -/
def enableStation (st : Station) (s : State) : State :=
  let s1 := { s.onHeat st (fun _ => StationHeat.clear .empty) with enabled := place s.enabled st true }
  reexamine (startPrograms (fun t => t == .station st) (markStation st true s1))

/-- STATION ENABLE (R9). -/
def stationEnableOwner (p : List Byte) (s : State) : Answer :=
  namingStation s (u8At p 0) (fun st =>
    if !(s.layoutOf st).present then refuse s .badValue
    else if look s.enabled st then { state := s, code := .ok, data := [] }
    else { state := enableStation st s, code := .ok, data := [] })

/-- STATION_ENABLE: payload station. -/
def execStationEnable (tag : Byte) (payload : List Byte) (s : State) : Host.Outcome State Fault Refusal :=
  serveRequest .stationEnable tag payload (stationEnableOwner payload) s

/-- The unit controller learns that a station has become OFF (R82): a RAMP_DOWN toward it is re-judged. -/
def tellOff (st : Station) (s : State) : State :=
  match s.unitOf st with
  | some u =>
    match (s.unit u).state with
    | .rampDown t => if t = st then rejudge u s else s
    | _ => s
  | none => s

/-- An EMPTY station is disabled (R6, R8, R33): OFF with its record clear, its programs suspended, its circuits no longer evaluated. -/
def disableStation (st : Station) (s : State) : State :=
  let s1 := { s.onHeat st (StationHeat.cleared .off) with enabled := place s.enabled st false }
  reexamine (tellOff st (markStation st false (suspendPrograms st (recompute st s1))))

/-- STATION DISABLE (R8). -/
def stationDisableOwner (p : List Byte) (s : State) : Answer :=
  forStation s (u8At p 0) (fun st =>
    match s.phase st with
    | .empty => { state := disableStation st s, code := .ok, data := [] }
    | .unknown => refuse s .wrongPhase
    | _ => refuse s .metalPresent)

/-- STATION_DISABLE: payload station. -/
def execStationDisable (tag : Byte) (payload : List Byte) (s : State) : Host.Outcome State Fault Refusal :=
  serveRequest .stationDisable tag payload (stationDisableOwner payload) s

/-! ## RELINE (R13) -/

/-- A lining record after RELINE: the limit is kept (R13). -/
def LiningRec.relined (l : LiningRec) : LiningRec := { LiningRec.zero with limit := l.limit }

/-- RELINE (R13). -/
def relineOwner (p : List Byte) (s : State) : Answer :=
  namingStation s (u8At p 0) (fun st =>
    match s.phase st with
    | .off => { state := { s with linings := place s.linings st (look s.linings st).relined }, code := .ok, data := [] }
    | .unknown | .empty => refuse s .wrongPhase
    | _ => refuse s .metalPresent)

/-- RELINE: payload station. -/
def execReline (tag : Byte) (payload : List Byte) (s : State) : Host.Outcome State Fault Refusal :=
  serveRequest .reline tag payload (relineOwner payload) s

end Sys2Proof.Machine
end

