-- ==== Sys2Proof/Machine/Tables.lean ====
section
/-!
DEFINITION. The eight tables on the link (9.3): their records as bytes, TABLE_READ, and TABLE_WRITE with the checks of R172, the clamping of
each field to its range, and what each block does with the new values.
-/

namespace Sys2Proof.Machine

/-! ## The tables and what a request covers (9.3, R171) -/

/-- The eight tables, in the order of their ids. -/
inductive Table where
  | layout | shop | station | unit | circuit | program | grade | lining
  deriving DecidableEq, Repr

/-- The table an id names (R171). -/
def tableOf : Nat → Option Table
  | 0 => some .layout | 1 => some .shop | 2 => some .station | 3 => some .unit
  | 4 => some .circuit | 5 => some .program | 6 => some .grade | 7 => some .lining
  | _ => none

/-- How many records a table holds (9.3). -/
def Table.count : Table → Nat
  | .layout | .shop => 1
  | .station | .lining => 4
  | .unit => 2
  | .circuit => 10
  | .program | .grade => 16

/-- Bytes of one record (9.3). -/
def Table.size : Table → Nat
  | .layout => 20 | .shop => 34 | .station => 9 | .unit => 5
  | .circuit => 4 | .program => 19 | .grade => 10 | .lining => 14

/-- What a TABLE READ or TABLE WRITE names: table, first index, number of records. -/
structure Covered where
  table : Table
  first : Nat
  count : Nat

/-- The records a payload covers, unless R171 refuses them. A first index of 0 names the table's first record, W1 in the PROGRAM table
(log entry 34). -/
def covered (p : List Byte) : Option Covered :=
  let first := u8At p 1
  let count := u8At p 2 + 1
  match tableOf (u8At p 0) with
  | some t =>
    if t.count < first + count ∨ 245 < count * t.size then none else some { table := t, first, count }
  | none => none

/-! ## Records as bytes -/

/-- The LAYOUT record in the form of the LAYOUT request payload (R4, 9.2.1). -/
def Layout.bytes (l : Layout) : List Byte :=
  (l.stations.toList.map (fun e => byteOf (yesNo e.present) :: byteOf (unitOrNone e.unit) :: le 2 e.capacity)).flatten ++
  (l.ratings.toList.map (le 2)).flatten

/-- The SHOP record, in the field order of 9.3. -/
def ShopRec.bytes (r : ShopRec) : List Byte :=
  byteOf r.c10 :: (le 2 r.h ++ le 2 r.tMelt ++ le 2 r.dipAgeMax ++ le 2 r.driftTol ++ le 2 r.transferDrop ++
    le 2 r.minDwell ++ le 2 r.contract ++ le 2 r.interval ++ le 2 r.baseLoad ++ le 2 r.holdReserve ++
    byteOf (yesNo r.demandSync) :: (le 2 r.lInst ++ le 2 r.coolStart ++ le 2 r.coolStop ++ le 2 r.reservoir ++
      le 2 r.permitTime ++ [byteOf r.expiryLimit, byteOf r.silenceTime]))

/-- A STATION record (2.3.2). -/
def StationRec.bytes (r : StationRec) : List Byte :=
  le 2 r.lRef ++ le 2 r.eta ++ le 2 r.heelMin ++ le 2 r.coilMinFlow ++ [r.mask]

/-- A UNIT record (4.1.1). -/
def UnitRec.bytes (r : UnitRec) : List Byte :=
  byteOf r.minPower :: (le 2 r.rampRate ++ [byteOf r.travelTime, byteOf r.mode.code])

/-- A PROGRAM record (7.1.1). -/
def ProgramRec.bytes (r : ProgramRec) : List Byte :=
  [byteOf (yesNo r.enabled), byteOf r.quantity.code, byteOf r.index] ++ leSigned 2 r.high ++ leSigned 2 r.low ++
  le 2 r.hysteresis ++ [byteOf r.debounce] ++ le 2 r.period ++
  [byteOf r.onHigh.code, byteOf r.onLow.code, byteOf r.onStale.code, byteOf r.percent, byteOf r.staleLimit,
    byteOf r.target.code, byteOf r.clear.code]

/-- A GRADE record (2.3.3). -/
def GradeRec.bytes (r : GradeRec) : List Byte :=
  le 2 r.tapTarget ++ le 2 r.tapWindow ++ le 2 r.holdTarget ++ le 2 r.holdBand ++ le 2 r.maximum

/-- A LINING record (1.3). -/
def LiningRec.bytes (r : LiningRec) : List Byte :=
  le 4 r.melted ++ le 4 r.limit ++ le 2 r.peak ++ le 4 r.overtemp

/-- Every record of a table as bytes, in index order. -/
def State.tableBytes (s : State) : Table → List (List Byte)
  | .layout => [s.cfg.layout.bytes]
  | .shop => [s.cfg.shop.bytes]
  | .station => s.cfg.stations.toList.map StationRec.bytes
  | .unit => s.cfg.units.toList.map UnitRec.bytes
  | .circuit => s.cfg.circuits.toList.map (le 4)
  | .program => s.cfg.programs.toList.map ProgramRec.bytes
  | .grade => s.cfg.grades.toList.map GradeRec.bytes
  | .lining => s.linings.toList.map LiningRec.bytes

/-! ## TABLE_READ (R171) -/

/-- TABLE READ (R171): the three request bytes, then the records as they stand. -/
def tableReadOwner (p : List Byte) (s : State) : Answer :=
  match covered p with
  | some c => { state := s, code := .ok, data := p.take 3 ++ (((s.tableBytes c.table).drop c.first).take c.count).flatten }
  | none => refuse s .badValue

/-- TABLE_READ: payload table id, first index, count − 1. -/
def execTableRead (tag : Byte) (payload : List Byte) (s : State) : Host.Outcome State Fault Refusal :=
  serveRequest .tableRead tag payload (tableReadOwner payload) s

/-! ## Records from bytes; `none` where an enumerated field or a program index is outside its set (R172, step 3) -/

/-- A SHOP record. -/
def shopOf (b : List Byte) : Option ShopRec :=
  (yesNoOf (u8At b 21)).map (fun sync =>
    { c10 := u8At b 0, h := u16At b 1, tMelt := u16At b 3, dipAgeMax := u16At b 5, driftTol := u16At b 7,
      transferDrop := u16At b 9, minDwell := u16At b 11, contract := u16At b 13, interval := u16At b 15,
      baseLoad := u16At b 17, holdReserve := u16At b 19, demandSync := sync, lInst := u16At b 22,
      coolStart := u16At b 24, coolStop := u16At b 26, reservoir := u16At b 28, permitTime := u16At b 30,
      expiryLimit := u8At b 32, silenceTime := u8At b 33 })

/-- A STATION record; no field of it is enumerated. -/
def stationRecOf (b : List Byte) : Option StationRec :=
  some { lRef := u16At b 0, eta := u16At b 2, heelMin := u16At b 4, coilMinFlow := u16At b 6, mask := b.getD 8 0 }

/-- A UNIT record. -/
def unitRecOf (b : List Byte) : Option UnitRec :=
  (unitModeOf (u8At b 4)).map (fun mode =>
    { minPower := u8At b 0, rampRate := u16At b 1, travelTime := u8At b 3, mode })

/-- A CIRCUIT record: K. -/
def circuitRecOf (b : List Byte) : Option Nat := some (u32At b 0)

/-- The index a quantity stores: within its range, or 0 for SUPPLY whatever was written (7.1.1, R144). Another index written for SUPPLY is no
clamped field, so the reply stays OK (log entry 38). -/
def indexFor (q : Quantity) (n : Nat) : Option Nat :=
  match q with
  | .flow | .returned | .delta | .heat => if 1 ≤ n ∧ n ≤ 10 then some n else none
  | .excess | .bath => if 1 ≤ n ∧ n ≤ 4 then some n else none
  | .supply => some 0

/-- The period a value in ms names: 250, 500, 1000 or 2000 (7.1.1, 9.3). -/
def periodOf (n : Nat) : Option Nat := if n = 250 ∨ n = 500 ∨ n = 1000 ∨ n = 2000 then some n else none

/-- A PROGRAM record (R144, step 2). -/
def programRecOf (b : List Byte) : Option ProgramRec := do
  let enabled ← yesNoOf (u8At b 0)
  let quantity ← quantityOf (u8At b 1)
  let index ← indexFor quantity (u8At b 2)
  let period ← periodOf (u16At b 10)
  let onHigh ← actionOf (u8At b 12)
  let onLow ← actionOf (u8At b 13)
  let onStale ← actionOf (u8At b 14)
  let target ← targetOf (u8At b 17)
  let clear ← clearModeOf (u8At b 18)
  some { enabled, quantity, index, high := s16At b 3, low := s16At b 5, hysteresis := u16At b 7, debounce := u8At b 9,
         period, onHigh, onLow, onStale, percent := u8At b 15, staleLimit := u8At b 16, target, clear }

/-- A GRADE record; no field of it is enumerated. -/
def gradeRecOf (b : List Byte) : Option GradeRec :=
  some { tapTarget := u16At b 0, tapWindow := u16At b 2, holdTarget := u16At b 4, holdBand := u16At b 6,
         maximum := u16At b 8 }

/-- A LINING record; no field of it is enumerated. -/
def liningRecOf (b : List Byte) : Option LiningRec :=
  some { melted := u32At b 0, limit := u32At b 4, peak := u16At b 8, overtemp := u32At b 10 }

/-- The records of a write, if each of them can be read: `count` of them, `size` bytes each. -/
def recordsOf {α : Type} (parse : List Byte → Option α) (size : Nat) : (count : Nat) → List Byte → Option (List α)
  | 0, _ => some []
  | count + 1, b =>
    match parse (b.take size) with
    | some x => (recordsOf parse size count (b.drop size)).map (fun xs => x :: xs)
    | none => none

/-! ## Ranges (R172; 2.3, 4.1.1, 5.3, 5.4, 5.5, 6.4, 7.1.1, 8.4, 9.3) -/

/-- The contract demand in its range: 0, or 500 to 16,000 (R104). -/
def contractFor (n : Nat) : Nat := if n = 0 then 0 else clampTo 500 16000 n

/-- The SHOP record within its ranges; the interval length is rounded down to a multiple of 60 (R104), and the cooling stop follows the
cooling start that the write leaves (R107). -/
def ShopRec.clamped (r : ShopRec) : ShopRec :=
  let coolStart := clampTo 200 450 r.coolStart
  { c10 := clampTo 50 120 r.c10
    h := clampTo 900 1600 r.h
    tMelt := clampTo 11500 13500 r.tMelt
    dipAgeMax := clampTo 60 1800 r.dipAgeMax
    driftTol := clampTo 50 1000 r.driftTol
    transferDrop := clampTo 0 600 r.transferDrop
    minDwell := clampTo 0 600 r.minDwell
    contract := contractFor r.contract
    interval := clampTo 300 3600 (r.interval / 60 * 60)
    baseLoad := clampTo 0 5000 r.baseLoad
    holdReserve := clampTo 0 2000 r.holdReserve
    demandSync := r.demandSync
    lInst := clampTo 500 16000 r.lInst
    coolStart
    coolStop := clampTo (coolStart + 20) 600 r.coolStop
    reservoir := clampTo 500 50000 r.reservoir
    permitTime := clampTo 30 600 r.permitTime
    expiryLimit := clampTo 1 9 r.expiryLimit
    silenceTime := clampTo 2 60 r.silenceTime }

/-- A STATION record within its ranges, for a station of a capacity (2.3.2, R1). -/
def StationRec.clamped (capacity : Nat) (r : StationRec) : StationRec :=
  { lRef := clampTo 20 400 r.lRef, eta := clampTo 500 950 r.eta, heelMin := clampTo 0 (capacity / 2) r.heelMin,
    coilMinFlow := clampTo 0 10000 r.coilMinFlow, mask := r.mask }

/-- A UNIT record within its ranges (4.1.1). -/
def UnitRec.clamped (r : UnitRec) : UnitRec :=
  { minPower := clampTo 50 200 r.minPower, rampRate := clampTo 10 2000 r.rampRate,
    travelTime := clampTo 2 20 r.travelTime, mode := r.mode }

/-- K within its range (6.4). -/
def pulsesClamped (k : Nat) : Nat := clampTo 10 100000 k

/-- A PROGRAM record within its ranges (7.1.1). -/
def ProgramRec.clamped (r : ProgramRec) : ProgramRec :=
  { r with hysteresis := clampTo 0 1000 r.hysteresis, debounce := clampTo 1 60 r.debounce,
           percent := clampTo 0 90 r.percent, staleLimit := clampTo 1 60 r.staleLimit }

/-- A GRADE record with each field within its range (2.3.3). -/
def GradeRec.clamped (r : GradeRec) : GradeRec :=
  { tapTarget := clampTo 13000 16000 r.tapTarget, tapWindow := clampTo 20 300 r.tapWindow,
    holdTarget := clampTo 12500 15500 r.holdTarget, holdBand := clampTo 20 300 r.holdBand,
    maximum := clampTo 13500 16500 r.maximum }

/-- The two conditions of a GRADE record (R23). -/
def GradeRec.fits (r : GradeRec) : Bool :=
  decide (r.holdTarget + r.holdBand + r.tapWindow ≤ r.tapTarget) && decide (r.tapTarget + r.tapWindow ≤ r.maximum)

/-- A LINING record within its ranges (R12). -/
def LiningRec.clamped (r : LiningRec) : LiningRec := { r with peak := clampTo 0 16500 r.peak }

/-! ## Storing -/

/-- A bank with records stored from a first index on. -/
def storeFrom {α : Type} {n : Nat} : Bank α n → Nat → List α → Bank α n
  | b, _, [] => b
  | b, i, x :: xs => storeFrom (if h : i < n then place b ⟨i, h⟩ x else b) (i + 1) xs

/-- The reply code of a taken write: CLAMPED if a record was changed by its ranges (R172). -/
def writeCode {α : Type} [DecidableEq α] (written kept : List α) : ReplyCode := if written = kept then .ok else .clamped

/-- A write whose records cannot be read is refused BAD_VALUE (R172, step 3). -/
def withRecords {α : Type} (s : State) (records : Option (List α)) (body : List α → Answer) : Answer :=
  match records with
  | some xs => body xs
  | none => refuse s .badValue

/-- The stations a write of a station's table covers. -/
def coveredStations (first count : Nat) : List Station :=
  allStations.filter (fun st => decide (first ≤ st.val) && decide (st.val < first + count))

/-- The units a write of the UNIT table covers. -/
def coveredUnits (first count : Nat) : List UnitId :=
  allUnits.filter (fun u => decide (first ≤ u.val) && decide (u.val < first + count))

/-- The programs a write of the PROGRAM table covers. -/
def coveredPrograms (first count : Nat) : List Program :=
  allPrograms.filter (fun p => decide (first ≤ p.val) && decide (p.val < first + count))

/-! ## What each block does with a write -/

/-- A new T_melt moves the estimate of every station with solid in it (R21). -/
def moveMelting (tMelt : Nat) (h : StationHeat) : StationHeat :=
  if 0 < h.record.solid then { h with record := { h.record with tEst := tMelt } } else h

/-- A SHOP record is stored and acted on: T_melt (R21), the demand sync mark (R104), the silence timer (R178) and the minimum dwell (R66, R85).
The SHOP table is one record, so every write of it writes the dwell and the silence time. -/
def takeShop (new : ShopRec) (s : State) : State :=
  let old := s.cfg.shop
  let s1 := s.onCfg (fun c => { c with shop := new })
  let s2 := if new.tMelt = old.tMelt then s1 else { s1 with heats := overAll (moveMelting new.tMelt) s1.heats }
  let s3 := { s2 with alloc := { s2.alloc with syncLost := s2.alloc.syncLost && !(old.demandSync && !new.demandSync) } }
  let s4 := s3.onLink (fun l =>
    { l with silenceTimer := if l.silent then l.silenceTimer else some (new.silenceTime * 1000) })
  allUnits.foldl (fun s u => autoEvaluate u s) s4

/-- TABLE WRITE of SHOP. -/
def writeShop (b : List Byte) (s : State) : Answer :=
  withRecords s (recordsOf shopOf 34 1 b) (fun xs =>
    let ys := xs.map ShopRec.clamped
    { state := ys.foldl (fun s r => takeShop r s) s, code := writeCode xs ys, data := [] })

/-- TABLE WRITE of STATION: stored, then the tap queue is re-examined (R151). -/
def writeStation (first count : Nat) (b : List Byte) (s : State) : Answer :=
  withRecords s (recordsOf stationRecOf 9 count b) (fun xs =>
    let ys := List.zipWith (fun st r => r.clamped (s.capacity st)) (coveredStations first count) xs
    { state := reexamine (s.onCfg (fun c => { c with stations := storeFrom c.stations first ys }))
      code := writeCode xs ys, data := [] })

/-- TABLE WRITE of UNIT: a written AUTO makes its unit evaluate (R66, R87). -/
def writeUnit (first count : Nat) (b : List Byte) (s : State) : Answer :=
  withRecords s (recordsOf unitRecOf 5 count b) (fun xs =>
    let ys := xs.map UnitRec.clamped
    { state := (coveredUnits first count).foldl (fun s u => autoEvaluate u s)
        (s.onCfg (fun c => { c with units := storeFrom c.units first ys }))
      code := writeCode xs ys, data := [] })

/-- TABLE WRITE of CIRCUIT: K is read at the next gate (R115). -/
def writeCircuit (first count : Nat) (b : List Byte) (s : State) : Answer :=
  withRecords s (recordsOf circuitRecOf 4 count b) (fun xs =>
    let ys := xs.map pulsesClamped
    { state := s.onCfg (fun c => { c with circuits := storeFrom c.circuits first ys })
      code := writeCode xs ys, data := [] })

/-- A covered program is rewritten (R144): its run state starts afresh on the stored record. Its action can only be NOTE or FOLDBACK, so no
trip or bar set changes. -/
def rewriteRun (s : State) (p : Program) : State := s.onRun p (fun _ => s.startRun p)

/-- TABLE WRITE of PROGRAM (R144). -/
def writeProgram (first count : Nat) (b : List Byte) (s : State) : Answer :=
  withRecords s (recordsOf programRecOf 19 count b) (fun xs =>
    if (coveredPrograms first count).any (fun p => (s.held p).trips) then refuse s .busy
    else
      let ys := xs.map ProgramRec.clamped
      { state := (coveredPrograms first count).foldl rewriteRun
          (s.onCfg (fun c => { c with programs := storeFrom c.programs first ys }))
        code := writeCode xs ys, data := [] })

/-- TABLE WRITE of GRADE (R23). -/
def writeGrade (first count : Nat) (b : List Byte) (s : State) : Answer :=
  withRecords s (recordsOf gradeRecOf 10 count b) (fun xs =>
    let ys := xs.map GradeRec.clamped
    if ys.all GradeRec.fits then
      { state := s.onCfg (fun c => { c with grades := storeFrom c.grades first ys }), code := writeCode xs ys, data := [] }
    else refuse s .badValue)

/-- Whether a station's phase lets its LINING record be written (R12). -/
def State.liningOpen (s : State) (st : Station) : Bool := decide (s.phase st = .off) || decide (s.phase st = .empty)

/-- TABLE WRITE of LINING (R12), with the notice of a lining that becomes spent (R11), in station order where several do (log entry 36). -/
def writeLining (first count : Nat) (b : List Byte) (s : State) : Answer :=
  withRecords s (recordsOf liningRecOf 14 count b) (fun xs =>
    let sts := coveredStations first count
    if sts.all s.liningOpen then
      let ys := xs.map LiningRec.clamped
      { state := sts.foldl (fun s' st => liningEdge st (look s.linings st) s') { s with linings := storeFrom s.linings first ys }
        code := writeCode xs ys, data := [] }
    else refuse s .metalPresent)

/-! ## TABLE_WRITE (R172) -/

/-- A write of one table, its length already judged. Table 0 is refused before (R4). -/
def writeTable (c : Covered) (b : List Byte) (s : State) : Answer :=
  match c.table with
  | .layout => refuse s .badValue
  | .shop => writeShop b s
  | .station => writeStation c.first c.count b s
  | .unit => writeUnit c.first c.count b s
  | .circuit => writeCircuit c.first c.count b s
  | .program => writeProgram c.first c.count b s
  | .grade => writeGrade c.first c.count b s
  | .lining => writeLining c.first c.count b s

/-- TABLE WRITE, steps 1 and 2 of R172, then the table's own. -/
def tableWriteOwner (p : List Byte) (s : State) : Answer :=
  match covered p with
  | some c =>
    if c.table = .layout then refuse s .badValue
    else if p.length ≠ 3 + c.count * c.table.size then refuse s .badLength
    else writeTable c (p.drop 3) s
  | none => refuse s .badValue

/-- TABLE_WRITE: payload table id, first index, count − 1, records. -/
def execTableWrite (tag : Byte) (payload : List Byte) (s : State) : Host.Outcome State Fault Refusal :=
  serveRequest .tableWrite tag payload (tableWriteOwner payload) s

end Sys2Proof.Machine
end

