-- ==== Sys2Proof/Machine/LinkEvents.lean ====
section
/-!
DEFINITION. The events of the link: FRAME_RECEIVED, INTER_BYTE_GAP, FRAME_LEN_ABANDONED, BREAK, BREAK_END, SILENCE_TIMER_EXPIRY,
TRANSMIT_FRAME_END, and the dispatch of a frame of UNKNOWN_KIND. The bytes of the line reach the receiver through the operands of the
receive events: the table has no row for a single byte. Where an event leaves a frame at the head of the receive queue with no reply pending,
the link controller dispatches it in the same step (R169).
-/

namespace Sys2Proof.Machine

/-! ## Dispatch of what waits (R169, R170) -/

/-- The owner of a request kind (the table of 9.2.1). -/
def ownerOf (k : RequestKind) (p : List Byte) (s : State) : Answer :=
  match k with
  | .shopStatus => shopStatusOwner s
  | .layout => layoutOwner p s
  | .tableRead => tableReadOwner p s
  | .tableWrite => tableWriteOwner p s
  | .restart => restartOwner s
  | .stationEnable => stationEnableOwner p s
  | .stationDisable => stationDisableOwner p s
  | .reline => relineOwner p s
  | .charge => chargeOwner p s
  | .dip => dipOwner p s
  | .transfer => transferOwner p s
  | .heatRead => heatReadOwner p s
  | .heatLoad => heatLoadOwner p s
  | .heatDeclare => heatDeclareOwner p s
  | .heatEmpty => heatEmptyOwner p s
  | .flagsClear => flagsClearOwner p s
  | .dipHistory => dipHistoryOwner p s
  | .unitMode => unitModeOwner p s
  | .changeover => changeoverOwner p s
  | .tripReset => tripResetOwner p s
  | .intervalSync => intervalSyncOwner s
  | .watchStatus => watchStatusOwner s
  | .ewClose => ewCloseOwner p s
  | .ladleRequest => ladleRequestOwner p s
  | .ladleCancel => ladleCancelOwner p s
  | .tapStart => tapStartOwner p s
  | .tapDone => tapDoneOwner p s
  | .tapAbort => tapAbortOwner p s
  | .queueRead => queueReadOwner s

/-- What the part answers to a frame (R170): UNKNOWN_KIND, BAD_LENGTH, or what the owner of its kind gives. -/
def judgeFrame (f : Frame) (s : State) : Answer :=
  match RequestKind.ofCode f.kind with
  | some k => judged k f.payload (ownerOf k f.payload) s
  | none => refuse s .unknownKind

/-- Head frames are dispatched while no reply is pending (R169), at most `n` of them. -/
def dispatchUpTo : (n : Nat) → State → State
  | 0, s => s
  | n + 1, s =>
    if s.dispatchOpen then
      match s.link.rx with
      | f :: rest => dispatchUpTo n (placeReply f.kind f.tag (judgeFrame f (s.onLink (fun l => { l with rx := rest }))))
      | [] => s
    else s

/-- The link controller dispatches the frames at the head of the receive queue until one has to wait for the pending reply (R169). -/
def dispatchWaiting (s : State) : State := dispatchUpTo s.link.rx.length s

/-! ## The receiver byte by byte (R166, R167) -/

/-- A frame with a matching CRC arrives (R167): it ends silence, joins the queue and is dispatched at once where no reply is pending. -/
def acceptFrame (f : Frame) (s : State) : State :=
  let s1 := validFrame s
  if s1.link.rx.length < Config.rxDepth then dispatchWaiting (s1.onLink (fun l => { l with rx := l.rx ++ [f] })) else countDiscard s1

/-- A complete frame: taken if its CRC matches, otherwise discarded (R167). -/
def completeFrame (bytes : List Byte) (s : State) : State :=
  match frameOf bytes with
  | some f => acceptFrame f s
  | none => countDiscard s

/-- The receiver takes one byte (R166). No byte is taken while the line is held low (R168). -/
def rxByte (s : State) (b : Byte) : State :=
  if s.link.lineLow then s
  else match s.link.receiver with
    | .hunt => if b = Config.syncByte then s.onLink (fun l => { l with receiver := .inFrame [b] }) else s
    | .inFrame taken =>
      match taken with
      | _ :: len :: _ =>
        let bytes := taken ++ [b]
        if bytes.length = len.toNat + 5 then completeFrame bytes (s.onLink (fun l => { l with receiver := .hunt }))
        else s.onLink (fun l => { l with receiver := .inFrame bytes })
      | _ =>
        if b.toNat = 0 ∨ Config.maxLen < b.toNat then countDiscard (s.onLink (fun l => { l with receiver := .hunt }))
        else s.onLink (fun l => { l with receiver := .inFrame (taken ++ [b]) })

/-- The receiver takes bytes in the order of the line (R166). -/
def rxBytes (bytes : List Byte) (s : State) : State := bytes.foldl rxByte s

/-! ## The events -/

/-- FRAME_RECEIVED (R166, R167): the bytes that complete a frame. -/
def execFrameReceived (bytes : List Byte) (s : State) : Host.Outcome State Fault Refusal := whileRunning (rxBytes bytes) s

/-- INTER_BYTE_GAP (R166): after the bytes the gap abandons the frame in progress. -/
def execInterByteGap (bytes : List Byte) (s : State) : Host.Outcome State Fault Refusal :=
  whileRunning (fun s => abandonFrame (rxBytes bytes s)) s

/-- The bytes of FRAME_LEN_ABANDONED: the LEN byte, after a SYNC unless the receiver has taken one already. -/
def State.lenBytes (s : State) (len : Byte) : List Byte :=
  match s.link.receiver with
  | .hunt => [Config.syncByte, len]
  | .inFrame _ => [len]

/-- FRAME_LEN_ABANDONED (R166). -/
def execFrameLenAbandoned (len : Byte) (s : State) : Host.Outcome State Fault Refusal :=
  whileRunning (fun s => rxBytes (s.lenBytes len) s) s

/-- The level of the receive line: low during a break (R168). -/
def lineLevel (low : Bool) (s : State) : State := s.onLink (fun l => { l with lineLow := low })

/-- BREAK (R168): after the bytes the line is held low, which abandons the frame in progress. The level is the field's, and is known also
while the reset line holds the part. -/
def execLineBreak (bytes : List Byte) (s : State) : Host.Outcome State Fault Refusal :=
  if s.resetHeld then .next (lineLevel true s)
  else done (lineLevel true (abandonFrame (rxBytes bytes s)))

/-- BREAK_END (R168): the line is high again and the receiver hunts. -/
def execBreakEnd (s : State) : Host.Outcome State Fault Refusal :=
  whileRunning (fun s => s.onLink (fun l => { l with receiver := .hunt })) (lineLevel false s)

/-- SILENCE_TIMER_EXPIRY (R178). The timer does not run while the link is silent, and an expiry behind a valid frame or a write of the silence
time, which restart the timer, does not happen (R179; log entry 3). -/
def execSilenceTimerExpiry (s : State) : Host.Outcome State Fault Refusal :=
  whileRunning (fun s => if s.link.silent || s.link.silenceTimer != some 0 then s else enterSilence s) s

/-- Whether the frame on the line is the reply to RESTART: a reply, with that of RESTART asked for and no longer pending (R174). -/
def Link.answersRestart (l : Link) : Sending → Bool
  | .reply _ => decide (l.restart = .replying) && l.pendingReply.isNone
  | .notice _ => false

/-- The frame on the line has been sent whole; the reply to RESTART makes the restart due (R174, R177). -/
def endTransmission (s : State) : State :=
  match s.link.sending with
  | some f =>
    s.onLink (fun l => { l with sending := none, restart := if s.link.answersRestart f then .due else l.restart })
  | none => s

/-- TRANSMIT_FRAME_END (R177): the transmitter then chooses its next frame; a reply that so begins lets the next request be dispatched
(R169). -/
def execTransmitFrameEnd (s : State) : Host.Outcome State Fault Refusal :=
  if s.resetHeld then .next s else .next (dispatchWaiting (nextFrame (endTransmission s)))

/-- UNKNOWN_KIND (R170): a frame whose KIND is no request kind. A KIND that is one makes no such command, and nothing happens. -/
def execUnknownKind (kind tag : Byte) (payload : List Byte) (s : State) : Host.Outcome State Fault Refusal :=
  match RequestKind.ofCode kind with
  | some _ => .next s
  | none => serve kind tag payload (fun s => refuse s .unknownKind) s

end Sys2Proof.Machine
end

