-- ==== Sys2Proof/Machine/Reset.lean ====
section
/-!
DEFINITION. The two resets (1.4): POWER_ON, the restart with the reset line held and released, and the restart that RESTART asks for.
-/

namespace Sys2Proof.Machine

/-- POWER_ON (R14): every piece of state takes its power-on value; the field lines stand where they stand (R65, log entry 4), and the commands
that wait still wait. -/
def execPowerOn (s : State) : Host.Outcome State Fault Refusal := .next (State.poweredOn s.lines s.link.lineLow s.pending)

/-- The causes of a unit just after a restart (R84), with `switch` where a used unit's contacts disagree. -/
def State.restartCauses (s : State) (u : UnitId) : Causes :=
  { noLayout := !s.used u, restart := true, unitFault := look s.lines.unitFault u, pump := s.lines.pumpFault,
    switch := s.used u && (s.shown u).isNone, noDecay := false }

/-- A unit just after a restart (R84): a used one reads its position from its contacts. -/
def State.restartUnit (s : State) (u : UnitId) : PowerUnit :=
  PowerUnit.afterReset (s.restartCauses u) (if s.used u then s.shown u else none)

/-- The phase of a station just after a restart (R10): its enable is kept. -/
def restartPhase (enabled : Bool) : Phase := if enabled then .unknown else .off

/-- The run states just after a restart, on the phases the restart leaves (R130). -/
def State.restartRuns (s : State) : Bank RunState 16 := allPrograms.foldl (fun runs p => place runs p (s.startRun p)) s.runs

/-- The state just after a restart (R14, R84, R90, R109, R114, R130, R147, R174): what describes the shop is kept, what happens in it is not. -/
def restartState (s : State) : State :=
  let s1 : State :=
    { s with
      heats := overAll (fun enabled => StationHeat.clear (restartPhase enabled)) s.enabled
      inflow := 0
      outflow := 0
      units := #v[s.restartUnit 0, s.restartUnit 1]
      alloc := Allocator.afterReset s.cfg.shop.demandSync
      channels := Vector.replicate 16 ChannelSt.afterReset
      circuits := overAll (fun c => CircuitSt.afterReset c.evaluated) s.circuits
      taps := TapQueue.blank
      link := Link.afterReset s.cfg.shop.silenceTime s.link.lineLow
      clockMs := 0 }
  { s1 with runs := s1.restartRuns }

/-- A unit reads its lines again when the part resumes (R84): an active line enters its cause, and a used unit's contacts are followed, with
SWITCH where they disagree or no longer show the position read at the restart. -/
def rereadUnit (s : State) (u : UnitId) : State :=
  let now := s.shown u
  s.onUnit u (fun p =>
    let c := { p.causes with unitFault := p.causes.unitFault || look s.lines.unitFault u, pump := p.causes.pump || s.lines.pumpFault }
    if s.used u then { p with position := now, causes := { c with switch := c.switch || now.isNone || now != p.position } }
    else { p with causes := c })

/-- Each station in UNKNOWN is given emergency water if the pump-fault line is active when the part resumes (R122). -/
def waterUnknown (s : State) : State :=
  if s.lines.pumpFault then allStations.foldl (openIfMetal causePump) s else s

/-- The part resumes after a restart, with part time 0 (R14, R84, R122). -/
def resume (s : State) : State :=
  waterUnknown (allUnits.foldl rereadUnit { s with resetHeld := false, clockMs := 0 })

/-- RESET_LINE_ACTIVE (R14): the restart takes place and the part is held. -/
def execResetLineActive (s : State) : Host.Outcome State Fault Refusal :=
  if s.resetHeld then .next s else .next { restartState s with resetHeld := true }

/-- RESET_LINE_RELEASED (R14). -/
def execResetLineReleased (s : State) : Host.Outcome State Fault Refusal :=
  if s.resetHeld then done (resume s) else .next s

/-- RESTART_TAKES_EFFECT (R174): as if the reset line had been made active and at once released. -/
def execRestartTakesEffect (s : State) : Host.Outcome State Fault Refusal :=
  if !s.resetHeld && decide (s.link.restart = .due) then done (resume (restartState s)) else .next s

end Sys2Proof.Machine
end

