-- ==== Sys2Proof/Machine/WatchEvents.lean ====
section
/-!
DEFINITION. PROGRAM_EVALUATION (7.3).
-/

namespace Sys2Proof.Machine

/-- An evaluation of a live program (R131). -/
def evaluateProgram (p : Program) (s : State) : State :=
  let v := s.input (s.program p)
  handOn p v (evaluate (s.program p) v (s.run p)) s

/-- PROGRAM_EVALUATION (R131): a program that is not live has none, and one behind a rewrite, which restarts the period timer, does not happen
(R144; log entry 3). -/
def execProgramEvaluation (p : Program) (s : State) : Host.Outcome State Fault Refusal :=
  whileRunning (fun s => if s.live p && (s.run p).periodTimer == some 0 then evaluateProgram p s else s) s

end Sys2Proof.Machine
end

