-- ==== Sys2Proof/Machine/Water.lean ====
section
/-!
DEFINITION. The cooling monitor (chapter 6): CHANNEL_ARRIVAL, CHANNEL_TIMEOUT, FLOW_PULSE, CIRCUIT_GATE.
-/

namespace Sys2Proof.Machine

/-! ## Channels (R109, R110) -/

/-- What a delivery is taken as: a value within −20.0 to 120.0 °C, otherwise INVALID (R109). -/
def takenReading (v : Option Int) : Option Int :=
  match v with
  | some x => if -200 ≤ x ∧ x ≤ 1200 then some x else none
  | none => none

/-- CHANNEL_ARRIVAL (R109): the reading is replaced and the channel timer restarts. -/
def execChannelArrival (c : Channel) (v : Option Int) (s : State) : Host.Outcome State Fault Refusal :=
  whileRunning (fun s => s.onChannel c (fun _ => { reading := takenReading v, timer := some Config.channelMs })) s

/-- CHANNEL_TIMEOUT (R110): the reading becomes INVALID. An expiry behind an arrival, which restarts the timer, does not happen
(log entry 3). -/
def execChannelTimeout (c : Channel) (s : State) : Host.Outcome State Fault Refusal :=
  whileRunning (fun s =>
    if (look s.channels c).timer = some 0 then s.onChannel c (fun _ => { reading := none, timer := none }) else s) s

/-! ## Pulses and gates (R114 to R118) -/

/-- FLOW_PULSE (R114). -/
def execFlowPulse (c : Circuit) (s : State) : Host.Outcome State Fault Refusal :=
  whileRunning (fun s => s.onCircuit c (fun x => { x with pulses := satAdd 65535 x.pulses 1 })) s

/-- Flow of a gate in tenths of L/min, INVALID when the transmitter chatters (R115). -/
def gateFlow (n k : Nat) : Option Nat := if Config.chatterPulses < n then none else some (n * 30000 / k)

/-- Heat a circuit carries, kW (R116). -/
def gateHeat (flow : Option Nat) (delta : Option Int) : Option Nat :=
  match flow, delta with
  | some f, some d => some (f * (max d 0).toNat * 4186 / 6000000)
  | _, _ => none

/-- Return minus supply (R116). -/
def gateDelta (returned supply : Option Int) : Option Int :=
  match returned, supply with
  | some r, some t => some (r - t)
  | _, _ => none

/-- Excess of a coil circuit, kW (R117). -/
def gateExcess (heat : Option Nat) (power eta : Nat) : Option Int :=
  heat.map (fun h => (h : Int) - (power * (1000 - eta) / 1000 : Nat))

/-- The quantities a circuit takes at its gate (R113, R115 to R117), its count and timer started afresh. -/
def State.gated (s : State) (c : Circuit) : CircuitSt :=
  let x := look s.circuits c
  let y := { x with pulses := 0, gateTimer := Config.gateMs }
  if x.evaluated then
    let flow := gateFlow x.pulses (look s.cfg.circuits c)
    let delta := gateDelta (s.rawReturn c) s.supply
    let heat := gateHeat flow delta
    { y with
      flow, delta, heat
      excess := match coilStation c with
        | some st => gateExcess heat (s.stationPower st) (s.stationRec st).eta
        | none => none }
  else { y with flow := none, delta := none, heat := none, excess := none }

/-! ## Reservoir (R126, R127) -/

/-- A gate's draw in tenths of a litre (R126): an INVALID flow counts at the largest the gate can measure. -/
def gateDraw (flow : Option Nat) (k : Nat) : Nat :=
  match flow with
  | some f => f * 2 / 60
  | none => Config.chatterPulses * 30000 / k * 2 / 60

/-- Judge the two levels after an addition (R127). -/
def judgeLevels (s : State) : State :=
  let r := s.reservoir
  let v := s.cfg.shop.reservoir
  let s1 := if v * 8 ≤ r.drawn ∧ r.lowMark = false then
      { s with reservoir := { s.reservoir with lowMark := true } }.notify .reservoir 0 (nat 0) (nat r.drawn) (nat v)
    else s
  if v * 10 ≤ r.drawn ∧ r.exhaustedMark = false then
    { s1 with reservoir := { s1.reservoir with exhaustedMark := true } }.notify .reservoir 0 (nat 1) (nat r.drawn) (nat v)
  else s1

/-- Add a gate's draw to the account and judge the levels (R126, R127). -/
def addDraw (n : Nat) (s : State) : State :=
  judgeLevels { s with reservoir := { s.reservoir with drawn := satAdd top32 s.reservoir.drawn n } }

/-- The circuit gate (R114, R118): the quantities, the draw of an open coil, then the unit's evaluation. -/
def circuitGate (c : Circuit) (s : State) : State :=
  let x := s.gated c
  let s1 := s.onCircuit c (fun _ => x)
  match coilStation c with
  | some st =>
    let s2 := if look s1.valves st then addDraw (gateDraw x.flow (look s.cfg.circuits c)) s1 else s1
    evaluateIfOther st s2
  | none => s1

/-- CIRCUIT_GATE (R114). -/
def execCircuitGate (c : Circuit) (s : State) : Host.Outcome State Fault Refusal := whileRunning (circuitGate c) s

end Sys2Proof.Machine
end

