-- ==== Sys2Proof/Machine/Dispatch.lean ====
section
/-!
DEFINITION. What each command does: one arm per constructor, each one call of its meaning.
-/

namespace Sys2Proof.Machine

def exec (i : Instr) (s : State) : Host.Outcome State Fault Refusal :=
  match i with
  | .powerOn => Sys2Proof.Machine.execPowerOn s
  | .resetLineActive => Sys2Proof.Machine.execResetLineActive s
  | .resetLineReleased => Sys2Proof.Machine.execResetLineReleased s
  | .restartTakesEffect => Sys2Proof.Machine.execRestartTakesEffect s
  | .frameReceived bytes => Sys2Proof.Machine.execFrameReceived bytes s
  | .interByteGap bytes => Sys2Proof.Machine.execInterByteGap bytes s
  | .lineBreak bytes => Sys2Proof.Machine.execLineBreak bytes s
  | .silenceTimerExpiry => Sys2Proof.Machine.execSilenceTimerExpiry s
  | .transmitFrameEnd => Sys2Proof.Machine.execTransmitFrameEnd s
  | .unknownKind kind tag payload => Sys2Proof.Machine.execUnknownKind kind tag payload s
  | .shopStatus tag payload => Sys2Proof.Machine.execShopStatus tag payload s
  | .layout tag payload => Sys2Proof.Machine.execLayout tag payload s
  | .tableRead tag payload => Sys2Proof.Machine.execTableRead tag payload s
  | .tableWrite tag payload => Sys2Proof.Machine.execTableWrite tag payload s
  | .restart tag payload => Sys2Proof.Machine.execRestart tag payload s
  | .stationEnable tag payload => Sys2Proof.Machine.execStationEnable tag payload s
  | .stationDisable tag payload => Sys2Proof.Machine.execStationDisable tag payload s
  | .reline tag payload => Sys2Proof.Machine.execReline tag payload s
  | .charge tag payload => Sys2Proof.Machine.execCharge tag payload s
  | .dip tag payload => Sys2Proof.Machine.execDip tag payload s
  | .transfer tag payload => Sys2Proof.Machine.execTransfer tag payload s
  | .heatRead tag payload => Sys2Proof.Machine.execHeatRead tag payload s
  | .heatLoad tag payload => Sys2Proof.Machine.execHeatLoad tag payload s
  | .heatDeclare tag payload => Sys2Proof.Machine.execHeatDeclare tag payload s
  | .heatEmpty tag payload => Sys2Proof.Machine.execHeatEmpty tag payload s
  | .flagsClear tag payload => Sys2Proof.Machine.execFlagsClear tag payload s
  | .dipHistory tag payload => Sys2Proof.Machine.execDipHistory tag payload s
  | .unitMode tag payload => Sys2Proof.Machine.execUnitMode tag payload s
  | .changeover tag payload => Sys2Proof.Machine.execChangeover tag payload s
  | .tripReset tag payload => Sys2Proof.Machine.execTripReset tag payload s
  | .intervalSync tag payload => Sys2Proof.Machine.execIntervalSync tag payload s
  | .watchStatus tag payload => Sys2Proof.Machine.execWatchStatus tag payload s
  | .ewClose tag payload => Sys2Proof.Machine.execEwClose tag payload s
  | .ladleRequest tag payload => Sys2Proof.Machine.execLadleRequest tag payload s
  | .ladleCancel tag payload => Sys2Proof.Machine.execLadleCancel tag payload s
  | .tapStart tag payload => Sys2Proof.Machine.execTapStart tag payload s
  | .tapDone tag payload => Sys2Proof.Machine.execTapDone tag payload s
  | .tapAbort tag payload => Sys2Proof.Machine.execTapAbort tag payload s
  | .queueRead tag payload => Sys2Proof.Machine.execQueueRead tag payload s
  | .modelStep station => Sys2Proof.Machine.execModelStep station s
  | .measuredPower unit kw => Sys2Proof.Machine.execMeasuredPower unit kw s
  | .decayTimeout unit => Sys2Proof.Machine.execDecayTimeout unit s
  | .switchContacts unit a b => Sys2Proof.Machine.execSwitchContacts unit a b s
  | .travelTimeout unit => Sys2Proof.Machine.execTravelTimeout unit s
  | .settleExpiry unit => Sys2Proof.Machine.execSettleExpiry unit s
  | .dwellExpiry unit => Sys2Proof.Machine.execDwellExpiry unit s
  | .unitFaultActive unit => Sys2Proof.Machine.execUnitFaultActive unit s
  | .unitFaultInactive unit => Sys2Proof.Machine.execUnitFaultInactive unit s
  | .pumpFaultActive => Sys2Proof.Machine.execPumpFaultActive s
  | .pumpFaultInactive => Sys2Proof.Machine.execPumpFaultInactive s
  | .allocationPass => Sys2Proof.Machine.execAllocationPass s
  | .channelArrival channel reading => Sys2Proof.Machine.execChannelArrival channel reading s
  | .channelTimeout channel => Sys2Proof.Machine.execChannelTimeout channel s
  | .flowPulse circuit => Sys2Proof.Machine.execFlowPulse circuit s
  | .circuitGate circuit => Sys2Proof.Machine.execCircuitGate circuit s
  | .programEvaluation program => Sys2Proof.Machine.execProgramEvaluation program s
  | .permitExpiry permit => Sys2Proof.Machine.execPermitExpiry permit s
  | .frameLenAbandoned len => Sys2Proof.Machine.execFrameLenAbandoned len s
  | .breakEnd => Sys2Proof.Machine.execBreakEnd s

end Sys2Proof.Machine
end

