-- ==== Sys2Proof/Safety.lean ====
section
/-!
DEFINITION. The terms claims are stated in: when a command is taken, what a reply leaves on the link, what a block leaves alone, which timer
command is due, and the invariants of a shop that runs as the manual describes it. Nothing here gives a command a meaning.
-/

namespace Sys2Proof.Machine

/-! ## When a command is taken -/

/-- The command that dispatches a request of a kind (9.2.1). -/
def commandOf (k : RequestKind) (tag : Byte) (payload : List Byte) : Instr :=
  match k with
  | .shopStatus => .shopStatus tag payload
  | .layout => .layout tag payload
  | .tableRead => .tableRead tag payload
  | .tableWrite => .tableWrite tag payload
  | .restart => .restart tag payload
  | .stationEnable => .stationEnable tag payload
  | .stationDisable => .stationDisable tag payload
  | .reline => .reline tag payload
  | .charge => .charge tag payload
  | .dip => .dip tag payload
  | .transfer => .transfer tag payload
  | .heatRead => .heatRead tag payload
  | .heatLoad => .heatLoad tag payload
  | .heatDeclare => .heatDeclare tag payload
  | .heatEmpty => .heatEmpty tag payload
  | .flagsClear => .flagsClear tag payload
  | .dipHistory => .dipHistory tag payload
  | .unitMode => .unitMode tag payload
  | .changeover => .changeover tag payload
  | .tripReset => .tripReset tag payload
  | .intervalSync => .intervalSync tag payload
  | .watchStatus => .watchStatus tag payload
  | .ewClose => .ewClose tag payload
  | .ladleRequest => .ladleRequest tag payload
  | .ladleCancel => .ladleCancel tag payload
  | .tapStart => .tapStart tag payload
  | .tapDone => .tapDone tag payload
  | .tapAbort => .tapAbort tag payload
  | .queueRead => .queueRead tag payload

/-- A command is taken: the part is not held, and a request row's frame may be dispatched (R14, R169, R174; log entry 1). -/
def State.takes (s : State) (i : Instr) : Bool :=
  match i.frame with
  | some (kind, tag, payload) =>
    !s.resetHeld && s.link.pendingReply.isNone && decide (s.link.restart = .none) &&
      (s.link.rx.isEmpty || decide (s.link.rx.head? = some { kind, tag, payload }))
  | none => !s.resetHeld

/-- The request row that stands for the dispatch of a frame (R170; log entry 1). -/
def Frame.row (f : Frame) : Instr :=
  match RequestKind.ofCode f.kind with
  | some k => commandOf k f.tag f.payload
  | none => .unknownKind f.kind f.tag f.payload

/-- Whether a link event can have a frame dispatched in its course (R169): one that brings bytes while no reply is pending, or the end of a
transmission while frames wait. -/
def State.mayDispatch (s : State) (i : Instr) : Bool :=
  match i with
  | .frameReceived _ | .interByteGap _ | .lineBreak _ | .frameLenAbandoned _ => s.dispatchOpen
  | .transmitFrameEnd => !s.link.rx.isEmpty
  | _ => false

/-- A timer command whose timer stands at 0, or whose counted time has been reached (log entry 3). Commands of the field, of the link's lines
and of the host are never due. -/
def State.due (s : State) (i : Instr) : Bool :=
  match i with
  | .modelStep st => decide ((s.heat st).stepTimer = some 0)
  | .decayTimeout u => decide ((s.unit u).decayTimer = some 0)
  | .travelTimeout u => decide ((s.unit u).travel.map Travel.timer = some 0)
  | .settleExpiry u => decide ((s.unit u).settleTimer = some 0)
  | .dwellExpiry u => s.dwellDue u
  | .allocationPass => decide (s.alloc.passTimer = 0)
  | .channelTimeout c => decide ((look s.channels c).timer = some 0)
  | .circuitGate c => decide ((look s.circuits c).gateTimer = 0)
  | .programEvaluation p => decide ((s.run p).periodTimer = some 0)
  | .permitExpiry id => s.taps.entries.any (fun e => e.holdsUnstarted id && e.permit.any (fun q => q.leftMs == 0))
  | .silenceTimerExpiry => decide (s.link.silenceTimer = some 0)
  | .restartTakesEffect => decide (s.link.restart = .due)
  | _ => false

/-! ## What a request leaves on the link -/

/-- The link once a request of it has been answered (R169, R177): its frame has left the receive queue, and the reply is on the line if the
transmitter was idle and pending otherwise. -/
def Link.answered (l : Link) (r : Reply) : Link :=
  if l.sending.isSome then { l with rx := l.rx.tail, pendingReply := some r }
  else { l with rx := l.rx.tail, pendingReply := none, sending := some (.reply r) }

/-- The reply to a request row. -/
def replyTo (i : Instr) (code : ReplyCode) (data : List Byte) : Reply :=
  match i.frame with
  | some (kind, tag, _) => { kind, tag, code, data }
  | none => { kind := 0, tag := 0, code, data }

/-- `t` is `s` with a request refused: the code is sent alone and nothing else changes (R170). -/
def State.refused (s : State) (i : Instr) (code : ReplyCode) : State := { s with link := s.link.answered (replyTo i code []) }

/-- The state in which a request is judged: its frame has left the receive queue (R169). -/
def State.popped (s : State) : State := { s with link := { s.link with rx := s.link.rx.tail } }

/-- A reply placed: on the line if the transmitter is idle, pending otherwise (R177). -/
def State.posted (s : State) (r : Reply) : State :=
  { s with link :=
    if s.link.sending.isSome then { s.link with pendingReply := some r }
    else { s.link with pendingReply := none, sending := some (.reply r) } }

/-- The state once a request that has left this state is answered. -/
def State.replied (s : State) (i : Instr) (code : ReplyCode) (data : List Byte) : State := s.posted (replyTo i code data)

/-- A request that reaches its owner: it is taken, its payload has the length its kind requires, and a layout is loaded (R5, R170). -/
structure Admitted (s : State) (i : Instr) (payload : List Byte) (length : Nat) : Prop where
  taken : s.takes i = true
  length : payload.length = length
  loaded : s.cfg.layout.loaded = true

/-- The link but for its notice queue and the mark of a lost notice. -/
def Link.bare (l : Link) : Link := { l with notices := [], noticesLost := false }

/-- The link of `t` is that of `s` but for notices queued on the way and a frame an idle transmitter has begun. -/
def LinkKept (s t : State) : Prop :=
  { t.link with notices := s.link.notices, noticesLost := s.link.noticesLost, sending := s.link.sending,
                pendingReply := s.link.pendingReply } = s.link

/-- A notice of the present part time. -/
def State.notice (s : State) (kind : NoticeKind) (subject : Nat) (v1 v2 v3 : Option Int) : Notice :=
  { kind, subject, time := s.partTime, v1, v2, v3 }

/-! ## What a block leaves alone -/

/-- Everything but the heats, the units, the valves, the tap queue and the link is the same: what AUTO scheduling, a re-examination, a release, a
trip or a valve can never change. -/
structure Untouched (s t : State) : Prop where
  cfg : t.cfg = s.cfg
  enabled : t.enabled = s.enabled
  linings : t.linings = s.linings
  heatCounter : t.heatCounter = s.heatCounter
  inflow : t.inflow = s.inflow
  outflow : t.outflow = s.outflow
  alloc : t.alloc = s.alloc
  channels : t.channels = s.channels
  circuits : t.circuits = s.circuits
  reservoir : t.reservoir = s.reservoir
  runs : t.runs = s.runs
  lines : t.lines = s.lines
  resetHeld : t.resetHeld = s.resetHeld
  clockMs : t.clockMs = s.clockMs
  pending : t.pending = s.pending

/-- What a station's record says of its metal: everything but phase, dip mark, flags, request and class. -/
def StationHeat.metal (h : StationHeat) : StationHeat :=
  { h with record := { h.record with phase := .off, dipMark := false, flags := 0 }, request := 0, need := .idle }

/-- The metal of every station but `st` is as it was. -/
def OthersKept (st : Station) (s t : State) : Prop := ∀ o, o ≠ st → (t.heat o).metal = (s.heat o).metal

/-- The unit record but for what an AUTO changeover that starts sets: state, decay timer, grant, origin. -/
def PowerUnit.standing (p : PowerUnit) : PowerUnit :=
  { p with state := .inhibited, decayTimer := none, grant := 0, origin := none }

/-! ## The shop (R1, R6, R15, R17, R28, R30, R64, R119, R147) -/

/-- A record agrees with its phase (R15, R17): clear outside the running phases; solid in MELT; liquid alone in HOLD, SUPERHEAT and TAPPING; a
grade and a heat number in every running phase. -/
def HeatRec.fits (r : HeatRec) : Prop :=
  match r.phase with
  | .off | .unknown | .empty => r = HeatRec.clear r.phase
  | .melt => 0 < r.solid ∧ r.grade.isSome = true ∧ 1 ≤ r.heatNo ∧ r.heatNo ≤ 65535
  | .hold | .superheat | .tapping =>
    r.solid = 0 ∧ 0 < r.liquid ∧ r.grade.isSome = true ∧ 1 ≤ r.heatNo ∧ r.heatNo ≤ 65535

/-- Whether an entry's permit is started. -/
def QueueEntry.pouring (e : QueueEntry) : Bool := e.permit.any Permit.started

/-- The tap queue agrees with the stations (R147): at most 8 entries, no ladle, station or permit id twice, a permit only beside a station; the
stations in SUPERHEAT are those assigned without a started permit, the stations in TAPPING those with one. -/
structure QueueFits (s : State) : Prop where
  depth : s.taps.entries.length ≤ 8
  ladles : (s.taps.entries.map QueueEntry.ladle).Nodup
  stations : (s.taps.entries.filterMap QueueEntry.station).Nodup
  permits : s.permitIds.Nodup
  permitRange : ∀ id ∈ s.permitIds, 1 ≤ id ∧ id ≤ 255
  counter : 1 ≤ s.taps.permitCounter ∧ s.taps.permitCounter ≤ 255
  assigned : ∀ e ∈ s.taps.entries, e.permit.isSome = true → e.station.isSome = true
  superheat : ∀ st, s.phase st = .superheat ↔ ∃ e ∈ s.taps.entries, e.station = some st ∧ e.pouring = false
  tapping : ∀ st, s.phase st = .tapping ↔ ∃ e ∈ s.taps.entries, e.station = some st ∧ e.pouring = true

/-- The mass in all four crucibles, kg. -/
def State.metalMass (s : State) : Nat := (allStations.map (fun st => (s.record st).solid + (s.record st).liquid)).sum

/-- The invariant of the shop floor. -/
structure ShopFits (s : State) : Prop where
  /-- Each record agrees with its phase (R15, R17). -/
  records : ∀ st, (s.record st).fits
  /-- A station is OFF while, and only while, it is not enabled (R6). -/
  off : ∀ st, s.phase st = .off ↔ look s.enabled st = false
  /-- Only a present station is enabled (R6, R9). -/
  present : ∀ st, look s.enabled st = true → (s.layoutOf st).present = true
  /-- Before a layout is loaded no station is present (R1). -/
  blank : s.cfg.layout.loaded = false → ∀ st, (s.layoutOf st).present = false
  /-- A station never holds more than its capacity (R1, R17). -/
  capacity : ∀ st, (s.record st).solid + (s.record st).liquid ≤ s.capacity st
  /-- T_melt lies in its range (2.3.1). -/
  meltRange : 11500 ≤ s.cfg.shop.tMelt ∧ s.cfg.shop.tMelt ≤ 13500
  /-- While there is solid, the estimate is T_melt (R28). -/
  melting : ∀ st, 0 < (s.record st).solid → (s.record st).tEst = s.cfg.shop.tMelt
  /-- The estimate of a running station lies in the model's range (R30). -/
  estimate : ∀ st, (s.phase st).running = true → 11000 ≤ (s.record st).tEst ∧ (s.record st).tEst ≤ 16500
  /-- The heat counter lies in its range (R16). -/
  counter : 1 ≤ s.heatCounter ∧ s.heatCounter ≤ 65535
  /-- A valve is OPEN only for a station that is neither EMPTY nor OFF (R119). -/
  valves : ∀ st, look s.valves st = true → (s.phase st).holdsMetal = true
  /-- The tap queue agrees with the stations (R147). -/
  queue : QueueFits s
  /-- The metal in the shop is the inflow less the outflow (R64). -/
  balance : s.inflow = s.outflow + s.metalMass

/-! ## The units (R65, R67, R68, R71, R78, R81) -/

/-- A unit's record agrees with its state. -/
structure UnitFits (s : State) (u : UnitId) : Prop where
  /-- A unit with a cause against it is INHIBITED (R71). -/
  trips : (s.unit u).state ≠ .inhibited → s.tripsEmpty u = true
  /-- The grant is non-zero only in FEEDING (R67). -/
  grant : (s.unit u).grant ≠ 0 → (s.unit u).state = .feeding
  /-- The decay timer runs in RAMP_DOWN alone (R76, R77). -/
  decay : (s.unit u).decayTimer.isSome = true ↔ ∃ t, (s.unit u).state = .rampDown t
  /-- The settle timer runs in SETTLING alone (R78, R79). -/
  settle : (s.unit u).settleTimer.isSome = true ↔ ∃ t, (s.unit u).state = .settling t
  /-- SWITCHING is a travel toward its target (R78). -/
  switching : ∀ t, (s.unit u).state = .switching t → (s.unit u).travel.map Travel.target = some t
  /-- During a travel the position is NONE, and the unit is SWITCHING toward the target or INHIBITED (R68, R81). -/
  travel : ∀ v, (s.unit u).travel = some v →
    (s.unit u).position = none ∧ ((s.unit u).state = .inhibited ∨ (s.unit u).state = .switching v.target)
  /-- In SETTLING the position is the target (R78). -/
  settling : ∀ t, (s.unit u).state = .settling t → (s.unit u).position = some t
  /-- In FEEDING and RAMP_DOWN the position is confirmed (R68). -/
  placed : ((s.unit u).state = .feeding ∨ ∃ t, (s.unit u).state = .rampDown t) → (s.unit u).position.isSome = true
  /-- Position and targets are stations paired with the unit (R68, R76). -/
  pairing : ∀ st, ((s.unit u).position = some st ∨ (s.unit u).travel.map Travel.target = some st ∨
    (s.unit u).state = .rampDown st) → st ∈ s.paired u
  /-- An unused unit keeps NO_LAYOUT (R3, R65, R84). -/
  unused : s.used u = false → (s.unit u).causes.noLayout = true
  /-- While the reset line holds the part the unit is INHIBITED and no travel is under way (R84). -/
  held : s.resetHeld = true → (s.unit u).state = .inhibited ∧ (s.unit u).travel = none

/-- The invariant of the units. -/
structure UnitsFit (s : State) : Prop where
  units : ∀ u, UnitFits s u
  /-- Before a layout is loaded no station is present (R1). -/
  blank : s.cfg.layout.loaded = false → ∀ st, (s.layoutOf st).present = false

/-! ## The link (R14, R166, R167, R169, R174 to R178) -/

/-- The invariant of the link controller. -/
structure LinkFits (s : State) : Prop where
  /-- The receive queue holds up to 4 frames (R167). -/
  rx : s.link.rx.length ≤ 4
  /-- The notice queue holds up to 32 notices (R175). -/
  notices : s.link.notices.length ≤ 32
  /-- The discarded-frame count stops at 65,535 (R167). -/
  discarded : s.link.discarded ≤ 65535
  /-- The silence timer runs exactly while the link is not silent (R178). -/
  timer : s.link.silent = s.link.silenceTimer.isNone
  /-- A frame in progress has begun with SYNC, has an accepted LEN and is not complete (R166). -/
  receiver : ∀ bytes, s.link.receiver = .inFrame bytes → isPartFrame bytes = true
  /-- Nothing waits for an idle transmitter (R177), but while the part is held or its restart is due. -/
  idle : s.resetHeld = false → s.link.restart ≠ .due → s.link.sending = none →
    s.link.pendingReply = none ∧ s.link.notices = []
  /-- No frame waits for its dispatch but behind a pending reply or a RESTART (R169, R174). -/
  waiting : s.dispatchOpen = true → s.link.rx = []
  /-- While the reset line holds the part nothing is received and nothing is transmitted (R14). -/
  held : s.resetHeld = true → s.link.rx = [] ∧ s.link.pendingReply = none ∧ s.link.sending = none ∧ s.link.notices = []
  /-- A restart that is due has had its reply sent (R174). -/
  due : s.link.restart = .due → s.link.pendingReply = none ∧ s.link.sending = none

/-! ## The settings (R1, R2, R23, R172; the ranges of 2.3, 4.1.1, 5.3 to 5.5, 6.4, 7.1.1, 8.4, 9.3) -/

/-- The layout record is one that R2 accepts. -/
structure LayoutFits (l : Layout) : Prop where
  absent : ∀ st, (look l.stations st).present = false → look l.stations st = LayoutStation.absent
  present : ∀ st, (look l.stations st).present = true →
    (look l.stations st).unit.isSome = true ∧ 500 ≤ (look l.stations st).capacity ∧ (look l.stations st).capacity ≤ 12000
  pairs : ∀ u, namedBy l.stations.toList u ≤ 2
  ratings : ∀ u, (namedBy l.stations.toList u = 0 ∧ look l.ratings u = 0) ∨
    (0 < namedBy l.stations.toList u ∧ 250 ≤ look l.ratings u ∧ look l.ratings u ≤ 8000)

/-- A PROGRAM record that R144 accepts and stores. -/
def ProgramRec.fits (r : ProgramRec) : Prop :=
  r.clamped = r ∧ indexFor r.quantity r.index = some r.index ∧ periodOf r.period = some r.period ∧
  -32768 ≤ r.high ∧ r.high ≤ 32767 ∧ -32768 ≤ r.low ∧ r.low ≤ 32767

/-- The invariant of the tables: every field lies in its range. L_inst is 0 until a layout or a write sets it (R108). -/
structure SettingsFit (s : State) : Prop where
  blank : s.cfg.layout.loaded = false → s.cfg.layout = Layout.blank
  layout : s.cfg.layout.loaded = true → LayoutFits s.cfg.layout
  shop : { s.cfg.shop with lInst := 500 }.clamped = { s.cfg.shop with lInst := 500 }
  lInst : s.cfg.shop.lInst = 0 ∧ s.cfg.layout.loaded = false ∨ 500 ≤ s.cfg.shop.lInst ∧ s.cfg.shop.lInst ≤ 16000
  stations : ∀ st, (s.stationRec st).clamped (s.capacity st) = s.stationRec st
  units : ∀ u, (s.unitRec u).clamped = s.unitRec u
  circuits : ∀ c, pulsesClamped (look s.cfg.circuits c) = look s.cfg.circuits c
  programs : ∀ p, (s.program p).fits
  grades : ∀ g, (s.gradeRec g).clamped = s.gradeRec g ∧ (s.gradeRec g).fits = true
  linings : ∀ st, (look s.linings st).melted ≤ top32 ∧ (look s.linings st).limit ≤ top32 ∧
    (look s.linings st).peak ≤ 16500 ∧ (look s.linings st).overtemp ≤ top32

/-! ## The watch engine (7.2) -/

/-- A run state has the directions and the action its state allows (7.2). -/
def RunState.fits (r : RunState) : Prop :=
  match r.state with
  | .off => r.direction = none ∧ r.latchedDir = none ∧ r.lastConfirmed = none ∧ r.applied = none ∧ r.lastResult = none ∧
      r.debounce = 0 ∧ r.stale = 0 ∧ r.periodTimer = none
  | .watch => r.direction = none ∧ r.latchedDir = none ∧ r.applied = none ∧ r.periodTimer.isSome = true
  | .count => r.direction.isSome = true ∧ r.applied.isSome = r.latchedDir.isSome ∧ r.periodTimer.isSome = true
  | .active => r.direction.isSome = true ∧ r.latchedDir = none ∧ r.periodTimer.isSome = true
  | .latched => r.direction.isSome = true ∧ r.latchedDir = r.direction ∧ r.applied.isSome = true ∧ r.periodTimer.isSome = true
  | .stale => r.direction = none ∧ r.latchedDir = none ∧ r.periodTimer.isSome = true

/-- The invariant of the watch programs: a program is OFF while, and only while, it is disabled or suspended, and its run state has the shape its
state allows (7.2). -/
def ProgramsFit (s : State) : Prop :=
  ∀ p, (s.run p).fits ∧ ((s.run p).state = .off ↔ s.live p = false)

end Sys2Proof.Machine
end

