-- ==== Sys2Proof/Certificates/Slice0/Obligations.lean ====
section
/-!
DEFINITION. The statements for the provers. A request's statement names the state the request leaves: `s.popped` is the state with the request's frame
taken from the receive queue, `x.replied c code data` is `x` with the reply placed, `s.refused c code` is `s` with the code alone sent. Where a
block's shared work follows (`recompute`, `reexamine`, `rejudge`, `autoEvaluate`, `raise`, `enterEmpty`, `beginMetal`), the statement names it with
the state it works on, and the statements on the shared work say what it does.
-/

section
open Sys2Proof Sys2Proof.Machine

/-! ## The step and the commands as a whole -/

/-- STEP. One step takes the command at the front of the queue and runs it on the part with the queue's rest. -/
def Obligations.StepRunsFrontCommand : Prop :=
  ∀ (c : Instr) (rest : List Instr) (s : State), s.pending = c :: rest → step s = exec c { s with pending := rest }

/-- THE MODEL'S CHOICE (log entry 2): with no command waiting one step is one millisecond. A part held by its reset line does not change;
otherwise the part time goes on, every timer that runs falls by one and stops at 0, and nothing else changes. -/
def Obligations.IdleStepIsOneMillisecond : Prop :=
  ∀ s : State, s.pending = [] →
    (s.resetHeld = true → step s = .next s) ∧
    (s.resetHeld = false → ∃ t, step s = .next t ∧
      t = { s with
        clockMs := s.clockMs + 1
        heats := t.heats
        units := t.units
        alloc := { s.alloc with passTimer := s.alloc.passTimer - 1 }
        channels := t.channels
        circuits := t.circuits
        runs := t.runs
        taps := { s.taps with entries := s.taps.entries.map (fun e =>
          { e with permit := e.permit.map (fun p => { p with leftMs := if p.started then p.leftMs else p.leftMs - 1 }) }) }
        link := { s.link with
          silenceTimer := s.link.silenceTimer.map (fun n => n - 1)
          silentMs := if s.link.silent then s.link.silentMs + 1 else s.link.silentMs } } ∧
      (∀ st, t.heat st = { s.heat st with stepTimer := (s.heat st).stepTimer.map (fun n => n - 1) }) ∧
      (∀ u, t.unit u = { s.unit u with
        decayTimer := (s.unit u).decayTimer.map (fun n => n - 1)
        settleTimer := (s.unit u).settleTimer.map (fun n => n - 1)
        travel := (s.unit u).travel.map (fun v => { v with timer := v.timer - 1 })
        feedingMs := if (s.unit u).state = .feeding then (s.unit u).feedingMs + 1 else (s.unit u).feedingMs
        inhibitedMs := if (s.unit u).state = .inhibited then (s.unit u).inhibitedMs + 1 else (s.unit u).inhibitedMs }) ∧
      (∀ c, look t.channels c = { look s.channels c with timer := (look s.channels c).timer.map (fun n => n - 1) }) ∧
      (∀ c, look t.circuits c = { look s.circuits c with gateTimer := (look s.circuits c).gateTimer - 1 }) ∧
      (∀ p, t.run p = { s.run p with periodTimer := (s.run p).periodTimer.map (fun n => n - 1) }))

/-- No command stops the part (log entry 5), and none touches the commands that wait behind it. -/
def Obligations.EveryCommandAnswersNext : Prop :=
  ∀ (c : Instr) (s : State), ∃ t, exec c s = .next t ∧ t.pending = s.pending

/-- What the part does not take leaves it as it was: while the reset line holds the part (R14), every event and every request; otherwise a
request behind another frame, behind a pending reply (R169) or after a RESTART (R174). Only the levels of the field's own lines follow
the field. That such a request waits, and that levels are recorded while the part is held, are the model's choices (log entries 1 and 21). -/
def Obligations.UntakenCommandChangesNothing : Prop :=
  ∀ (c : Instr) (s : State), c ≠ .powerOn → c ≠ .resetLineReleased → s.takes c = false →
    ∃ t, exec c s = .next t ∧
      t = { s with
        lines := match c with
          | .unitFaultActive u => { s.lines with unitFault := place s.lines.unitFault u true }
          | .unitFaultInactive u => { s.lines with unitFault := place s.lines.unitFault u false }
          | .pumpFaultActive => { s.lines with pumpFault := true }
          | .pumpFaultInactive => { s.lines with pumpFault := false }
          | .switchContacts u a b => { s.lines with contacts := place s.lines.contacts u { a, b } }
          | _ => s.lines
        link := match c with
          | .lineBreak _ => { s.link with lineLow := true }
          | .breakEnd => { s.link with lineLow := false }
          | _ => s.link }

/-! ## Power-on and restart (1.4) -/

/-- POWER ON. Every piece of state takes its power-on value; the levels of the field's lines are the field's (log entry 4), and commands that wait
still wait. The machine after reset is the part so powered on with no line active. The values the manual leaves to the model are named in
log entry 4. -/
def Obligations.PowerOnValues : Prop :=
  ∃ v : Lines → Bool → List Instr → State,
    (∀ lines low pending, v lines low pending =
      { cfg :=
          { layout := { loaded := false, stations := Vector.replicate 4 { present := false, unit := none, capacity := 0 },
                        ratings := Vector.replicate 2 0 }
            shop := { c10 := 82, h := 1250, tMelt := 12500, dipAgeMax := 600, driftTol := 250, transferDrop := 150, minDwell := 60,
                      contract := 0, interval := 900, baseLoad := 0, holdReserve := 0, demandSync := false, lInst := 0,
                      coolStart := 320, coolStop := 400, reservoir := 8000, permitTime := 120, expiryLimit := 3,
                      silenceTime := 10 }
            stations := Vector.replicate 4 { lRef := 150, eta := 750, heelMin := 0, coilMinFlow := 300, mask := 0 }
            units := Vector.replicate 2 { minPower := 80, rampRate := 200, travelTime := 8, mode := .auto }
            circuits := Vector.replicate 10 4500
            programs := Vector.replicate 16
              { enabled := false, quantity := .flow, index := 1, high := 32767, low := -32768, hysteresis := 0, debounce := 3,
                period := 1000, onHigh := .nothing, onLow := .nothing, onStale := .nothing, percent := 50, staleLimit := 10,
                target := .unit 0, clear := .auto }
            grades := Vector.replicate 16
              { tapTarget := 14800, tapWindow := 100, holdTarget := 14200, holdBand := 100, maximum := 15400 } }
        enabled := Vector.replicate 4 false
        linings := Vector.replicate 4 { melted := 0, limit := 0, peak := 0, overtemp := 0 }
        heats := Vector.replicate 4
          { record := { phase := .off, grade := none, heatNo := 0, chargeNo := 0, solid := 0, liquid := 0, tEst := 0, residual := 0,
                        lastDip := none, dipMark := false, liquidAge := none, flags := 0, energy := 0 }
            history := [], request := 0, need := .idle, aboveMax := false, belowFloor := false, stepTimer := none }
        heatCounter := 1
        inflow := 0
        outflow := 0
        units := overAll (fun fault =>
          { state := .inhibited, position := none, travel := none
            causes := { noLayout := true, restart := false, unitFault := fault, pump := lines.pumpFault, switch := false,
                        noDecay := false }
            decayTimer := none, settleTimer := none, feedingMs := 0, dwellDone := false, inhibitedMs := 0, grant := 0,
            measured := 0, origin := none }) lines.unitFault
        alloc := { flushMark := Vector.replicate 2 false, eUsed := 0, t := 0, syncLost := false, pDem := 0, pCool := 0,
                   passTimer := 1000 }
        channels := Vector.replicate 16 { reading := none, timer := some 2000 }
        circuits := Vector.replicate 10
          { pulses := 0, gateTimer := 2000, evaluated := false, flow := none, delta := none, heat := none, excess := none }
        valves := Vector.replicate 4 false
        reservoir := { drawn := 0, lowMark := false, exhaustedMark := false }
        runs := Vector.replicate 16
          { state := .off, direction := none, latchedDir := none, lastConfirmed := none, debounce := 0, stale := 0,
            applied := none, lastResult := none, positive := false, negative := false, periodTimer := none }
        taps := { entries := [], permitCounter := 1 }
        link := { receiver := .hunt, lineLow := low, rx := [], pendingReply := none, sending := none, notices := [],
                  discarded := 0, noticesLost := false, silenceTimer := some 10000, silent := false, silentMs := 0,
                  silenceMark := false, restart := .none }
        lines := lines
        resetHeld := false
        clockMs := 0
        pending := pending }) ∧
    (∀ s, exec .powerOn s = .next (v s.lines s.link.lineLow s.pending)) ∧
    State.reset = v { unitFault := Vector.replicate 2 false, pumpFault := false,
                      contacts := Vector.replicate 2 { a := false, b := false } } false []

/-- RESET LINE ACTIVE. The restart takes place and the part is held: layout, tables, enables, linings, heat counter, valves and reservoir account
stay; each enabled station is UNKNOWN with a clear record; each unit is INHIBITED with RESTART and the causes its lines give; tallies, queue,
link, readings, timers and the demand interval start afresh; each live program is in WATCH. A second activation changes nothing. -/
def Obligations.ResetLineRestartsAndHolds : Prop :=
  ∀ s : State,
    (s.resetHeld = true → exec .resetLineActive s = .next s) ∧
    (s.resetHeld = false → ∃ t, exec .resetLineActive s = .next t ∧
      t = { s with
        heats := t.heats
        units := t.units
        circuits := t.circuits
        runs := t.runs
        inflow := 0
        outflow := 0
        alloc := { flushMark := Vector.replicate 2 false, eUsed := 0, t := 0, syncLost := s.cfg.shop.demandSync, pDem := 0,
                   pCool := 0, passTimer := 1000 }
        channels := Vector.replicate 16 { reading := none, timer := some 2000 }
        taps := { entries := [], permitCounter := 1 }
        link := { receiver := .hunt, lineLow := s.link.lineLow, rx := [], pendingReply := none, sending := none, notices := [],
                  discarded := 0, noticesLost := false, silenceTimer := some (s.cfg.shop.silenceTime * 1000), silent := false,
                  silentMs := 0, silenceMark := false, restart := .none }
        clockMs := 0
        resetHeld := true } ∧
      (∀ st, t.heat st =
        { record := { phase := if look s.enabled st then .unknown else .off, grade := none, heatNo := 0, chargeNo := 0, solid := 0,
                      liquid := 0, tEst := 0, residual := 0, lastDip := none, dipMark := false, liquidAge := none, flags := 0,
                      energy := 0 }
          history := [], request := 0, need := .idle, aboveMax := false, belowFloor := false, stepTimer := none }) ∧
      (∀ u, t.unit u =
        { state := .inhibited, position := if s.used u then s.shown u else none, travel := none
          causes := { noLayout := !s.used u, restart := true, unitFault := look s.lines.unitFault u, pump := s.lines.pumpFault,
                      switch := s.used u && (s.shown u).isNone, noDecay := false }
          decayTimer := none, settleTimer := none, feedingMs := 0, dwellDone := false, inhibitedMs := 0, grant := 0, measured := 0,
          origin := none }) ∧
      (∀ c, look t.circuits c =
        { pulses := 0, gateTimer := 2000, evaluated := (look s.circuits c).evaluated, flow := none, delta := none, heat := none,
          excess := none }) ∧
      (∀ p, t.run p =
        { state := if t.live p then .watch else .off, direction := none, latchedDir := none, lastConfirmed := none, debounce := 0,
          stale := 0, applied := none, lastResult := none, positive := false, negative := false,
          periodTimer := if t.live p then some (s.program p).period else none }))

/-- RESET LINE RELEASED and RESTART TAKES EFFECT. A held part resumes with part time 0: each unit reads its lines again, so an active line enters
its cause, and a used unit's contacts give its position, with SWITCH where they disagree or have moved; each station in UNKNOWN whose valve is
CLOSED is given emergency water if the pump-fault line is active, in station order, each with its notice (OPENED, cause PUMP). A restart that
RESTART asked for, once due, is the line made active and released at once. Otherwise neither command does anything. That lines recorded during the
hold are read again is log entry 21. -/
def Obligations.PartResumesAfterRestart : Prop :=
  ∀ s : State,
    (s.resetHeld = true → ∃ t, exec .resetLineReleased s = .next t ∧
      t = { s with units := t.units, valves := t.valves, link := t.link, resetHeld := false, clockMs := 0 } ∧
      LinkKept s t ∧
      (let resumed : State := { s with units := t.units, resetHeld := false, clockMs := 0 }
       t = nextFrame (if s.lines.pumpFault
         then allStations.foldl (fun x st => if (x.phase st).holdsMetal then openValve 17 x st else x) resumed else resumed)) ∧
      (∀ u, t.unit u = { s.unit u with
        position := if s.used u then s.shown u else (s.unit u).position
        causes := { (s.unit u).causes with
          unitFault := (s.unit u).causes.unitFault || look s.lines.unitFault u
          pump := (s.unit u).causes.pump || s.lines.pumpFault
          switch := (s.unit u).causes.switch || (s.used u && ((s.shown u).isNone || s.shown u != (s.unit u).position)) } }) ∧
      (∀ st, look t.valves st = (look s.valves st || (s.lines.pumpFault && (s.phase st).holdsMetal)))) ∧
    (s.resetHeld = false → exec .resetLineReleased s = .next s) ∧
    (s.resetHeld = false → s.link.restart = .due → ∃ h t, exec .resetLineActive s = .next h ∧ exec .resetLineReleased h = .next t ∧
      exec .restartTakesEffect s = .next t) ∧
    (s.resetHeld = true ∨ s.link.restart ≠ .due → exec .restartTakesEffect s = .next s)

/-! ## Invariants that every step keeps -/

/-- The machine after reset meets every invariant below. -/
def Obligations.ResetMeetsEveryInvariant : Prop :=
  ShopFits State.reset ∧ UnitsFit State.reset ∧ LinkFits State.reset ∧ SettingsFit State.reset ∧ ProgramsFit State.reset

/-- THE SHOP FLOOR. From any state in which records, phases, enables, capacities, valves, tap queue and tallies agree as the manual says, a step
leads to such a state: no command overfills a crucible, loses metal, or leaves a station assigned to nobody. -/
def Obligations.StepKeepsShop : Prop :=
  ∀ s t : State, ShopFits s → step s = .next t → ShopFits t

/-- THE UNITS. A unit with a cause against it is INHIBITED after every step, its grant is 0 outside FEEDING, and its timers, travel and position
agree with its state. -/
def Obligations.StepKeepsUnits : Prop :=
  ∀ s t : State, UnitsFit s → step s = .next t → UnitsFit t

/-- THE LINK. Queues within their depths, a silence timer exactly while the link is not silent, a frame in progress that is one, nothing waiting
beside an idle transmitter, nothing at all while the part is held. -/
def Obligations.StepKeepsLink : Prop :=
  ∀ s t : State, LinkFits s → step s = .next t → LinkFits t

/-- THE TABLES. Every field of the layout and of every table stays within the range the manual gives it. The clause that L_inst is 0 until a layout or
a write sets it is the model's reading of R108. -/
def Obligations.StepKeepsSettings : Prop :=
  ∀ s t : State, SettingsFit s → step s = .next t → SettingsFit t

/-- THE WATCH PROGRAMS. In a shop that runs as described, a program is OFF exactly while it is disabled or suspended, and its run state has the shape
its state allows. -/
def Obligations.StepKeepsPrograms : Prop :=
  ∀ s t : State, ShopFits s → ProgramsFit s → step s = .next t → ProgramsFit t

/-! ## What only its own command changes -/

/-- Once loaded, the layout record changes at a power-on alone; a lining record changes at a model step, a TABLE WRITE, a RELINE and a power-on
alone, apart from the link events in whose course such a request may be dispatched (R169). -/
def Obligations.LayoutAndLiningsChangeOnlyByTheirCommands : Prop :=
  ∀ (c : Instr) (s t : State), exec c s = .next t → c ≠ .powerOn →
    (s.cfg.layout.loaded = true → t.cfg.layout = s.cfg.layout) ∧
    (s.mayDispatch c = false → (∀ st, c ≠ .modelStep st) → (∀ tag p, c ≠ .tableWrite tag p) → (∀ tag p, c ≠ .reline tag p) →
      t.linings = s.linings)

/-- THE NOTICE QUEUE. It holds up to 32 notices, oldest first. A notice that arrives at a full queue puts out the oldest class-B notice; with
class A alone in the queue, a class-A notice puts out the oldest and a class-B one is lost. Each of the three marks that notices were lost; the
mark stays until SHOP STATUS, as a command or dispatched in a link event, or a reset. A notice carries the part time of its event. -/
def Obligations.NoticeQueueKeepsClassA : Prop :=
  (∀ (s : State) (kind : NoticeKind) (subject : Nat) (v1 v2 v3 : Option Int),
    let n : Notice := { kind, subject, time := s.clockMs / 1000, v1, v2, v3 }
    let q := s.link.notices
    let placed := fun (ns : List Notice) (lost : Bool) =>
      ({ s with link := { s.link with notices := ns, noticesLost := s.link.noticesLost || lost } } : State)
    (q.length < 32 → s.notify kind subject v1 v2 v3 = placed (q ++ [n]) false) ∧
    (∀ older m newer, 32 ≤ q.length → q = older ++ m :: newer → (∀ x ∈ older, x.kind.classA = true) → m.kind.classA = false →
      s.notify kind subject v1 v2 v3 = placed (older ++ newer ++ [n]) true) ∧
    (32 ≤ q.length → (∀ x ∈ q, x.kind.classA = true) → kind.classA = true →
      s.notify kind subject v1 v2 v3 = placed (q.tail ++ [n]) true) ∧
    (32 ≤ q.length → (∀ x ∈ q, x.kind.classA = true) → kind.classA = false → s.notify kind subject v1 v2 v3 = placed q true)) ∧
  (∀ k : NoticeKind, k.classA = true ↔ k ∈ [NoticeKind.trip, .tripClear, .emergencyWater, .reservoir]) ∧
  (∀ (c : Instr) (s t : State), exec c s = .next t → s.link.noticesLost = true → s.mayDispatch c = false →
    (∀ tag p, c ≠ .shopStatus tag p) → c ≠ .powerOn → c ≠ .resetLineActive → c ≠ .restartTakesEffect → t.link.noticesLost = true)

/-- WHILE THE LINK IS SILENT no ladle is given a station and no permit is issued, whatever happens. A command that ends the silence, or the
power-on and the restarts, which end it too, are the exceptions. -/
def Obligations.SilentLinkAssignsNothing : Prop :=
  ∀ (c : Instr) (s t : State), exec c s = .next t → s.link.silent = true → t.link.silent = true →
    (∀ e ∈ t.taps.entries, ∀ st, e.station = some st → ∃ d ∈ s.taps.entries, d.ladle = e.ladle ∧ d.station = some st) ∧
    (∀ e ∈ t.taps.entries, ∀ q, e.permit = some q →
      ∃ d ∈ s.taps.entries, d.ladle = e.ladle ∧ d.permit.map Permit.id = some q.id)

/-! ## What the link's bytes say -/

/-- FRAMES. The CRC of R166 is spelled out: register 0, LEN and body with the least significant bit first, 0xA001, ones complement, low byte
first. A frame is SYNC, LEN, KIND, TAG, PAYLOAD, CRC; with a PAYLOAD of up to 249 bytes it is a whole frame, and a receiver reads from it the
KIND, TAG and PAYLOAD it was made of. A reply's frame has the request's KIND plus 0x80, its TAG, and the reply code before the data; a notice's
frame has its kind, TAG 0, and the 20-byte notice record: kind, class, subject, absent values, part time, three values. Numbers are little-endian.
The codes of 9.2.1, of replies and of notice kinds, the sets of causes and programs, and the KINDs and lengths of requests are those of their
tables. A frame whose bytes end in another CRC is the business of FrameReceivedQueuesOrDiscards. -/
def Obligations.FramesReadBack : Prop :=
  -- the CRC of R166 and the frame
  (∀ bytes : List Byte,
    let bit := fun (r : BitVec 16) (b : Bool) => if (r.getLsbD 0 ^^ b) = true then (r >>> 1) ^^^ 0xA001#16 else r >>> 1
    let bits := fun b : Byte => [b.getLsbD 0, b.getLsbD 1, b.getLsbD 2, b.getLsbD 3, b.getLsbD 4, b.getLsbD 5, b.getLsbD 6, b.getLsbD 7]
    crc bytes = ~~~((bytes.flatMap bits).foldl bit 0#16)) ∧
  (∀ v : BitVec 16, crcBytes v = [v.setWidth 8, (v >>> 8).setWidth 8]) ∧
  (∀ (kind tag : Byte) (payload : List Byte),
    let len := BitVec.ofNat 8 (payload.length + 1)
    frameBytes kind tag payload = 0x5A :: len :: kind :: tag :: (payload ++ crcBytes (crc (len :: kind :: tag :: payload)))) ∧
  (∀ (kind tag : Byte) (payload : List Byte), payload.length ≤ 249 →
    isWholeFrame (frameBytes kind tag payload) = true ∧ frameOf (frameBytes kind tag payload) = some { kind, tag, payload }) ∧
  (∀ r : Reply, r.data.length ≤ 248 →
    isWholeFrame r.bytes = true ∧
    frameOf r.bytes = some { kind := BitVec.ofNat 8 (r.kind.toNat + 128), tag := r.tag, payload := BitVec.ofNat 8 r.code.code :: r.data }) ∧
  (∀ n : Notice,
    let absent := (if n.v1 = none then 1 else 0) + (if n.v2 = none then 2 else 0) + (if n.v3 = none then 4 else 0)
    let value := fun v : Option Int => le 4 ((v.getD 0) % 4294967296).toNat
    isWholeFrame n.bytes = true ∧ n.record.length = 20 ∧
    frameOf n.bytes = some { kind := BitVec.ofNat 8 n.kind.code, tag := 0, payload := n.record } ∧
    n.record = [BitVec.ofNat 8 n.kind.code, if n.kind.classA then 0 else 1, BitVec.ofNat 8 n.subject, BitVec.ofNat 8 absent] ++
      le 4 n.time ++ value n.v1 ++ value n.v2 ++ value n.v3) ∧
  -- numbers, low byte first
  (∀ n : Nat, le 2 n = [BitVec.ofNat 8 n, BitVec.ofNat 8 (n / 256)] ∧
    le 4 n = le 2 n ++ le 2 (n / 65536) ∧ le 8 n = le 4 n ++ le 4 (n / 4294967296)) ∧
  (∀ v : Int, leSigned 2 v = le 2 (v % 65536).toNat ∧ leSigned 8 v = le 8 (v % 18446744073709551616).toNat) ∧
  (∀ (p : List Byte) (i : Nat),
    let signed := fun (top n : Nat) => if 2 * n < top then (n : Int) else (n : Int) - top
    u8At p i = (p.getD i 0).toNat ∧ u16At p i = u8At p i + 256 * u8At p (i + 1) ∧ u32At p i = u16At p i + 65536 * u16At p (i + 2) ∧
    s16At p i = signed 65536 (u16At p i) ∧ s64At p i = signed 18446744073709551616 (u32At p i + 4294967296 * u32At p (i + 4))) ∧
  -- codes, from 0 in the order of the tables
  [Phase.off, .unknown, .empty, .melt, .hold, .superheat, .tapping].map Phase.code = List.range 7 ∧
  (∀ st, [UnitState.inhibited, .feeding, .rampDown st, .switching st, .settling st].map UnitState.code = List.range 5) ∧
  [UnitMode.auto, .manual].map UnitMode.code = List.range 2 ∧
  [HeatFlag.overtemp, .undertemp, .clamped, .underrun, .drift, .water, .mixed, .overfill].map HeatFlag.bit = List.range 8 ∧
  [ProgState.off, .watch, .count, .active, .latched, .stale].map ProgState.code = List.range 6 ∧
  [Dir.high, .low].map Dir.code = List.range 2 ∧
  [Action.nothing, .note, .foldback, .trip, .emergency].map Action.code = List.range 5 ∧
  [Source.high, .low, .stale].map Source.code = List.range 3 ∧
  [Finding.high, .low, .neither, .invalid].map Finding.code = List.range 4 ∧
  [ClearMode.auto, .latch].map ClearMode.code = List.range 2 ∧
  [Quantity.flow, .returned, .delta, .heat, .excess, .supply, .bath].map Quantity.code = List.range 7 ∧
  [Target.unit 0, .unit 1, .station 0, .station 1, .station 2, .station 3].map Target.code = List.range 6 ∧
  [DipOrigin.lance, .tap, .declare].map DipOrigin.code = List.range 3 ∧
  [ChangeoverEnd.complete, .noDecay, .switchFault, .abandoned].map ChangeoverEnd.code = List.range 4 ∧
  [some 0, some 1, some 2, some 3].map stationOrNone = ([0, 1, 2, 3] : List Station).map stationCode ∧ stationOrNone none = 0 ∧
  ([0, 1, 2, 3] : List Station).map stationCode = [1, 2, 3, 4] ∧ ([0, 1] : List UnitId).map unitCode = [1, 2] ∧
  (∀ c : Causes, c.bits = (if c.noLayout then 1 else 0) + (if c.restart then 2 else 0) + (if c.unitFault then 4 else 0) +
    (if c.pump then 8 else 0) + (if c.switch then 16 else 0) + (if c.noDecay then 32 else 0)) ∧
  (∀ f : Program → Bool, programBits (allPrograms.filter f) = (allPrograms.map (fun w => if f w then 2 ^ w.val else 0)).sum) ∧
  -- the KIND and the payload length of each request, in the order of 9.2.1
  RequestKind.all.map RequestKind.code = [0x01, 0x02, 0x03, 0x04, 0x05, 0x08, 0x09, 0x0A, 0x10, 0x11, 0x12, 0x13, 0x14, 0x15, 0x16, 0x17,
    0x18, 0x20, 0x21, 0x22, 0x23, 0x28, 0x29, 0x30, 0x31, 0x32, 0x33, 0x34, 0x35] ∧
  (RequestKind.all.filter (fun k => decide (k ≠ .tableWrite))).map RequestKind.length =
    [0, 20, 3, 0, 1, 1, 1, 5, 3, 4, 1, 49, 8, 1, 2, 1, 2, 2, 1, 0, 0, 2, 6, 1, 1, 5, 3, 0] ∧
  [ReplyCode.ok, .clamped, .unknownKind, .badLength, .badValue, .noLayout, .layoutLocked, .stationOff, .wrongPhase, .busy, .sequence, .full,
    .duplicate, .notFound, .metalPresent, .stillActive, .imageInvalid, .liningSpent, .barred, .wrongMode, .gradeMismatch, .assigned,
    .inhibited, .notReady].map ReplyCode.code = List.range 24 ∧
  [NoticeKind.trip, .tripClear, .emergencyWater, .reservoir, .meltDone, .heatFlag, .dipWanted, .stationAssigned, .tapGrant, .permitExpired,
    .ladleDropped, .changeover, .watch, .demand, .lining, .link].map NoticeKind.code = (List.range 16).map (fun n => 0x40 + n)

/-- RECORDS. The eight tables have the ids, counts and record sizes of 9.3, and each record its fields in the order and the widths of its table.
Every record that the tables can hold, and the heat image of every heat, reads back from the bytes that TABLE READ and HEAT READ give for it: the
layout as a LAYOUT, the others as a TABLE WRITE, the image as a HEAT LOAD that is not refused. A heat loaded is in MELT or HOLD by its mass, its
bath at T_melt while it has solid, and has no dip mark. -/
def Obligations.RecordsReadBack : Prop :=
  -- the tables of 9.3: id, number of records, bytes of each
  [0, 1, 2, 3, 4, 5, 6, 7].map tableOf = [some Table.layout, some .shop, some .station, some .unit, some .circuit, some .program, some .grade,
    some .lining] ∧
  [Table.layout, .shop, .station, .unit, .circuit, .program, .grade, .lining].map (fun t => (t.count, t.size)) =
    [(1, 20), (1, 34), (4, 9), (2, 5), (10, 4), (16, 19), (16, 10), (4, 14)] ∧
  -- the records in the field order and the widths of 9.3, each table's records in the order of their numbers
  (∀ s : State,
    let yes := fun b : Bool => if b then (1 : Byte) else 0
    let b1 := fun n : Nat => BitVec.ofNat 8 n
    let entry := fun st : Station => let e := s.layoutOf st
      [yes e.present, match e.unit with | some u => b1 (u.val + 1) | none => 0] ++ le 2 e.capacity
    let m := s.cfg.shop
    s.tableBytes .layout = [entry 0 ++ entry 1 ++ entry 2 ++ entry 3 ++ le 2 (look s.cfg.layout.ratings 0) ++
      le 2 (look s.cfg.layout.ratings 1)] ∧
    s.tableBytes .shop = [[b1 m.c10] ++ le 2 m.h ++ le 2 m.tMelt ++ le 2 m.dipAgeMax ++ le 2 m.driftTol ++ le 2 m.transferDrop ++
      le 2 m.minDwell ++ le 2 m.contract ++ le 2 m.interval ++ le 2 m.baseLoad ++ le 2 m.holdReserve ++ [yes m.demandSync] ++
      le 2 m.lInst ++ le 2 m.coolStart ++ le 2 m.coolStop ++ le 2 m.reservoir ++ le 2 m.permitTime ++ [b1 m.expiryLimit, b1 m.silenceTime]] ∧
    s.tableBytes .station = allStations.map (fun st => let r := s.stationRec st
      le 2 r.lRef ++ le 2 r.eta ++ le 2 r.heelMin ++ le 2 r.coilMinFlow ++ [r.mask]) ∧
    s.tableBytes .unit = allUnits.map (fun u => let r := s.unitRec u
      [b1 r.minPower] ++ le 2 r.rampRate ++ [b1 r.travelTime, b1 r.mode.code]) ∧
    s.tableBytes .circuit = (List.finRange 10).map (fun k => le 4 (look s.cfg.circuits k)) ∧
    s.tableBytes .program = allPrograms.map (fun w => let r := s.program w
      [yes r.enabled, b1 r.quantity.code, b1 r.index] ++ leSigned 2 r.high ++ leSigned 2 r.low ++ le 2 r.hysteresis ++ [b1 r.debounce] ++
      le 2 r.period ++ [b1 r.onHigh.code, b1 r.onLow.code, b1 r.onStale.code, b1 r.percent, b1 r.staleLimit, b1 r.target.code,
        b1 r.clear.code]) ∧
    s.tableBytes .grade = (List.finRange 16).map (fun g => let r := s.gradeRec g
      le 2 r.tapTarget ++ le 2 r.tapWindow ++ le 2 r.holdTarget ++ le 2 r.holdBand ++ le 2 r.maximum) ∧
    s.tableBytes .lining = allStations.map (fun st => let r := look s.linings st
      le 4 r.melted ++ le 4 r.limit ++ le 2 r.peak ++ le 4 r.overtemp) ∧
    s.tableBytes .layout = [s.cfg.layout.bytes] ∧ s.tableBytes .shop = [m.bytes] ∧
    s.tableBytes .station = allStations.map (fun st => (s.stationRec st).bytes) ∧
    s.tableBytes .unit = allUnits.map (fun u => (s.unitRec u).bytes) ∧
    s.tableBytes .program = allPrograms.map (fun w => (s.program w).bytes) ∧
    s.tableBytes .grade = (List.finRange 16).map (fun g => (s.gradeRec g).bytes) ∧
    s.tableBytes .lining = allStations.map (fun st => (look s.linings st).bytes)) ∧
  (∀ s : State, SettingsFit s →
    (s.cfg.layout.loaded = true → ∃ es, layoutEntries s.cfg.layout.bytes = some es ∧ layoutRefused s.cfg.layout.bytes es = false ∧
      layoutRecord s.cfg.layout.bytes es = s.cfg.layout) ∧
    shopOf s.cfg.shop.bytes = some s.cfg.shop ∧
    (∀ st, stationRecOf (s.stationRec st).bytes = some (s.stationRec st)) ∧
    (∀ u, unitRecOf (s.unitRec u).bytes = some (s.unitRec u)) ∧
    (∀ c, circuitRecOf (le 4 (look s.cfg.circuits c)) = some (look s.cfg.circuits c)) ∧
    (∀ p, programRecOf (s.program p).bytes = some (s.program p)) ∧
    (∀ g, gradeRecOf (s.gradeRec g).bytes = some (s.gradeRec g)) ∧
    (∀ st, liningRecOf (look s.linings st).bytes = some (look s.linings st))) ∧
  (∀ (st : Station) (r : HeatRec) (dipAge : BitVec 32) (capacity tMelt : Nat),
    r.phase.running = true → r.grade.isSome = true → 1 ≤ r.heatNo → r.heatNo ≤ 65535 → r.chargeNo ≤ 255 →
    0 < r.solid + r.liquid → r.solid + r.liquid ≤ capacity → capacity ≤ 12000 → 11000 ≤ r.tEst → r.tEst ≤ 16500 →
    r.residual.natAbs ≤ 10000000000 → r.energy ≤ 4294967295 →
    (∀ d, r.lastDip = some d → 10000 ≤ d.temp ∧ d.temp ≤ 17500 ∧ d.age ≤ 4294967295) →
    (∀ a, r.liquidAge = some a → a ≤ 4294967294) →
    (heatImage st r dipAge).length = 48 ∧ imageInvalid (stationCode st) capacity (heatImage st r dipAge) = false ∧
    loadedRecord tMelt (heatImage st r dipAge) =
      { r with phase := if 0 < r.solid then .melt else .hold, tEst := if 0 < r.solid then tMelt else r.tEst, dipMark := false })

/-! ## The link (chapter 9) -/

/-- FRAME RECEIVED. A frame with a matching CRC restarts the silence timer. It is discarded and counted if four frames wait, joins the receive queue
behind a pending reply or a RESTART, and is dispatched at once, as its request row is, where it is the only one and no reply is pending (the operand
form is log entry 23). The first one during silence ends it: a LINK notice with the length of the silence in seconds, the requests of the MELT
stations recomputed, the tap queue re-examined, before the frame is queued. A frame whose CRC does not match is discarded and counted, and does
nothing else. -/
def Obligations.FrameReceivedQueuesOrDiscards : Prop :=
  ∀ s : State, s.resetHeld = false → s.link.lineLow = false → s.link.receiver = .hunt →
    (∀ (kind tag : Byte) (payload : List Byte), payload.length ≤ 249 →
      let c := Instr.frameReceived (frameBytes kind tag payload)
      let f : Frame := { kind, tag, payload }
      let heard : State := { s with link := { s.link with silent := false, silenceTimer := some (s.cfg.shop.silenceTime * 1000) } }
      let ended := if s.link.silent then
          reexamine (allStations.foldl (fun x st => if x.phase st = .melt then recompute st x else x)
            (heard.notify .link 0 (some (s.link.silentMs / 1000 : Nat)) none none))
        else heard
      (4 ≤ s.link.rx.length → exec c s =
        .next (nextFrame { ended with link := { ended.link with discarded := min 65535 (s.link.discarded + 1) } })) ∧
      (s.link.rx.length < 4 → s.dispatchOpen = false → exec c s =
        .next (nextFrame { ended with link := { ended.link with rx := s.link.rx ++ [f] } })) ∧
      (s.link.rx = [] → s.dispatchOpen = true → exec c s = exec f.row ended ∧ ended.takes f.row = true)) ∧
    (∀ (len kind tag : Byte) (payload check : List Byte), 1 ≤ len.toNat → len.toNat ≤ 250 → payload.length + 1 = len.toNat →
      check.length = 2 → check ≠ crcBytes (crc (len :: kind :: tag :: payload)) →
      exec (.frameReceived (0x5A :: len :: kind :: tag :: (payload ++ check))) s =
        .next (nextFrame { s with link := { s.link with discarded := min 65535 (s.link.discarded + 1) } }))

/-- ABANDONED FRAMES. A frame cut off by a quiet gap of the line, by a LEN of 0 or above 250, or by a break is abandoned and counted, and the
receiver hunts for SYNC again. A break outside a frame counts nothing; the line is low until its end, and no byte is taken from a low line. The
operand form is log entry 23. -/
def Obligations.AbandonedFramesAreCounted : Prop :=
  ∀ s : State, s.resetHeld = false →
    let counted := fun l : Link => { l with discarded := min 65535 (l.discarded + 1) }
    (s.link.lineLow = false → s.link.receiver = .hunt →
      (∀ bytes, isPartFrame bytes = true → exec (.interByteGap bytes) s = .next (nextFrame { s with link := counted s.link })) ∧
      (∀ len : Byte, len.toNat = 0 ∨ 250 < len.toNat →
        exec (.frameLenAbandoned len) s = .next (nextFrame { s with link := counted s.link })) ∧
      (∀ bytes, isPartFrame bytes = true →
        exec (.lineBreak bytes) s = .next (nextFrame { s with link := { counted s.link with lineLow := true } })) ∧
      exec (.lineBreak []) s = .next (nextFrame { s with link := { s.link with lineLow := true } })) ∧
    (∀ taken, s.link.receiver = .inFrame taken →
      exec (.interByteGap []) s = .next (nextFrame { s with link := { counted s.link with receiver := .hunt } }) ∧
      exec (.lineBreak []) s = .next (nextFrame { s with link := { counted s.link with receiver := .hunt, lineLow := true } })) ∧
    (s.link.lineLow = true → ∀ bytes, exec (.frameReceived bytes) s = .next (nextFrame s)) ∧
    exec .breakEnd s = .next (nextFrame { s with link := { s.link with lineLow := false, receiver := .hunt } })

/-- SILENCE TIMER EXPIRY. The link becomes silent: the mark is set, the timer stops, and every MELT station's request is recomputed, so that it
becomes its balance power, within the rating. A link that is silent already stays as it is, and a timer that a frame has restarted since makes
no expiry (log entry 3). -/
def Obligations.SilenceBeginsAtExpiry : Prop :=
  ∀ s : State, s.resetHeld = false →
    (s.link.silent = true ∨ s.link.silenceTimer ≠ some 0 → exec .silenceTimerExpiry s = .next (nextFrame s)) ∧
    (s.link.silent = false → s.link.silenceTimer = some 0 → ∃ t,
      let silenced : State := { s with link := { s.link with silent := true, silentMs := 0, silenceMark := true, silenceTimer := none } }
      t = allStations.foldl (fun x st => if x.phase st = .melt then recompute st x else x) silenced ∧
      exec .silenceTimerExpiry s = .next (nextFrame t) ∧
      (∀ st, s.phase st = .melt → (t.heat st).request = min (s.stationRating st) (balancePower (s.stationRec st) (s.record st))) ∧
      (∀ st, s.phase st ≠ .melt → t.heat st = s.heat st) ∧ (∀ st, t.record st = s.record st))

/-- THE TRANSMITTER. Idle, it sends the pending reply, otherwise the oldest notice, otherwise nothing; busy, it takes nothing; nor does it while the
part is held or once the reply to RESTART has been sent. At the end of a frame it is idle and chooses again; the end of the reply to RESTART
makes the restart due. Then the frames that wait are dispatched, head first and each as its request row is, until one has to wait for a
pending reply. -/
def Obligations.TransmitterSendsRepliesFirst : Prop :=
  (∀ s : State,
    (s.resetHeld = true ∨ s.link.restart = .due ∨ s.link.sending ≠ none → nextFrame s = s) ∧
    (s.resetHeld = false → s.link.restart ≠ .due → s.link.sending = none →
      (∀ r, s.link.pendingReply = some r →
        nextFrame s = { s with link := { s.link with sending := some (.reply r), pendingReply := none } }) ∧
      (∀ n rest, s.link.pendingReply = none → s.link.notices = n :: rest →
        nextFrame s = { s with link := { s.link with sending := some (.notice n), notices := rest } }) ∧
      (s.link.pendingReply = none → s.link.notices = [] → nextFrame s = s))) ∧
  (∀ s : State, s.resetHeld = false →
    (s.link.sending = none → exec .transmitFrameEnd s = .next (dispatchWaiting (nextFrame s))) ∧
    (∀ r, s.link.sending = some (.reply r) → exec .transmitFrameEnd s = .next (dispatchWaiting (nextFrame { s with link := { s.link with
      sending := none
      restart := if s.link.restart = .replying ∧ s.link.pendingReply = none then .due else s.link.restart } }))) ∧
    (∀ n, s.link.sending = some (.notice n) →
      exec .transmitFrameEnd s = .next (dispatchWaiting (nextFrame { s with link := { s.link with sending := none } })))) ∧
  (∀ s : State,
    (s.link.rx = [] ∨ s.dispatchOpen = false → dispatchWaiting s = s) ∧
    (∀ f rest, s.link.rx = f :: rest → s.dispatchOpen = true →
      ∃ y, exec f.row s = .next y ∧ y.link.rx = rest ∧ dispatchWaiting s = dispatchWaiting y))

/-- UNKNOWN KIND and BAD LENGTH. A frame whose KIND is no request kind is answered UNKNOWN_KIND (code 2); a request whose payload has not the length
its kind requires is answered BAD_LENGTH (code 3); neither has any other effect. A KIND that is a request kind makes no frame of unknown kind
(log entry 1). -/
def Obligations.UnfitFramesAreRefused : Prop :=
  (∀ (s : State) (kind tag : Byte) (payload : List Byte), s.takes (.unknownKind kind tag payload) = true →
    ((∀ k : RequestKind, k.code ≠ kind) →
      exec (.unknownKind kind tag payload) s = .next (s.refused (.unknownKind kind tag payload) .unknownKind)) ∧
    ((∃ k : RequestKind, k.code = kind) → exec (.unknownKind kind tag payload) s = .next s)) ∧
  (∀ (s : State) (k : RequestKind) (tag : Byte) (payload : List Byte), s.takes (commandOf k tag payload) = true →
    (if k = .tableWrite then payload.length < 3 else payload.length ≠ k.length) →
    exec (commandOf k tag payload) s = .next (s.refused (commandOf k tag payload) .badLength)) ∧
  ReplyCode.unknownKind.code = 2 ∧ ReplyCode.badLength.code = 3

/-- THE CHECKS OF R5 AND R7. Without a layout every request but SHOP STATUS, LAYOUT, TABLE READ, TABLE WRITE and RESTART is answered NO_LAYOUT; with
one, a station or unit number out of range is answered BAD_VALUE, and a request about an OFF station STATION_OFF. None of the three has any
other effect. -/
def Obligations.SubjectIsCheckedFirst : Prop :=
  ∀ (s : State) (k : RequestKind) (tag : Byte) (p : List Byte),
    let c := commandOf k tag p
    s.takes c = true → p.length = k.length →
    (s.cfg.layout.loaded = false → k ∉ [.shopStatus, .layout, .tableRead, .tableWrite, .restart] →
      exec c s = .next (s.refused c .noLayout)) ∧
    (s.cfg.layout.loaded = true →
      (k ∈ [.stationEnable, .stationDisable, .reline, .charge, .dip, .transfer, .heatRead, .heatLoad, .heatDeclare, .heatEmpty,
            .flagsClear, .dipHistory, .ewClose] →
        u8At p 0 < 1 ∨ 4 < u8At p 0 → exec c s = .next (s.refused c .badValue)) ∧
      (k ∈ [.transfer, .changeover] → u8At p 1 < 1 ∨ 4 < u8At p 1 → exec c s = .next (s.refused c .badValue)) ∧
      (k ∈ [.unitMode, .changeover, .tripReset] → u8At p 0 < 1 ∨ 2 < u8At p 0 → exec c s = .next (s.refused c .badValue)) ∧
      (∀ st, s.phase st = .off →
        (k ∈ [.stationDisable, .charge, .dip, .heatRead, .heatLoad, .heatDeclare, .heatEmpty, .flagsClear, .dipHistory, .ewClose] →
          u8At p 0 = stationCode st → exec c s = .next (s.refused c .stationOff)) ∧
        (k = .transfer → (u8At p 0 = stationCode st ∧ 1 ≤ u8At p 1 ∧ u8At p 1 ≤ 4) ∨
            (u8At p 1 = stationCode st ∧ 1 ≤ u8At p 0 ∧ u8At p 0 ≤ 4) →
          exec c s = .next (s.refused c .stationOff))))

/-! ## The shop requests (1.1 to 1.3, 9.3, 9.4) -/

/-- SHOP STATUS and RESTART. SHOP STATUS, with or without a layout, answers the 41-byte status record and then clears the silence mark and the
notices-lost mark. RESTART is answered OK and its restart asked for; nothing else changes until it takes effect. -/
def Obligations.StatusAndRestartAreAnswered : Prop :=
  ∀ (s : State) (tag : Byte),
    (s.takes (.shopStatus tag []) = true → exec (.shopStatus tag []) s =
      .next (State.replied
        { s.popped with link := { s.popped.link with noticesLost := false, silenceMark := false } }
        (.shopStatus tag []) .ok
        ([1, byteOf (yesNo s.cfg.layout.loaded),
          byteOf (s.unit 0).state.code, byteOf (stationOrNone (s.unit 0).position),
          byteOf (s.unit 1).state.code, byteOf (stationOrNone (s.unit 1).position),
          byteOf (s.phase 0).code, byteOf (s.phase 1).code, byteOf (s.phase 2).code, byteOf (s.phase 3).code] ++
         le 2 s.cfg.shop.lInst ++ le 2 s.alloc.pDem ++ le 2 s.alloc.pCool ++
         [byteOf (yesNo s.alloc.syncLost), byteOf (yesNo s.link.silenceMark)] ++ le 2 s.link.discarded ++
         [byteOf (yesNo s.link.noticesLost)] ++ le 8 s.inflow ++ le 8 s.outflow ++ le 4 (s.clockMs / 1000)))) ∧
    (s.takes (.restart tag []) = true → exec (.restart tag []) s =
      .next (State.replied { s.popped with link := { s.popped.link with restart := .replying } } (.restart tag []) .ok []))

/-- THE READERS. TABLE READ answers its three bytes and the records it names as they stand; a table, index or count that names no such records, or
more than 245 bytes of them, is refused BAD_VALUE. HEAT READ answers the heat image, DIP HISTORY the history, QUEUE READ the queue, and WATCH
STATUS the run states in eight bytes each, W1 to W16, whose two flags it then clears. Nothing else changes. That a first index of 0 names the
first record is the model's choice (log entry 34), and the age beside an absent dip is a free value (log entry 6). -/
def Obligations.ReadersAnswerWhatStands : Prop :=
  ∀ (s : State) (tag : Byte) (p : List Byte),
    (s.takes (.tableRead tag p) = true → p.length = 3 →
      (∀ t : Table, tableOf (u8At p 0) = some t →
        (t.count < u8At p 1 + (u8At p 2 + 1) ∨ 245 < (u8At p 2 + 1) * t.size →
          exec (.tableRead tag p) s = .next (s.refused (.tableRead tag p) .badValue)) ∧
        (u8At p 1 + (u8At p 2 + 1) ≤ t.count → (u8At p 2 + 1) * t.size ≤ 245 →
          exec (.tableRead tag p) s = .next (s.popped.replied (.tableRead tag p) .ok
            (p ++ (((s.tableBytes t).drop (u8At p 1)).take (u8At p 2 + 1)).flatten)))) ∧
      (7 < u8At p 0 → exec (.tableRead tag p) s = .next (s.refused (.tableRead tag p) .badValue))) ∧
    (∀ st, u8At p 0 = stationCode st → s.phase st ≠ .off →
      (Admitted s (.heatRead tag p) p 1 →
        let r := s.record st
        exec (.heatRead tag p) s = .next (s.popped.replied (.heatRead tag p) .ok
          ([1, byteOf (st.val + 1), byteOf r.phase.code, (match r.grade with | some g => byteOf g.val | none => 0xFF)] ++
           le 2 r.heatNo ++ [byteOf r.chargeNo, r.flags] ++ le 4 r.solid ++ le 4 r.liquid ++ le 2 r.tEst ++
           (match r.lastDip with
             | some d => le 2 d.temp ++ le 4 d.age
             | none => le 2 0 ++ le 4 (Config.absentDipAge s.clockMs).toNat) ++
           le 4 (r.liquidAge.getD 4294967295) ++ leSigned 8 r.residual ++ le 4 r.energy ++ le 8 0))) ∧
      (Admitted s (.dipHistory tag p) p 1 →
        exec (.dipHistory tag p) s = .next (s.popped.replied (.dipHistory tag p) .ok
          (le 2 (s.record st).heatNo ++ [byteOf (s.heat st).history.length] ++
           ((s.heat st).history.map (fun e => le 2 e.temp ++ le 2 e.estimate ++ leSigned 2 e.residual ++
             [byteOf e.origin.code, byteOf e.phase.code] ++ le 4 e.time)).flatten)))) ∧
    (Admitted s (.queueRead tag p) p 0 →
      exec (.queueRead tag p) s = .next (s.popped.replied (.queueRead tag p) .ok
        (byteOf s.taps.entries.length :: (s.taps.entries.map (fun e =>
          [byteOf e.ladle, byteOf e.grade.val] ++ le 2 e.mass ++ le 2 e.target ++ [byteOf (stationOrNone e.station)] ++
          (match e.permit with
            | some q => byteOf q.id :: (le 2 ((q.leftMs + 999) / 1000) ++ [byteOf (yesNo q.started)])
            | none => [0, 0, 0, 0]) ++ [byteOf e.expiries])).flatten))) ∧
    (Admitted s (.watchStatus tag p) p 0 → ∃ v : Bank RunState 16,
      (∀ w, look v w = { s.run w with positive := false, negative := false }) ∧
      let absent := fun n : Option Nat => match n with
        | some k => BitVec.ofNat 8 k
        | none => (0xFF : Byte)
      let shown := fun x : RunState =>
        [byteOf x.state.code,
         absent (if x.state = .count ∨ x.state = .active ∨ x.state = .latched then x.direction.map Dir.code else none),
         absent (x.applied.map (fun h => h.1.code)), absent (x.applied.map (fun h => h.2.code)),
         byteOf x.debounce, byteOf x.stale, absent (x.lastResult.map Finding.code),
         byteOf ((if x.positive then 1 else 0) + (if x.negative then 2 else 0))]
      exec (.watchStatus tag p) s = .next (State.replied { s.popped with runs := v } (.watchStatus tag p) .ok
        (allPrograms.map (fun w => shown (s.run w))).flatten))

/-- TABLE WRITE, the checks and the SHOP table. A write of table 0, of no table or of records a table has not is refused BAD_VALUE; a payload that
is not as long as the records it names, BAD_LENGTH. A SHOP record with a demand sync that is no yes or no is refused BAD_VALUE; any other is
stored with each field brought into its range, CLAMPED if that changed one. A new T_melt is the estimate of every station with solid; demand sync
put from yes to no clears the sync-lost mark; a silence timer that runs starts afresh; both units evaluate. What counts as a write of the dwell,
of the silence time and of T_melt is the model's reading (log entry 22); that a first index of 0 names a table's first record is the model's
choice (log entry 34). -/
def Obligations.ShopTableIsWritten : Prop :=
  ∀ (s : State) (tag : Byte) (p : List Byte),
    let c := Instr.tableWrite tag p
    s.takes c = true → 3 ≤ p.length →
    (u8At p 0 = 0 ∨ 7 < u8At p 0 → exec c s = .next (s.refused c .badValue)) ∧
    (∀ t : Table, tableOf (u8At p 0) = some t → t ≠ .layout →
      (t.count < u8At p 1 + (u8At p 2 + 1) ∨ 245 < (u8At p 2 + 1) * t.size → exec c s = .next (s.refused c .badValue)) ∧
      (u8At p 1 + (u8At p 2 + 1) ≤ t.count → (u8At p 2 + 1) * t.size ≤ 245 → p.length ≠ 3 + (u8At p 2 + 1) * t.size →
        exec c s = .next (s.refused c .badLength))) ∧
    (u8At p 0 = 1 → u8At p 1 = 0 → u8At p 2 = 0 → p.length = 37 →
      (shopOf (p.drop 3) = none → exec c s = .next (s.refused c .badValue)) ∧
      (∀ r : ShopRec, shopOf (p.drop 3) = some r →
        let start := min 450 (max 200 r.coolStart)
        let kept : ShopRec :=
          { c10 := min 120 (max 50 r.c10), h := min 1600 (max 900 r.h), tMelt := min 13500 (max 11500 r.tMelt)
            dipAgeMax := min 1800 (max 60 r.dipAgeMax), driftTol := min 1000 (max 50 r.driftTol)
            transferDrop := min 600 r.transferDrop, minDwell := min 600 r.minDwell
            contract := if r.contract = 0 then 0 else min 16000 (max 500 r.contract)
            interval := min 3600 (max 300 (r.interval / 60 * 60)), baseLoad := min 5000 r.baseLoad
            holdReserve := min 2000 r.holdReserve, demandSync := r.demandSync, lInst := min 16000 (max 500 r.lInst)
            coolStart := start, coolStop := min 600 (max (start + 20) r.coolStop), reservoir := min 50000 (max 500 r.reservoir)
            permitTime := min 600 (max 30 r.permitTime), expiryLimit := min 9 (max 1 r.expiryLimit)
            silenceTime := min 60 (max 2 r.silenceTime) }
        ∃ heats : Bank StationHeat 4,
          (∀ st, look heats st =
            if kept.tMelt ≠ s.cfg.shop.tMelt ∧ 0 < (s.record st).solid then
              { s.heat st with record := { s.record st with tEst := kept.tMelt } }
            else s.heat st) ∧
          exec c s = .next (State.replied
            (autoEvaluate 1 (autoEvaluate 0
              { s.popped with
                cfg := { s.cfg with shop := kept }
                heats := heats
                alloc := { s.alloc with
                  syncLost := s.alloc.syncLost && !(s.cfg.shop.demandSync && !r.demandSync) }
                link := { s.popped.link with
                  silenceTimer := if s.link.silent then s.link.silenceTimer else some (kept.silenceTime * 1000) } }))
            c (if kept = r then .ok else .clamped) [])))

/-- TABLE WRITE, the other tables, any number of records from the first index on; that 0 names the first record is the model's choice (log entry
34). Each record is stored with its fields brought into their ranges and the reply is CLAMPED if that changed one; no other record changes.
STATION: the tap queue is re-examined. UNIT: a mode that is none is refused, a written unit evaluates. PROGRAM: a field outside its set is refused
BAD_VALUE, a program whose TRIP or EMERGENCY is in force BUSY; the written programs start afresh; that an index stored as 0 for SUPPLY makes no
CLAMPED is the model's choice (log entry 38). GRADE: a record that breaks R23 refuses the write. LINING: a station with metal or in UNKNOWN
refuses the write; linings that become spent are reported in station order, the model's choice (log entry 36). -/
def Obligations.OtherTablesAreWritten : Prop :=
  ∀ (s : State) (tag : Byte) (p : List Byte),
    let c := Instr.tableWrite tag p
    let first := u8At p 1
    let count := u8At p 2 + 1
    let inside := fun i : Nat => first ≤ i ∧ i < first + count
    let bytes := fun (size i : Nat) => ((p.drop 3).drop ((i - first) * size)).take size
    s.takes c = true →
    -- STATION
    (u8At p 0 = 2 → first + count ≤ 4 → p.length = 3 + count * 9 → ∃ v : Bank StationRec 4,
      (∀ st : Station, (inside st.val → ∃ r, stationRecOf (bytes 9 st.val) = some r ∧ look v st =
          { lRef := min 400 (max 20 r.lRef), eta := min 950 (max 500 r.eta), heelMin := min (s.capacity st / 2) r.heelMin,
            coilMinFlow := min 10000 r.coilMinFlow, mask := r.mask }) ∧
        (¬ inside st.val → look v st = s.stationRec st)) ∧
      ∃ code, (code = .ok ∨ code = .clamped) ∧
        (code = .ok ↔ ∀ st : Station, inside st.val → stationRecOf (bytes 9 st.val) = some (look v st)) ∧
        exec c s = .next ((reexamine { s.popped with cfg := { s.cfg with stations := v } }).replied c code [])) ∧
    -- UNIT
    (u8At p 0 = 3 → first + count ≤ 2 → p.length = 3 + count * 5 →
      ((∃ u : UnitId, inside u.val ∧ unitRecOf (bytes 5 u.val) = none) → exec c s = .next (s.refused c .badValue)) ∧
      ((∀ u : UnitId, inside u.val → unitRecOf (bytes 5 u.val) ≠ none) → ∃ v : Bank UnitRec 2,
        (∀ u : UnitId, (inside u.val → ∃ r, unitRecOf (bytes 5 u.val) = some r ∧ look v u =
            { minPower := min 200 (max 50 r.minPower), rampRate := min 2000 (max 10 r.rampRate),
              travelTime := min 20 (max 2 r.travelTime), mode := r.mode }) ∧
          (¬ inside u.val → look v u = s.unitRec u)) ∧
        ∃ code, (code = .ok ∨ code = .clamped) ∧
          (code = .ok ↔ ∀ u : UnitId, inside u.val → unitRecOf (bytes 5 u.val) = some (look v u)) ∧
          exec c s = .next (State.replied
            ((allUnits.filter (fun u => first ≤ u.val ∧ u.val < first + count)).foldl (fun x u => autoEvaluate u x)
              { s.popped with cfg := { s.cfg with units := v } }) c code []))) ∧
    -- CIRCUIT
    (u8At p 0 = 4 → first + count ≤ 10 → p.length = 3 + count * 4 → ∃ v : Bank Nat 10,
      (∀ k : Circuit, (inside k.val → look v k = min 100000 (max 10 (u32At (bytes 4 k.val) 0))) ∧
        (¬ inside k.val → look v k = look s.cfg.circuits k)) ∧
      ∃ code, (code = .ok ∨ code = .clamped) ∧
        (code = .ok ↔ ∀ k : Circuit, inside k.val → look v k = u32At (bytes 4 k.val) 0) ∧
        exec c s = .next (State.replied { s.popped with cfg := { s.cfg with circuits := v } } c code [])) ∧
    -- PROGRAM
    (u8At p 0 = 5 → first + count ≤ 16 → count * 19 ≤ 245 → p.length = 3 + count * 19 →
      ((∃ w : Program, inside w.val ∧ programRecOf (bytes 19 w.val) = none) → exec c s = .next (s.refused c .badValue)) ∧
      ((∀ w : Program, inside w.val → programRecOf (bytes 19 w.val) ≠ none) →
        ((∃ w : Program, inside w.val ∧ (s.held w = .trip ∨ s.held w = .emergency)) → exec c s = .next (s.refused c .busy)) ∧
        ((∀ w : Program, inside w.val → s.held w ≠ .trip ∧ s.held w ≠ .emergency) →
          ∃ (v : Bank ProgramRec 16) (runs : Bank RunState 16),
            (∀ w : Program, (inside w.val → ∃ r, programRecOf (bytes 19 w.val) = some r ∧ look v w =
                { r with hysteresis := min 1000 r.hysteresis, debounce := min 60 (max 1 r.debounce), percent := min 90 r.percent,
                         staleLimit := min 60 (max 1 r.staleLimit) }) ∧
              (¬ inside w.val → look v w = s.program w)) ∧
            (∀ w : Program, look runs w =
              if inside w.val then
                if (look v w).enabled ∧ s.suspended (look v w).target = false then
                  { RunState.off with state := .watch, periodTimer := some (look v w).period }
                else RunState.off
              else s.run w) ∧
            ∃ code, (code = .ok ∨ code = .clamped) ∧
              (code = .ok ↔ ∀ w : Program, inside w.val → programRecOf (bytes 19 w.val) = some (look v w)) ∧
              exec c s = .next (State.replied { s.popped with cfg := { s.cfg with programs := v }, runs := runs } c code [])))) ∧
    -- GRADE
    (u8At p 0 = 6 → first + count ≤ 16 → p.length = 3 + count * 10 → ∃ v : Bank GradeRec 16,
      (∀ g : Grade, (inside g.val → ∃ r, gradeRecOf (bytes 10 g.val) = some r ∧ look v g =
          { tapTarget := min 16000 (max 13000 r.tapTarget), tapWindow := min 300 (max 20 r.tapWindow),
            holdTarget := min 15500 (max 12500 r.holdTarget), holdBand := min 300 (max 20 r.holdBand),
            maximum := min 16500 (max 13500 r.maximum) }) ∧
        (¬ inside g.val → look v g = s.gradeRec g)) ∧
      ((∃ g : Grade, inside g.val ∧ ¬ ((look v g).holdTarget + (look v g).holdBand + (look v g).tapWindow ≤ (look v g).tapTarget ∧
          (look v g).tapTarget + (look v g).tapWindow ≤ (look v g).maximum)) → exec c s = .next (s.refused c .badValue)) ∧
      ((∀ g : Grade, inside g.val → (look v g).holdTarget + (look v g).holdBand + (look v g).tapWindow ≤ (look v g).tapTarget ∧
          (look v g).tapTarget + (look v g).tapWindow ≤ (look v g).maximum) →
        ∃ code, (code = .ok ∨ code = .clamped) ∧
          (code = .ok ↔ ∀ g : Grade, inside g.val → gradeRecOf (bytes 10 g.val) = some (look v g)) ∧
          exec c s = .next (State.replied { s.popped with cfg := { s.cfg with grades := v } } c code []))) ∧
    -- LINING
    (u8At p 0 = 7 → first + count ≤ 4 → p.length = 3 + count * 14 →
      ((∃ st : Station, inside st.val ∧ s.phase st ≠ .off ∧ s.phase st ≠ .empty) → exec c s = .next (s.refused c .metalPresent)) ∧
      ((∀ st : Station, inside st.val → s.phase st = .off ∨ s.phase st = .empty) → ∃ v : Bank LiningRec 4,
        (∀ st : Station, (inside st.val → ∃ r, liningRecOf (bytes 14 st.val) = some r ∧
            look v st = { r with peak := min 16500 r.peak }) ∧
          (¬ inside st.val → look v st = look s.linings st)) ∧
        ∃ code, (code = .ok ∨ code = .clamped) ∧
          (code = .ok ↔ ∀ st : Station, inside st.val → liningRecOf (bytes 14 st.val) = some (look v st)) ∧
          exec c s = .next (State.replied
            (allStations.foldl (fun x st =>
              if (look s.linings st).spent = false ∧ (look v st).spent = true then
                x.notify .lining (stationCode st) (some (look v st).melted) (some (look v st).limit) none
              else x) { s.popped with linings := v }) c code [])))

/-- LAYOUT. A second layout is LAYOUT_LOCKED; a field out of its set, a present station without a unit, a unit with more than two stations or a used
unit's rating outside 250 to 8,000 kW is BAD_VALUE. Otherwise the layout is stored, absent stations and unused units blank, capacities brought
within 500 to 12,000 kg (CLAMPED): present stations are EMPTY and enabled, used units have RESTART in place of NO_LAYOUT and read their lines,
L_inst is the sum of the ratings, 500 at least, circuits are marked, live programs start, and the queue is re-examined. -/
def Obligations.LayoutIsLoadedOnce : Prop :=
  ∀ (s : State) (tag : Byte) (p : List Byte),
    let c := Instr.layout tag p
    let present := fun i : Nat => u8At p (4 * i) = 1
    let names := fun (i : Nat) (u : UnitId) => present i ∧ u8At p (4 * i + 1) = unitCode u
    let named := fun u : UnitId => ([0, 1, 2, 3].filter (fun i => decide (u8At p (4 * i) = 1) && decide (u8At p (4 * i + 1) = unitCode u))).length
    let rating := fun u : UnitId => u16At p (16 + 2 * u.val)
    let bad := (∃ i < 4, 1 < u8At p (4 * i) ∨ (present i ∧ ¬ ∃ u, names i u)) ∨
      ∃ u, 2 < named u ∨ (0 < named u ∧ (rating u < 250 ∨ 8000 < rating u))
    s.takes c = true → p.length = 20 →
    (s.cfg.layout.loaded = true → exec c s = .next (s.refused c .layoutLocked)) ∧
    (s.cfg.layout.loaded = false → bad → exec c s = .next (s.refused c .badValue)) ∧
    (s.cfg.layout.loaded = false → ¬ bad → ∃ (l : Layout) (x : State) (code : ReplyCode),
      l.loaded = true ∧
      (∀ st : Station, (present st.val → ∃ u, names st.val u ∧
          look l.stations st = { present := true, unit := some u, capacity := min 12000 (max 500 (u16At p (4 * st.val + 2))) }) ∧
        (¬ present st.val → look l.stations st = { present := false, unit := none, capacity := 0 })) ∧
      (∀ u, look l.ratings u = if 0 < named u then rating u else 0) ∧
      x = { s.popped with
        cfg := { s.cfg with layout := l, shop := { s.cfg.shop with lInst := max 500 (look l.ratings 0 + look l.ratings 1) } }
        enabled := x.enabled
        heats := x.heats
        units := x.units
        circuits := x.circuits
        runs := x.runs } ∧
      (∀ st, look x.enabled st = (decide (present st.val) || look s.enabled st)) ∧
      (∀ st, x.heat st = if present st.val then StationHeat.clear .empty else s.heat st) ∧
      (∀ u, x.unit u = if 0 < named u then
          { s.unit u with
            position := x.shown u
            causes := { (s.unit u).causes with
              noLayout := false, restart := true
              unitFault := (s.unit u).causes.unitFault || look s.lines.unitFault u
              pump := (s.unit u).causes.pump || s.lines.pumpFault
              switch := (s.unit u).causes.switch || (x.shown u).isNone } }
        else s.unit u) ∧
      (∀ k, look x.circuits k = { look s.circuits k with
        evaluated := if k.val < 8 then look x.enabled ⟨k.val % 4, by omega⟩ else decide (0 < named ⟨(k.val - 8) % 2, by omega⟩) }) ∧
      (∀ w, x.run w = if x.live w then { RunState.off with state := .watch, periodTimer := some (s.program w).period } else s.run w) ∧
      (code = .ok ∨ code = .clamped) ∧
      (code = .ok ↔ ∀ i < 4, present i → 500 ≤ u16At p (4 * i + 2) ∧ u16At p (4 * i + 2) ≤ 12000) ∧
      exec c s = .next ((reexamine x).replied c code []))

/-- STATION ENABLE and STATION DISABLE. ENABLE: an absent station is BAD_VALUE; an enabled one OK with no effect; a disabled one becomes enabled
and EMPTY, its two circuits evaluated and INVALID until their next gate, its enabled programs in WATCH, and the queue is re-examined. DISABLE: an
EMPTY station becomes disabled and OFF, its request recomputed, its programs suspended with their actions withdrawn, its circuits no longer
evaluated, a RAMP_DOWN toward it re-judged, and the queue re-examined; in UNKNOWN it is WRONG_PHASE, with metal METAL_PRESENT. The model's
choices: the order of a DISABLE's effects (log entry 16) and of its withdrawals, W1 to W16 (log entry 36); its reading: the INVALID quantities
after an ENABLE (log entry 28). -/
def Obligations.StationsAreEnabledAndDisabled : Prop :=
  ∀ (s : State) (tag : Byte) (p : List Byte) (st : Station), u8At p 0 = stationCode st →
    let own := fun k : Circuit => k.val = st.val ∨ k.val = st.val + 4
    (Admitted s (.stationEnable tag p) p 1 →
      let c := Instr.stationEnable tag p
      ((s.layoutOf st).present = false → exec c s = .next (s.refused c .badValue)) ∧
      ((s.layoutOf st).present = true → look s.enabled st = true → exec c s = .next (s.popped.replied c .ok [])) ∧
      ((s.layoutOf st).present = true → look s.enabled st = false → exec c s = .next ((reexamine { s.popped with
        enabled := place s.enabled st true
        heats := place s.heats st (StationHeat.clear .empty)
        circuits := Vector.ofFn (fun k => if own k then
            { look s.circuits k with evaluated := true, flow := none, delta := none, heat := none, excess := none }
          else look s.circuits k)
        runs := Vector.ofFn (fun w => if (s.program w).target = .station st ∧ (s.program w).enabled = true then
            { RunState.off with state := .watch, periodTimer := some (s.program w).period }
          else s.run w) }).replied c .ok []))) ∧
    (Admitted s (.stationDisable tag p) p 1 →
      let c := Instr.stationDisable tag p
      (s.phase st = .unknown → exec c s = .next (s.refused c .wrongPhase)) ∧
      ((s.phase st).running = true → exec c s = .next (s.refused c .metalPresent)) ∧
      (s.phase st = .empty →
        let off : State := { s.popped with
          enabled := place s.enabled st false
          heats := place s.heats st { s.heat st with
            record := HeatRec.clear .off, history := [], aboveMax := false, belowFloor := false, stepTimer := none } }
        let x := suspendPrograms st (recompute st off)
        let y := markStation st false x
        let z := tellOff st y
        exec c s = .next ((reexamine z).replied c .ok []) ∧
        -- the programs that target the station are suspended, each withdrawal acted on before the next
        (∀ w, x.run w = if (s.program w).target = .station st then
            { RunState.off with positive := (s.run w).positive, negative := (s.run w).negative } else s.run w) ∧
        x.bars st = [] ∧
        x = allPrograms.foldl (fun v w => if (v.program w).target = .station st then
            handMembership (.station st) (v.held w) .nothing (v.targetBarred (.station st))
              { v with runs := place v.runs w { RunState.off with positive := (v.run w).positive, negative := (v.run w).negative } }
          else v) (recompute st off) ∧
        -- the circuits are no longer evaluated, and keep their quantities until their next gate
        y = { x with circuits := y.circuits } ∧
        (∀ k, look y.circuits k = if own k then { look s.circuits k with evaluated := false } else look s.circuits k) ∧
        -- a RAMP_DOWN toward the station is re-judged
        (∀ u, s.unitOf st = some u → (y.unit u).state = .rampDown st → z = rejudge u y) ∧
        ((∀ u, s.unitOf st = some u → (y.unit u).state ≠ .rampDown st) → z = y) ∧
        -- what the station is left with
        ∃ t, exec c s = .next t ∧ LinkKept { s with link := s.link.answered (replyTo c .ok []) } t ∧ OthersKept st s t ∧
          t.heat st = { s.heat st with
            record := HeatRec.clear .off, history := [], request := 0, need := .idle, aboveMax := false, belowFloor := false,
            stepTimer := none } ∧
          t.enabled = place s.enabled st false ∧ t.valves = s.valves ∧ t.cfg = s.cfg))

/-- RELINE. It names one station and is taken in OFF alone: the counts and the peak become 0 and the limit stays, so the lining is not spent. In
UNKNOWN and EMPTY it is refused WRONG_PHASE, with metal METAL_PRESENT, and the record stays. Nothing else changes, and no notice is queued. -/
def Obligations.RelineClearsTheLining : Prop :=
  ∀ (s : State) (tag : Byte) (p : List Byte),
    let c := Instr.reline tag p
    s.takes c = true → p.length = 1 →
    (s.cfg.layout.loaded = false → exec c s = .next (s.refused c .noLayout)) ∧
    (s.cfg.layout.loaded = true → u8At p 0 < 1 ∨ 4 < u8At p 0 → exec c s = .next (s.refused c .badValue)) ∧
    (s.cfg.layout.loaded = true → ∀ st, u8At p 0 = stationCode st →
      (s.phase st = .off → ∃ l : LiningRec,
        l = { melted := 0, limit := (look s.linings st).limit, peak := 0, overtemp := 0 } ∧ l.spent = false ∧
        exec c s = .next (State.replied { s.popped with linings := place s.linings st l } c .ok [])) ∧
      (s.phase st = .unknown ∨ s.phase st = .empty → exec c s = .next (s.refused c .wrongPhase)) ∧
      ((s.phase st).running = true → exec c s = .next (s.refused c .metalPresent)))

/-! ## Heats (chapters 2 and 3) -/

/-- CHARGE naming a station that is not OFF, judged in the order of R43. Taken, the charge is limited to the station's room (CLAMPED with OVERFILL if
that cut it). Into EMPTY it begins a heat of the named grade in MELT at T_melt, with the heat counter's number; otherwise the solid grows, the
phase is MELT, and the liquid's superheat over T_melt goes into the residual. The inflow grows, the request is recomputed, and a change of
phase has the queue re-examined. That the valve opens before OVERFILL is raised is log entry 15. -/
def Obligations.ChargeAddsSolid : Prop :=
  ∀ (s : State) (tag : Byte) (p : List Byte) (st : Station),
    let c := Instr.charge tag p
    let r := s.record st
    let number := u8At p 1
    let mass := u16At p 2
    let grade := u8At p 4
    let room := s.capacity st - (r.solid + r.liquid)
    let refusal : Option ReplyCode :=
      if r.phase = .unknown ∨ r.phase = .tapping then some .wrongPhase
      else if r.phase = .superheat then some .assigned
      else if (look s.linings st).limit ≠ 0 ∧ (look s.linings st).limit ≤ (look s.linings st).melted then some .liningSpent
      else if mass = 0 ∨ s.capacity st < mass ∨ (16 ≤ grade ∧ grade ≠ 255) ∨ (r.phase = .empty ∧ grade = 255) then some .badValue
      else if (r.phase = .melt ∨ r.phase = .hold) ∧ grade ≠ 255 ∧ r.grade.map Fin.val ≠ some grade then some .gradeMismatch
      else if number ≠ r.chargeNo + 1 then some .sequence
      else if room = 0 then some .badValue
      else none
    Admitted s c p 5 → u8At p 0 = stationCode st → r.phase ≠ .off →
    (∀ code, refusal = some code → exec c s = .next (s.refused c code)) ∧
    (refusal = none →
      let poured := min mass room
      let code : ReplyCode := if room < mass then .clamped else .ok
      let finish := fun x : State =>
        let y := if room < mass then raise .overfill st x else x
        recompute st { y with inflow := y.inflow + poured }
      (r.phase = .empty → ∃ g : Grade, g.val = grade ∧
        exec c s = .next ((reexamine (finish (beginMetal st { s.popped with
          heats := place s.heats st { s.heat st with
            record := { phase := .melt, grade := some g, heatNo := s.heatCounter, chargeNo := number, solid := poured, liquid := 0,
                        tEst := s.cfg.shop.tMelt, residual := 0, lastDip := none, dipMark := false, liquidAge := none, flags := 0,
                        energy := 0 }
            history := [], aboveMax := false, belowFloor := false, stepTimer := some 1000 }
          heatCounter := if s.heatCounter < 65535 then s.heatCounter + 1 else 1 }))).replied c code [])) ∧
      (r.phase = .melt ∨ r.phase = .hold →
        let x := finish { s.popped with heats := place s.heats st { s.heat st with record := { r with
          phase := .melt, chargeNo := number, solid := r.solid + poured
          residual := if 0 < r.liquid then r.residual + (r.liquid * s.cfg.shop.c10 : Nat) * ((r.tEst : Int) - s.cfg.shop.tMelt)
            else r.residual
          tEst := if 0 < r.liquid then s.cfg.shop.tMelt else r.tEst } } }
        exec c s = .next ((if r.phase = .melt then x else reexamine x).replied c code [])))

/-- DIP. In UNKNOWN, EMPTY and TAPPING it is WRONG_PHASE; a temperature outside 1000.0 to 1750.0 °C is BAD_VALUE. In MELT the reading enters the
history alone. In HOLD and SUPERHEAT the history keeps it with the estimate and the difference, the estimate becomes the reading kept within
1100.0 to 1650.0 °C, the residual 0, the last dip the reading at age 0, the dip mark yes; a reading so changed raises CLAMPED, three misses in a
row with one sign DRIFT; the request is recomputed and readiness judged. The history keeps the eight most recent. -/
def Obligations.DipReplacesTheEstimate : Prop :=
  ∀ (s : State) (tag : Byte) (p : List Byte) (st : Station),
    let c := Instr.dip tag p
    let r := s.record st
    let temp := u16At p 1
    let entry : DipEntry :=
      { temp, estimate := r.tEst, residual := (temp : Int) - r.tEst, origin := .lance, phase := r.phase, time := s.clockMs / 1000 }
    let longer := (s.heat st).history ++ [entry]
    let history := longer.drop (longer.length - 8)
    Admitted s c p 3 → u8At p 0 = stationCode st → r.phase ≠ .off →
    (r.phase = .unknown ∨ r.phase = .empty ∨ r.phase = .tapping → exec c s = .next (s.refused c .wrongPhase)) ∧
    (r.phase = .melt ∨ r.phase = .hold ∨ r.phase = .superheat → temp < 10000 ∨ 17500 < temp →
      exec c s = .next (s.refused c .badValue)) ∧
    (10000 ≤ temp → temp ≤ 17500 →
      (r.phase = .melt →
        exec c s = .next (State.replied { s.popped with heats := place s.heats st { s.heat st with history := history } } c .ok [])) ∧
      (r.phase = .hold ∨ r.phase = .superheat →
        let kept := min 16500 (max 11000 temp)
        let x : State := { s.popped with heats := place s.heats st { s.heat st with
          record := { r with tEst := kept, residual := 0, lastDip := some { temp, age := 0 }, dipMark := true }
          history := history } }
        let y := if kept ≠ temp then raise .clamped st x else x
        let judged := history.filter (fun e => decide (e.phase ≠ .melt))
        let last := judged.drop (judged.length - 3)
        let drifted := last.length = 3 ∧
          ((∀ e ∈ last, (s.cfg.shop.driftTol : Int) < e.residual) ∨ (∀ e ∈ last, e.residual < -(s.cfg.shop.driftTol : Int)))
        ∃ z, (drifted → z = raise .drift st y) ∧ (¬ drifted → z = y) ∧
          exec c s = .next ((readinessCheck st (recompute st z)).replied c .ok [])))

/-- TRANSFER between two stations that are not OFF, judged in the order of R54. Taken, the source loses the mass and keeps its residual in
proportion, or becomes EMPTY. The metal arrives at the source's temperature less the transfer drop, 1100.0 °C at least. An EMPTY destination
begins a heat in HOLD with the source's grade, flags and liquid age; a running one mixes: in HOLD the temperatures by mass, in MELT the superheat
goes into the residual; flags join, the older liquid age stays, the last dip is gone. MIXED is raised for the destination, its request recomputed,
the queue re-examined. That the valve opens before MIXED is raised is log entry 15. -/
def Obligations.TransferMovesMetal : Prop :=
  ∀ (s : State) (tag : Byte) (p : List Byte) (a b : Station),
    let c := Instr.transfer tag p
    let ra := s.record a
    let rb := s.record b
    let mass := u16At p 2
    let refusal : Option ReplyCode :=
      if a = b then some .badValue
      else if ra.phase = .superheat then some .assigned
      else if ra.phase ≠ .hold then some .wrongPhase
      else if mass = 0 ∨ ra.liquid < mass then some .badValue
      else if rb.phase = .superheat then some .assigned
      else if rb.phase = .unknown ∨ rb.phase = .tapping then some .wrongPhase
      else if (rb.phase = .melt ∨ rb.phase = .hold) ∧ rb.grade ≠ ra.grade then some .gradeMismatch
      else if s.capacity b - (rb.solid + rb.liquid) < mass then some .badValue
      else none
    Admitted s c p 4 → u8At p 0 = stationCode a → u8At p 1 = stationCode b → ra.phase ≠ .off → rb.phase ≠ .off →
    (∀ code, refusal = some code → exec c s = .next (s.refused c code)) ∧
    (refusal = none →
      let lighter : HeatRec := { ra with
        liquid := ra.liquid - mass
        residual := if mass < ra.liquid then Int.tdiv (ra.residual * (ra.liquid - mass : Nat)) ra.liquid else ra.residual }
      let x : State := { s.popped with heats := place s.heats a { s.heat a with record := lighter } }
      let poured := if mass < ra.liquid then recompute a x else enterEmpty a x
      let arrives := max 11000 (ra.tEst - s.cfg.shop.transferDrop)
      let begun := beginMetal b { poured with
        heats := place poured.heats b { poured.heat b with
          record := { phase := .hold, grade := ra.grade, heatNo := s.heatCounter, chargeNo := 0, solid := 0, liquid := mass,
                      tEst := arrives, residual := 0, lastDip := none, dipMark := false, liquidAge := ra.liquidAge, flags := ra.flags,
                      energy := 0 }
          history := [], aboveMax := false, belowFloor := false, stepTimer := some 1000 }
        heatCounter := if s.heatCounter < 65535 then s.heatCounter + 1 else 1 }
      let mixed : HeatRec := { rb with
        liquid := rb.liquid + mass
        tEst := if rb.phase = .hold then (rb.liquid * rb.tEst + mass * arrives) / (rb.liquid + mass) else rb.tEst
        residual := if rb.phase = .hold then rb.residual
          else rb.residual + (mass * s.cfg.shop.c10 : Nat) * ((arrives : Int) - s.cfg.shop.tMelt)
        flags := rb.flags ||| ra.flags
        liquidAge := match rb.liquidAge, ra.liquidAge with
          | some m, some n => some (max m n)
          | some m, none => some m
          | none, n => n
        lastDip := none, dipMark := false }
      let taken := if rb.phase = .empty then begun
        else { poured with heats := place poured.heats b { poured.heat b with record := mixed } }
      exec c s = .next ((reexamine (recompute b (raise .mixed b taken))).replied c .ok []))

/-- HEAT LOAD and HEAT DECLARE, taken in UNKNOWN alone (WRONG_PHASE otherwise). A valid image establishes the record it carries, an invalid one is
IMAGE_INVALID; a declared heat has the counter's number, is in MELT at T_melt if there is solid, and otherwise in HOLD at the declared temperature,
which is its last dip, age 0, and its one history entry. The inflow grows by the mass, the step timer starts, the request is computed, and the
queue re-examined. -/
def Obligations.HostEstablishesHeats : Prop :=
  ∀ (s : State) (tag : Byte) (p : List Byte) (st : Station), u8At p 0 = stationCode st →
    let begun := fun (x : State) (r : HeatRec) (history : List DipEntry) =>
      reexamine (recompute st { x with
        heats := place s.heats st { s.heat st with
          record := r, history := history, aboveMax := false, belowFloor := false, stepTimer := some 1000 }
        inflow := s.inflow + (r.solid + r.liquid) })
    (Admitted s (.heatLoad tag p) p 49 → s.phase st ≠ .off →
      let c := Instr.heatLoad tag p
      let im := p.drop 1
      let solid := u32At im 8
      let liquid := u32At im 12
      let valid := u8At im 0 = 1 ∧ u8At im 1 = stationCode st ∧ (∀ x ∈ im.drop 40, x = 0) ∧ 3 ≤ u8At im 2 ∧ u8At im 2 ≤ 6 ∧
        u8At im 3 ≤ 15 ∧ u16At im 4 ≠ 0 ∧ 0 < solid + liquid ∧ solid + liquid ≤ s.capacity st ∧
        11000 ≤ u16At im 16 ∧ u16At im 16 ≤ 16500 ∧
        (u16At im 18 = 0 ∨ 10000 ≤ u16At im 18 ∧ u16At im 18 ≤ 17500) ∧
        -10000000000 ≤ s64At im 28 ∧ s64At im 28 ≤ 10000000000
      (s.phase st ≠ .unknown → exec c s = .next (s.refused c .wrongPhase)) ∧
      (s.phase st = .unknown → ¬ valid → exec c s = .next (s.refused c .imageInvalid)) ∧
      (s.phase st = .unknown → valid → ∃ g : Grade, g.val = u8At im 3 ∧
        exec c s = .next ((begun s.popped
          { phase := if 0 < solid then .melt else .hold, grade := some g, heatNo := u16At im 4, chargeNo := u8At im 6, solid, liquid
            tEst := if 0 < solid then s.cfg.shop.tMelt else u16At im 16, residual := s64At im 28
            lastDip := if u16At im 18 = 0 then none else some { temp := u16At im 18, age := u32At im 20 }
            dipMark := false, liquidAge := if u32At im 24 = 4294967295 then none else some (u32At im 24), flags := im.getD 7 0
            energy := u32At im 36 } []).replied c .ok []))) ∧
    (Admitted s (.heatDeclare tag p) p 8 → s.phase st ≠ .off →
      let c := Instr.heatDeclare tag p
      let solid := u16At p 2
      let liquid := u16At p 4
      let temp := u16At p 6
      let bad := 15 < u8At p 1 ∨ solid + liquid = 0 ∨ s.capacity st < solid + liquid ∨ (solid = 0 ∧ (temp < 11000 ∨ 16500 < temp))
      (s.phase st ≠ .unknown → exec c s = .next (s.refused c .wrongPhase)) ∧
      (s.phase st = .unknown → bad → exec c s = .next (s.refused c .badValue)) ∧
      (s.phase st = .unknown → ¬ bad → ∃ g : Grade, g.val = u8At p 1 ∧
        exec c s = .next ((begun { s.popped with heatCounter := if s.heatCounter < 65535 then s.heatCounter + 1 else 1 }
          { phase := if 0 < solid then .melt else .hold, grade := some g, heatNo := s.heatCounter, chargeNo := 0, solid, liquid
            tEst := if 0 < solid then s.cfg.shop.tMelt else temp, residual := 0
            lastDip := if 0 < solid then none else some { temp, age := 0 }, dipMark := false
            liquidAge := if 0 < solid then none else some 0, flags := 0, energy := 0 }
          (if 0 < solid then []
           else [{ temp, estimate := temp, residual := 0, origin := .declare, phase := .hold, time := s.clockMs / 1000 }])).replied
          c .ok [])))

/-- HEAT EMPTY and FLAGS CLEAR. HEAT EMPTY makes an UNKNOWN station EMPTY, its valve closed, and has the queue re-examined; that a valve so closed
queues its EMERGENCY WATER notice, against the letter of R63, is the model's choice (log entry 31); it is OK with no effect in EMPTY and
METAL_PRESENT where there is metal. FLAGS CLEAR clears the named flags of a running heat and no other; a WATER flag so cleared has the queue
re-examined; in UNKNOWN and EMPTY it changes nothing. -/
def Obligations.HeatsAreEmptiedAndFlagsCleared : Prop :=
  ∀ (s : State) (tag : Byte) (p : List Byte) (st : Station), u8At p 0 = stationCode st → s.phase st ≠ .off →
    (Admitted s (.heatEmpty tag p) p 1 →
      let c := Instr.heatEmpty tag p
      (s.phase st = .unknown → exec c s = .next ((reexamine (enterEmpty st s.popped)).replied c .ok [])) ∧
      (s.phase st = .empty → exec c s = .next (s.popped.replied c .ok [])) ∧
      ((s.phase st).running = true → exec c s = .next (s.refused c .metalPresent))) ∧
    (Admitted s (.flagsClear tag p) p 2 →
      let c := Instr.flagsClear tag p
      let named : FlagSet := p.getD 1 0
      let left : HeatRec := { s.record st with flags := (s.record st).flags &&& ~~~named }
      let x : State := { s.popped with heats := place s.heats st { s.heat st with record := left } }
      ((s.phase st).running = false → exec c s = .next (s.popped.replied c .ok [])) ∧
      ((s.phase st).running = true →
        ((s.record st).flags.getLsbD 5 && named.getLsbD 5) = true → exec c s = .next ((reexamine x).replied c .ok [])) ∧
      ((s.phase st).running = true →
        ((s.record st).flags.getLsbD 5 && named.getLsbD 5) = false → exec c s = .next (x.replied c .ok [])))

/-- MODEL STEP of a running station. E is the power that enters the bath less the loss of the liquid, plus the residual, in joules. With solid, whole
kilograms of H kJ each melt or refreeze within what there is, and the bath stays at T_melt; without, whole tenths of a degree warm or cool it, kept
within 1100.0 to 1650.0 °C. The rest is the residual. Energy, the dip's age, a present liquid age and the lining count on. A station whose solid is
gone is in HOLD with a liquid age, or in SUPERHEAT if a ladle took it at once. No other station's metal changes, and nothing outside heats, units,
tap queue and link but this lining. The step then raises CLAMPED, OVERTEMP and UNDERTEMP, reports LINING and MELT DONE, recomputes the request and
the class, has the queue re-examined after MELT DONE, and makes the scheduler's checks. MELT DONE coming after the judgements is log entry 11, the
order of the notices log entry 12, the energy in MELT DONE log entry 30. -/
def Obligations.ModelStepMovesTheBath : Prop :=
  ∀ (s : State) (st : Station), s.resetHeld = false →
    ((s.phase st).running = false → exec (.modelStep st) s = .next (nextFrame s)) ∧
    ((s.phase st).running = true →
      let r := s.record st
      let shop := s.cfg.shop
      let sr := s.stationRec st
      let power := match s.unitOf st with
        | some u => if s.active u = some st then (s.unit u).measured else 0
        | none => 0
      let loss : Nat := if r.liquid = 0 ∨ r.tEst ≤ 250 then 0 else sr.lRef * (r.tEst - 250) * 1000 / 14250
      let e : Int := ((power * sr.eta : Nat) : Int) - loss + r.residual
      let melts : Int := max (-(r.liquid : Int)) (min r.solid (Int.tdiv e (shop.h * 1000 : Nat)))
      let solid := ((r.solid : Int) - melts).toNat
      let liquid := ((r.liquid : Int) + melts).toNat
      let rise : Int := Int.tdiv e (r.liquid * shop.c10 : Nat)
      let warmed : Int := if r.liquid = 0 then (r.tEst : Int) else (r.tEst : Int) + rise
      let bath : Int := if 0 < r.solid then (shop.tMelt : Int) else warmed
      let rest : Int :=
        if bath < 11000 ∨ 16500 < bath then 0
        else if 0 < r.solid then (if liquid = 0 ∧ 0 < solid then 0 else e - melts * (shop.h * 1000 : Nat))
        else if r.liquid = 0 then 0 else e - rise * (r.liquid * shop.c10 : Nat)
      let tEst := (max 11000 (min 16500 bath)).toNat
      let meltDone := 0 < r.solid ∧ solid = 0
      let aged := r.liquidAge.map (fun n => min 4294967294 (n + 1))
      let g := s.gradeRec (r.grade.getD 0)
      let old := look s.linings st
      let lining : LiningRec := { old with
        melted := min 4294967295 (old.melted + (if 0 < r.solid then melts.toNat else 0))
        peak := max old.peak tEst
        overtemp := if g.maximum < tEst then min 4294967295 (old.overtemp + 1) else old.overtemp }
      let spent := fun l : LiningRec => l.limit ≠ 0 ∧ l.limit ≤ l.melted
      let heat : StationHeat := { s.heat st with
        record := { r with
          phase := if meltDone then .hold else r.phase
          solid := if 0 < r.solid then solid else 0
          liquid := if 0 < r.solid then liquid else r.liquid
          tEst := tEst
          residual := rest
          energy := min 4294967295 (r.energy + power * sr.eta / 1000)
          lastDip := r.lastDip.map (fun d => { d with age := min 4294967295 (d.age + 1) })
          liquidAge := if meltDone then some (aged.getD 0) else aged }
        aboveMax := decide (g.maximum < tEst)
        belowFloor := decide ((r.phase = .hold ∨ r.phase = .superheat) ∧ tEst + 2 * g.holdBand < g.holdTarget)
        stepTimer := some 1000 }
      let a : State := { s with heats := place s.heats st heat, linings := place s.linings st lining }
      let b := if bath < 11000 ∨ 16500 < bath then raise .clamped st a else a
      let c := if ¬ spent old ∧ spent lining
        then b.notify .lining (stationCode st) (some lining.melted) (some lining.limit) none else b
      let d := if heat.aboveMax = true ∧ (s.heat st).aboveMax = false then raise .overtemp st c else c
      let f := if heat.belowFloor = true ∧ (s.heat st).belowFloor = false then raise .undertemp st d else d
      let stepped := recompute st (if meltDone
        then f.notify .meltDone (stationCode st) (some r.heatNo) (some heat.record.liquid) (some heat.record.energy) else f)
      exec (.modelStep st) s = .next (nextFrame (stationChecks st (if meltDone then reexamine stepped else stepped))) ∧
      ∃ t, exec (.modelStep st) s = .next t ∧
        t = { s with
          heats := t.heats, units := t.units, taps := t.taps, link := t.link
          linings := place s.linings st lining } ∧
        LinkKept s t ∧ OthersKept st s t ∧
        (t.record st).solid = (if 0 < r.solid then solid else 0) ∧
        (t.record st).liquid = (if 0 < r.solid then liquid else r.liquid) ∧
        (t.record st).tEst = tEst ∧ (t.record st).residual = rest ∧
        (t.record st).energy = min 4294967295 (r.energy + power * sr.eta / 1000) ∧
        (t.record st).lastDip = r.lastDip.map (fun d => { d with age := min 4294967295 (d.age + 1) }) ∧
        (t.record st).grade = r.grade ∧ (t.record st).heatNo = r.heatNo ∧ (t.record st).chargeNo = r.chargeNo ∧
        (t.heat st).history = (s.heat st).history ∧ (t.heat st).stepTimer = some 1000 ∧
        (t.heat st).aboveMax = decide ((s.gradeRec (r.grade.getD 0)).maximum < tEst) ∧
        (t.heat st).belowFloor = decide ((r.phase = .hold ∨ r.phase = .superheat) ∧
          tEst + 2 * (s.gradeRec (r.grade.getD 0)).holdBand < (s.gradeRec (r.grade.getD 0)).holdTarget) ∧
        (meltDone → (t.record st).liquidAge = some (aged.getD 0) ∧ ((t.phase st) = .hold ∨ (t.phase st) = .superheat)) ∧
        (¬ meltDone → (t.record st).liquidAge = aged))

/-- THE FLAGS OF A MODEL STEP, whatever the tap queue holds. OVERTEMP and UNDERTEMP are set where their condition has become true; the other
flags but CLAMPED stay as they are, and no flag is cleared. Where no ladle is assigned to the station, the phase changes by MELT DONE alone, to HOLD,
or on to SUPERHEAT, the dip mark clear, for a ladle that waited without a station; the dip mark otherwise stays. -/
def Obligations.ModelStepSetsFlagsAtCrossings : Prop :=
  ∀ (s t : State) (st : Station), s.resetHeld = false → (s.phase st).running = true → exec (.modelStep st) s = .next t →
    (hasFlag (t.record st).flags .overtemp = (hasFlag (s.record st).flags .overtemp ||
      ((t.heat st).aboveMax && !(s.heat st).aboveMax))) ∧
    (hasFlag (t.record st).flags .undertemp = (hasFlag (s.record st).flags .undertemp ||
      ((t.heat st).belowFloor && !(s.heat st).belowFloor))) ∧
    (∀ f, f ≠ .clamped → f ≠ .overtemp → f ≠ .undertemp → hasFlag (t.record st).flags f = hasFlag (s.record st).flags f) ∧
    (hasFlag (s.record st).flags .clamped = true → hasFlag (t.record st).flags .clamped = true) ∧
    ((∀ e ∈ s.taps.entries, e.station ≠ some st) →
      let meltDone := 0 < (s.record st).solid ∧ (t.record st).solid = 0
      (¬ meltDone → t.phase st = s.phase st) ∧
      (meltDone → t.phase st = .hold ∨
        (t.phase st = .superheat ∧ (t.record st).dipMark = false ∧
          ∃ d ∈ t.taps.entries, d.station = some st ∧ ∃ e ∈ s.taps.entries, e.ladle = d.ladle ∧ e.station = none)) ∧
      (¬ (meltDone ∧ t.phase st = .superheat) → (t.record st).dipMark = (s.record st).dipMark))

/-! ## Power units (chapter 4) -/

/-- UNIT MODE. A mode that is neither AUTO nor MANUAL is BAD_VALUE. Otherwise the UNIT record takes the mode, and AUTO has the unit evaluate its
scheduling, also when it was AUTO before. Nothing else changes. -/
def Obligations.UnitModeIsSet : Prop :=
  ∀ (s : State) (tag : Byte) (p : List Byte) (u : UnitId),
    let c := Instr.unitMode tag p
    let moded := fun m : UnitMode =>
      ({ s.popped with cfg := { s.cfg with units := place s.cfg.units u { s.unitRec u with mode := m } } } : State)
    Admitted s c p 2 → u8At p 0 = unitCode u →
    (1 < u8At p 1 → exec c s = .next (s.refused c .badValue)) ∧
    (u8At p 1 = 0 → exec c s = .next ((autoEvaluate u (moded .auto)).replied c .ok [])) ∧
    (u8At p 1 = 1 → exec c s = .next ((moded .manual).replied c .ok []))

/-- CHANGEOVER, judged in the order of R88. Taken, the unit goes to RAMP_DOWN toward the station: grant 0, decay timer 5 s, the position as it was. A
request for the active station is OK with no effect. Nothing else changes. -/
def Obligations.ChangeoverStartsRampDown : Prop :=
  ∀ (s : State) (tag : Byte) (p : List Byte) (u : UnitId) (st : Station),
    let c := Instr.changeover tag p
    let refusal : Option ReplyCode :=
      if ¬ ((s.layoutOf st).present = true ∧ (s.layoutOf st).unit = some u) then some .badValue
      else if (s.unitRec u).mode = .auto then some .wrongMode
      else if (s.unit u).state = .inhibited then some .inhibited
      else if (s.unit u).state ≠ .feeding then some .busy
      else if s.active u = some st then some .ok
      else if s.phase st = .off ∨ s.barred st = true then some .barred
      else if ¬ ∃ f, s.coilFlow st = some f ∧ (s.stationRec st).coilMinFlow ≤ f then some .notReady
      else none
    Admitted s c p 2 → u8At p 0 = unitCode u → u8At p 1 = stationCode st →
    (∀ code, refusal = some code → exec c s = .next (s.refused c code)) ∧
    (refusal = none → exec c s = .next (State.replied { s.popped with units := place s.units u { s.unit u with
      state := .rampDown st, decayTimer := some 5000, grant := 0, origin := (s.unit u).position } } c .ok []))

/-- TRIP RESET. It removes the latched causes whose condition is absent: RESTART always, UNIT_FAULT and PUMP with their line inactive, SWITCH with no
travel under way and contacts that agree, NO_DECAY with the measured power at or below the decay threshold; NO_LAYOUT stays. It releases every
LATCHED program of the unit or its stations whose last evaluation found nothing, the neighbours acting on each before the next (log entry 32).
The unit is re-judged. The reply
carries what is left of the effective trip set: OK if nothing, STILL_ACTIVE otherwise. -/
def Obligations.TripResetRemovesWhatIsGone : Prop :=
  ∀ (s : State) (tag : Byte) (p : List Byte) (u : UnitId),
    let c := Instr.tripReset tag p
    let old := (s.unit u).causes
    let cleared : State := { s.popped with units := place s.units u { s.unit u with causes :=
      { noLayout := old.noLayout, restart := false, unitFault := old.unitFault && look s.lines.unitFault u
        pump := old.pump && s.lines.pumpFault
        switch := old.switch && ((s.unit u).travel.isSome || (s.shown u).isNone)
        noDecay := old.noDecay && decide (s.rating u * 2 / 100 < (s.unit u).measured) } } }
    let released := fun (x : State) (w : Program) =>
      if (x.run w).state = .latched ∧ (x.run w).lastResult = some .neither ∧
          ((x.program w).target = .unit u ∨ ∃ st, (x.program w).target = .station st ∧ x.unitOf st = some u) then
        handMembership (x.program w).target (x.held w) .nothing (x.targetBarred (x.program w).target)
          { x with runs := place x.runs w { x.run w with
              state := .watch, direction := none, latchedDir := none, debounce := 0, stale := 0, applied := none } }
      else x
    let t := rejudge u (allPrograms.foldl released cleared)
    Admitted s c p 1 → u8At p 0 = unitCode u →
    exec c s = .next (t.replied c (if t.tripsEmpty u then .ok else .stillActive)
      (byteOf (t.unit u).causes.bits :: le 2 (programBits (t.tripPrograms u))))

/-- MEASURED POWER, DECAY TIMEOUT and TRAVEL TIMEOUT. A power word replaces the last one, at most 125 % of the rating; in RAMP_DOWN one of 2 % of
the rating or less ends the ramp: SWITCHING, travel timer started, position NONE, the unit re-judged. A decay timeout in RAMP_DOWN enters NO_DECAY
and INHIBITED. A travel timeout ends the travel with the position NONE and enters SWITCH; the unit becomes INHIBITED unless it is. Each ended
changeover is reported, a position NONE as the present value 0, which is the model's reading (log entry 18). A timeout whose timer does not run
does nothing; one whose timer runs is taken whatever it shows, the model's choice (log entry 3). The state drives the outputs: the setpoint is the
grant in FEEDING and 0 elsewhere, the inhibit line is released in FEEDING and RAMP_DOWN alone, and a changeover command line is driven toward the
target of a travel alone, A for the lower-numbered paired station and B for the other. -/
def Obligations.UnitTimersEndRampAndTravel : Prop :=
  (∀ (s : State) (u : UnitId), UnitFits s u →
    let q := s.unit u
    let outputs := fun (setpoint : Nat) (inhibit a b : Prop) => s.setpoint u = setpoint ∧ (s.inhibitLine u = true ↔ inhibit) ∧
      (s.commandLine u false = true ↔ a) ∧ (s.commandLine u true = true ↔ b)
    let at_ := fun (i : Nat) (st : Station) => (s.paired u)[i]? = some st
    (q.state = .feeding → outputs q.grant False False False) ∧
    (∀ st, q.state = .rampDown st → outputs 0 False False False) ∧
    (∀ st, q.state = .switching st → outputs 0 True (at_ 0 st) (at_ 1 st)) ∧
    (∀ st, q.state = .settling st → outputs 0 True False False) ∧
    (q.state = .inhibited → q.travel = none → outputs 0 True False False) ∧
    (q.state = .inhibited → ∀ v, q.travel = some v → outputs 0 True (at_ 0 v.target) (at_ 1 v.target)) ∧
    (∀ x y, at_ 0 x → at_ 1 y → x < y)) ∧
  ∀ (s : State) (u : UnitId), s.resetHeld = false →
    let set := fun (q : PowerUnit) => ({ s with units := place s.units u q } : State)
    (∀ kw : Nat,
      let w := min kw (s.rating u * 125 / 100)
      (∀ st, (s.unit u).state = .rampDown st → w ≤ s.rating u * 2 / 100 →
        exec (.measuredPower u kw) s = .next (nextFrame (rejudge u (set { s.unit u with
          measured := w, state := .switching st, decayTimer := none, position := none
          travel := some { target := st, timer := (s.unitRec u).travelTime * 1000 } })))) ∧
      ((∀ st, (s.unit u).state = .rampDown st → s.rating u * 2 / 100 < w) →
        exec (.measuredPower u kw) s = .next (nextFrame (set { s.unit u with measured := w })))) ∧
    ((∃ st, (s.unit u).state = .rampDown st) → exec (.decayTimeout u) s = .next (nextFrame (enterInhibited u (some .noDecay)
      (set { s.unit u with causes := { (s.unit u).causes with noDecay := true } })))) ∧
    ((∀ st, (s.unit u).state ≠ .rampDown st) → exec (.decayTimeout u) s = .next (nextFrame s)) ∧
    ((s.unit u).travel = none → exec (.travelTimeout u) s = .next (nextFrame s)) ∧
    ((s.unit u).travel ≠ none →
      let x := set { s.unit u with position := none, travel := none, causes := { (s.unit u).causes with switch := true } }
      ((s.unit u).state ≠ .inhibited → exec (.travelTimeout u) s = .next (nextFrame (enterInhibited u (some .switchFault) x))) ∧
      ((s.unit u).state = .inhibited → exec (.travelTimeout u) s = .next (nextFrame
        (x.notify .changeover (unitCode u) (some 2) (some (stationOrNone (s.unit u).origin)) (some 0)))))

/-- SWITCH CONTACTS. The levels are the field's. During a travel nothing happens until they show its target: then the travel is over and the
position is the target, and the unit settles for 2 s; one that was INHIBITED settles if nothing stands against it, and otherwise reports the
changeover abandoned. Outside a travel the position follows the contacts, SWITCH entering unless they show the position held before, and the unit
is re-judged, so a trip or an abandoned changeover that this brings is reported with the new position: the model's choice (log entry 37). A
station NONE in a notice is the present value 0 (log entry 18). An unused unit takes no notice. -/
def Obligations.ContactsGiveThePosition : Prop :=
  ∀ (s : State) (u : UnitId) (a b : Bool), s.resetHeld = false →
    let c := Instr.switchContacts u a b
    let x : State := { s with lines := { s.lines with contacts := place s.lines.contacts u { a, b } } }
    let set := fun (q : PowerUnit) => ({ x with units := place s.units u q } : State)
    let shows : Option Station := if a && !b then (s.paired u)[0]? else if b && !a then (s.paired u)[1]? else none
    (s.used u = false → exec c s = .next (nextFrame x)) ∧
    (s.used u = true →
      (∀ v, (s.unit u).travel = some v →
        (shows ≠ some v.target → exec c s = .next (nextFrame x)) ∧
        (shows = some v.target →
          let arrived : PowerUnit := { s.unit u with position := some v.target, travel := none }
          let settling : PowerUnit := { arrived with state := .settling v.target, settleTimer := some 2000 }
          ((s.unit u).state ≠ .inhibited → exec c s = .next (nextFrame (set settling))) ∧
          ((s.unit u).state = .inhibited → (set arrived).tripsEmpty u = true →
            exec c s = .next (nextFrame (reexamine ((set settling).notify .tripClear (unitCode u) (some (stationCode v.target))
              (some (min 65535 ((s.unit u).inhibitedMs / 1000) : Nat)) none)))) ∧
          ((s.unit u).state = .inhibited → (set arrived).tripsEmpty u = false →
            exec c s = .next (nextFrame ((set arrived).notify .changeover (unitCode u) (some 3)
              (some (stationOrNone (s.unit u).origin)) (some (stationCode v.target))))))) ∧
      ((s.unit u).travel = none →
        exec c s = .next (nextFrame (rejudge u (set { s.unit u with
          position := shows
          causes := { (s.unit u).causes with
            switch := (s.unit u).causes.switch || shows.isNone || shows != (s.unit u).position } })))))

/-- SETTLE EXPIRY and DWELL EXPIRY. At the end of SETTLING the unit is FEEDING at its position, feeding time and grant 0; the changeover is
reported COMPLETE and the unit evaluates. Once in each FEEDING, when the feeding time has reached the minimum dwell in force, the unit evaluates;
with a dwell of 0 the entry itself counts. An expiry behind a write that has raised the dwell, or behind a new entry into FEEDING, does not
happen. Outside those states nothing happens. That a settle expiry is taken whatever its timer shows is the model's choice (log entry 3). -/
def Obligations.SettleAndDwellLetTheUnitFeed : Prop :=
  ∀ (s : State) (u : UnitId), s.resetHeld = false →
    let set := fun (q : PowerUnit) => ({ s with units := place s.units u q } : State)
    ((∃ st, (s.unit u).state = .settling st) →
      exec (.settleExpiry u) s = .next (nextFrame (autoEvaluate u
        ((set { s.unit u with
          state := .feeding, grant := 0, feedingMs := 0, decayTimer := none, settleTimer := none
          dwellDone := decide (s.cfg.shop.minDwell = 0) }).notify .changeover (unitCode u) (some 0)
            (some (stationOrNone (s.unit u).origin)) (some (stationOrNone (s.unit u).position)))))) ∧
    ((∀ st, (s.unit u).state ≠ .settling st) → exec (.settleExpiry u) s = .next (nextFrame s)) ∧
    ((s.unit u).state = .feeding → (s.unit u).dwellDone = false → s.cfg.shop.minDwell ≤ min 4294967295 ((s.unit u).feedingMs / 1000) →
      exec (.dwellExpiry u) s = .next (nextFrame (autoEvaluate u (set { s.unit u with dwellDone := true })))) ∧
    ((s.unit u).state ≠ .feeding ∨ (s.unit u).dwellDone = true ∨ min 4294967295 ((s.unit u).feedingMs / 1000) < s.cfg.shop.minDwell →
      exec (.dwellExpiry u) s = .next (nextFrame s))

/-- THE FAULT LINES. A unit's fault line becoming active enters UNIT_FAULT, and the pump-fault line PUMP on both units, and the units are
re-judged; the pump fault then opens the valve of every station that holds metal. A line becoming inactive removes no cause and closes no valve.
The order U1 before U2 before the valves is log entry 13. -/
def Obligations.FaultLinesLatchTheirCauses : Prop :=
  ∀ s : State, s.resetHeld = false →
    (∀ u : UnitId,
      exec (.unitFaultActive u) s = .next (nextFrame (rejudge u { s with
        lines := { s.lines with unitFault := place s.lines.unitFault u true }
        units := place s.units u { s.unit u with causes := { (s.unit u).causes with unitFault := true } } })) ∧
      exec (.unitFaultInactive u) s =
        .next (nextFrame { s with lines := { s.lines with unitFault := place s.lines.unitFault u false } })) ∧
    exec .pumpFaultActive s = .next (nextFrame
      (allStations.foldl (fun x st => if (x.phase st).holdsMetal then openValve 17 x st else x)
        (rejudge 1 (rejudge 0 { s with
          lines := { s.lines with pumpFault := true }
          units := overAll (fun q => { q with causes := { q.causes with pump := true } }) s.units })))) ∧
    exec .pumpFaultInactive s = .next (nextFrame { s with lines := { s.lines with pumpFault := false } })

/-! ## The power allocator (chapter 5) -/

/-- INTERVAL SYNC. With demand sync off it is WRONG_MODE. Otherwise the reply carries the energy and the seconds of the interval, which begins afresh;
a sync that was lost is regained, with a DEMAND notice. Nothing else changes. -/
def Obligations.IntervalSyncRestartsTheInterval : Prop :=
  ∀ (s : State) (tag : Byte) (p : List Byte),
    let c := Instr.intervalSync tag p
    let afresh : State := { s.popped with alloc := { s.alloc with eUsed := 0, t := 0, syncLost := false } }
    let data := le 4 s.alloc.eUsed ++ le 2 s.alloc.t
    Admitted s c p 0 →
    (s.cfg.shop.demandSync = false → exec c s = .next (s.refused c .wrongMode)) ∧
    (s.cfg.shop.demandSync = true → s.alloc.syncLost = false → exec c s = .next (afresh.replied c .ok data)) ∧
    (s.cfg.shop.demandSync = true → s.alloc.syncLost = true →
      exec c s = .next ((afresh.notify .demand 0 (some 1) (some s.alloc.eUsed) (some s.alloc.t)).replied c .ok data))

/-- ALLOCATION PASS, its account and its limits. The interval takes the second's energy of both units and the base load, then its boundary is judged:
with the sync in force the sync is lost 60 s after the interval's length, otherwise the interval ends at its length. P_dem follows from the contract
energy left for the time left, 60 s at least; P_cool from the supply temperature. Each finished grant is what the unit receives rounded down to 10 kW,
or 0 where that is below P_min (the flush mark), and 0 outside FEEDING. A lost sync is reported in a DEMAND notice with the interval's energy and
seconds; the first flush of a run raises UNDERRUN. No record changes but for UNDERRUN, and nothing else changes. U1 before U2 is log entry 33. -/
def Obligations.AllocationPassKeepsTheAccount : Prop :=
  ∀ s : State, s.resetHeld = false →
    let shop := s.cfg.shop
    let used := s.alloc.eUsed + ((s.unit 0).measured + (s.unit 1).measured + shop.baseLoad)
    let elapsed := s.alloc.t + 1
    let synced := shop.demandSync = true ∧ s.alloc.syncLost = false
    let lost := synced ∧ shop.interval + 60 ≤ elapsed
    let ended := lost ∨ (¬ synced ∧ shop.interval ≤ elapsed)
    ∃ (t : State) (limit : Nat), exec .allocationPass s = .next t ∧ limit = min shop.lInst (min t.alloc.pDem t.alloc.pCool) ∧
      t = { s with heats := t.heats, units := t.units, alloc := t.alloc, link := t.link } ∧ LinkKept s t ∧
      (let told := if lost then s.notify .demand 0 (some 0) (some used) (some elapsed) else s
       let raised := allUnits.foldl (fun x u => match s.active u with
         | some a => if look t.alloc.flushMark u = true ∧ look s.alloc.flushMark u = false then raise .underrun a x else x
         | none => x) told
       t = nextFrame { raised with units := t.units, alloc := t.alloc }) ∧
      (ended → t.alloc.eUsed = 0 ∧ t.alloc.t = 0) ∧ (¬ ended → t.alloc.eUsed = used ∧ t.alloc.t = elapsed) ∧
      (lost → t.alloc.syncLost = true) ∧ (¬ lost → t.alloc.syncLost = s.alloc.syncLost) ∧
      t.alloc.passTimer = 1000 ∧
      (shop.contract = 0 → t.alloc.pDem = shop.lInst) ∧
      (shop.contract ≠ 0 → (t.alloc.pDem : Int) = min (shop.lInst : Int) (max
        (Int.tdiv ((shop.contract * shop.interval : Nat) - (t.alloc.eUsed : Int)) (max ((shop.interval : Int) - t.alloc.t) 60) -
          shop.baseLoad) shop.holdReserve)) ∧
      (s.supply = none → t.alloc.pCool = shop.lInst / 2) ∧
      (∀ v, s.supply = some v →
        (v ≤ shop.coolStart → t.alloc.pCool = shop.lInst) ∧
        (shop.coolStart < v → v < shop.coolStop → (t.alloc.pCool : Int) =
          Int.tdiv ((shop.lInst : Int) * (shop.coolStop - v)) ((shop.coolStop : Int) - shop.coolStart)) ∧
        (shop.coolStart < v → shop.coolStop ≤ v → t.alloc.pCool = 0)) ∧
      (∀ u, t.unit u = { s.unit u with grant :=
        if (s.unit u).state = .feeding ∧ s.pMin u ≤ s.share limit u / 10 * 10 then s.share limit u / 10 * 10 else 0 }) ∧
      (∀ u, look t.alloc.flushMark u = decide (0 < s.share limit u / 10 * 10 ∧ s.share limit u / 10 * 10 < s.pMin u)) ∧
      (∀ st, t.heat st = { s.heat st with record := { s.record st with flags := (t.record st).flags } }) ∧
      (∀ st f, hasFlag (t.record st).flags f = (hasFlag (s.record st).flags f || (decide (f = .underrun) &&
        (s.phase st).running && allUnits.any (fun u => decide (s.active u = some st) &&
          look t.alloc.flushMark u && !look s.alloc.flushMark u))))

/-- WHAT A UNIT RECEIVES (R93, R94) of a shop limit: a FEEDING unit whose station has a class asks for its request, at most its rating, its grant or
P_min plus the ramp rate, and the foldback cap. Level 1 (URGENT, KEEP) is served before 2 (TAP) and 3 (MELT). A level that fits the remainder is
served in full, one that does not shares it in proportion to what its units ask. The two finished grants together never exceed the shop limit, and
each is 0 or a multiple of 10 kW from P_min to the rating. -/
def Obligations.GrantsStayWithinTheShopLimit : Prop :=
  (∀ (s : State) (limit : Nat) (u : UnitId),
    let level : NeedClass → Nat := fun k => match k with
      | .urgent | .keep => 1
      | .tap => 2
      | .melt => 3
      | .idle => 0
    let need : UnitId → NeedClass := fun v => if (s.unit v).state = .feeding then
        match s.active v with | some a => (s.heat a).need | none => .idle
      else .idle
    let asks : UnitId → Nat := fun v => match s.active v with
      | some a =>
        let ramp := (if (s.unit v).grant = 0 then s.pMin v else (s.unit v).grant) + (s.unitRec v).rampRate
        ((s.foldbacks (.unit v) ++ s.foldbacks (.station a)).map (fun w => s.rating v * (s.program w).percent / 100 / 10 * 10)).foldl min
          (min (s.heat a).request (min (s.rating v) ramp))
      | none => 0
    let sum := fun l : Nat => (allUnits.map (fun v => if need v ≠ .idle ∧ level (need v) = l then asks v else 0)).sum
    let before := ((List.range (level (need u))).map sum).sum
    let left := limit - before
    (need u = .idle → s.share limit u = 0) ∧
    (need u ≠ .idle → sum (level (need u)) ≤ left → s.share limit u = asks u) ∧
    (need u ≠ .idle → left < sum (level (need u)) → s.share limit u = left * asks u / sum (level (need u)))) ∧
  (∀ s t : State, s.resetHeld = false → exec .allocationPass s = .next t →
    (t.unit 0).grant + (t.unit 1).grant ≤ min s.cfg.shop.lInst (min t.alloc.pDem t.alloc.pCool) ∧
    (∀ u, (t.unit u).grant = 0 ∨ ((t.unit u).grant % 10 = 0 ∧ s.pMin u ≤ (t.unit u).grant ∧ (t.unit u).grant ≤ s.rating u)))

/-! ## The cooling monitor (chapter 6) -/

/-- CHANNELS AND PULSES. An arrival replaces its channel's reading, INVALID unless it lies within −20.0 to 120.0 °C, and restarts the channel's
timer of 2 s; an expiry makes the reading INVALID, and does not happen behind an arrival that has restarted the timer (log entry 3). A pulse adds
1 to its circuit's count, up to 65,535. The combined value of a pair is the larger of its readings, the backup's alone when the primary is
INVALID, and INVALID when the backup is. Nothing else changes. -/
def Obligations.ArrivalsAndPulsesAreTaken : Prop :=
  (∀ s : State, s.resetHeld = false →
    (∀ (k : Channel) (v : Option Int),
      exec (.channelArrival k v) s = .next (nextFrame { s with
        channels := place s.channels k
          { reading := v.bind (fun x => if -200 ≤ x ∧ x ≤ 1200 then some x else none), timer := some 2000 } }) ∧
      ((look s.channels k).timer = some 0 →
        exec (.channelTimeout k) s = .next (nextFrame { s with channels := place s.channels k { reading := none, timer := none } })) ∧
      ((look s.channels k).timer ≠ some 0 → exec (.channelTimeout k) s = .next (nextFrame s))) ∧
    (∀ k : Circuit, exec (.flowPulse k) s = .next (nextFrame { s with
      circuits := place s.circuits k { look s.circuits k with pulses := min 65535 ((look s.circuits k).pulses + 1) } }))) ∧
  (∀ p b : Int, combined (some p) (some b) = some (max p b) ∧ combined none (some b) = some b ∧
    combined (some p) none = none ∧ combined none none = none)

/-- CIRCUIT GATE. The count starts afresh. An evaluated circuit takes flow, delta, heat and (a coil circuit) excess from the count and the
readings as they stand, each INVALID where its inputs are; any other circuit reads INVALID. A coil circuit whose valve is OPEN adds its draw to
the reservoir account, LOW and EXHAUSTED each reported once; then the station's unit evaluates if the station is its other one. Nothing else
changes. -/
def Obligations.GateMeasuresTheCircuit : Prop :=
  ∀ (s : State) (k : Circuit), s.resetHeld = false →
    let x := look s.circuits k
    let rate := look s.cfg.circuits k
    let flow : Option Nat := if 20000 < x.pulses then none else some (x.pulses * 30000 / rate)
    let returned : Option Int := if h : k.val < 4
      then combined (s.reading ⟨k.val + 2, by omega⟩) (s.reading ⟨k.val + 12, by omega⟩) else s.reading ⟨k.val + 2, by omega⟩
    let delta : Option Int := match returned, combined (s.reading 0) (s.reading 1) with
      | some r, some t => some (r - t)
      | _, _ => none
    let heat : Option Nat := match flow, delta with
      | some f, some d => some (f * (max d 0).toNat * 4186 / 6000000)
      | _, _ => none
    let power := fun st : Station => match s.unitOf st with
      | some u => if s.active u = some st then (s.unit u).measured else 0
      | none => 0
    let excess : Option Int := if h : k.val < 4
      then heat.map (fun w => (w : Int) - (power ⟨k.val, h⟩ * (1000 - (s.stationRec ⟨k.val, h⟩).eta) / 1000 : Nat)) else none
    let gated : CircuitSt := if x.evaluated
      then { pulses := 0, gateTimer := 2000, evaluated := true, flow, delta, heat, excess }
      else { pulses := 0, gateTimer := 2000, evaluated := false, flow := none, delta := none, heat := none, excess := none }
    let measured : State := { s with circuits := place s.circuits k gated }
    let draw : Nat := match gated.flow with
      | some f => f * 2 / 60
      | none => 20000 * 30000 / rate * 2 / 60
    let drawn := min 4294967295 (s.reservoir.drawn + draw)
    let volume := s.cfg.shop.reservoir
    let isLow := volume * 8 ≤ drawn
    let isEmpty := volume * 10 ≤ drawn
    let account : State := { measured with reservoir :=
      { drawn, lowMark := s.reservoir.lowMark || decide isLow, exhaustedMark := s.reservoir.exhaustedMark || decide isEmpty } }
    let warned := if isLow ∧ s.reservoir.lowMark = false then account.notify .reservoir 0 (some 0) (some drawn) (some volume) else account
    let done := if isEmpty ∧ s.reservoir.exhaustedMark = false
      then warned.notify .reservoir 0 (some 1) (some drawn) (some volume) else warned
    (4 ≤ k.val → exec (.circuitGate k) s = .next (nextFrame measured)) ∧
    (∀ st : Station, st.val = k.val →
      let y := if look s.valves st then done else measured
      (∀ u, s.unitOf st = some u → s.active u ≠ some st → exec (.circuitGate k) s = .next (nextFrame (autoEvaluate u y))) ∧
      ((s.unitOf st = none ∨ ∃ u, s.unitOf st = some u ∧ s.active u = some st) → exec (.circuitGate k) s = .next (nextFrame y)))

/-- EW CLOSE. With the valve OPEN and an emergency standing it is STILL_ACTIVE, and nothing changes. Otherwise an OPEN valve closes with its notice
(cause HOST), and a refill zeroes the account and its marks if no valve is then OPEN. The reply gives the valve and the drawn volume after the
request. A refilled indication that is no yes or no is BAD_VALUE: the model's reading (log entry 19). -/
def Obligations.EmergencyWaterIsClosed : Prop :=
  ∀ (s : State) (tag : Byte) (p : List Byte) (st : Station),
    let c := Instr.ewClose tag p
    let emergency := s.lines.pumpFault = true ∨ ∃ w : Program, (s.run w).applied.map Prod.fst = some .emergency ∧
      ((s.program w).target = .station st ∨ ∃ u, s.unitOf st = some u ∧ (s.program w).target = .unit u)
    let valves := place s.valves st false
    let refilled := u8At p 1 = 1 ∧ ∀ o, look valves o = false
    let reservoir : Reservoir := { drawn := 0, lowMark := false, exhaustedMark := false }
    let closed := ({ s.popped with valves := valves } : State).notify .emergencyWater (stationCode st) (some 1) (some 18)
      (some s.reservoir.drawn)
    let x := if look s.valves st then closed else s.popped
    Admitted s c p 2 → u8At p 0 = stationCode st → s.phase st ≠ .off →
    (1 < u8At p 1 → exec c s = .next (s.refused c .badValue)) ∧
    (u8At p 1 ≤ 1 → look s.valves st = true → emergency →
      exec c s = .next (s.popped.replied c .stillActive (1 :: le 4 s.reservoir.drawn))) ∧
    (u8At p 1 ≤ 1 → look s.valves st = false ∨ ¬ emergency →
      (refilled → exec c s = .next (State.replied { x with reservoir := reservoir } c .ok (0 :: le 4 0))) ∧
      (¬ refilled → exec c s = .next (x.replied c .ok (0 :: le 4 s.reservoir.drawn))))

/-! ## The watch engine (chapter 7) -/

/-- PROGRAM EVALUATION of a live program: the period timer restarts, the input is read, and the run state moves as R132 to R137 give: INVALID
counts toward STALE and ends a COUNT; a candidate counts toward ACTIVE at the debounce; a return past the threshold by the hysteresis counts
toward clearing, into LATCHED or WATCH by the clear mode; STALE is left at the first valid value, which is judged at once. What clears, enters and
is applied is handed on in the order of R138: the CLEARED notice (log entry 10), the set membership, the valves, the WATER occurrences (in station
order, log entry 36), the WATCH notice. A program that is not live is not evaluated, nor one whose period timer a rewrite has restarted (log entry
3). -/
def Obligations.EvaluationMovesTheProgram : Prop :=
  ∀ (s : State) (w : Program), s.resetHeld = false →
    let r := s.program w
    let old := s.run w
    let circuit := look s.circuits (circuitOfIndex r.index)
    let metal := s.record (stationOfIndex r.index)
    let input : Option Int := match r.quantity with
      | .flow => circuit.flow.map (fun n => (n : Int))
      | .returned => s.returnOf (circuitOfIndex r.index)
      | .delta => circuit.delta
      | .heat => circuit.heat.map (fun n => (n : Int))
      | .excess => (look s.circuits (coilOf (stationOfIndex r.index))).excess
      | .supply => combined (s.reading 0) (s.reading 1)
      | .bath => if metal.phase.running = true ∧ 0 < metal.liquid then some metal.tEst else none
    let ownAction : Dir → Action := fun d => match d with | .high => r.onHigh | .low => r.onLow
    let source : Dir → Source := fun d => match d with | .high => .high | .low => .low
    let event : Dir → Nat := fun d => match d with | .high => 0 | .low => 1
    -- the action held once another is applied
    let holding : Action → Source → Option (Action × Source) → Option (Action × Source) := fun a from_ h => match h with
      | none => if a = .nothing then none else some (a, from_)
      | some (b, src) => if b.severity < a.severity then some (a, from_) else some (b, src)
    let watch : RunState → RunState := fun x => { x with state := .watch, direction := none, latchedDir := none, debounce := 0, applied := none }
    let latch : Option Dir → RunState → RunState := fun d x => { x with state := .latched, direction := d, latchedDir := d, debounce := 0 }
    let stopCount : RunState → RunState := fun x => if x.applied.isSome then latch x.latchedDir x else watch x
    let active : Dir → RunState → RunState := fun d x =>
      { x with state := .active, direction := some d, latchedDir := none, lastConfirmed := some d, debounce := 0
               applied := holding (ownAction d) (source d) x.applied
               positive := x.positive || decide (d = .high), negative := x.negative || decide (d = .low) }
    let count : Dir → Nat → Option Action → RunState → Handed := fun d n cleared x =>
      if r.debounce ≤ n then { run := active d x, cleared, entry := some (event d, ownAction d) }
      else { run := { x with state := .count, direction := some d, debounce := n }, cleared, entry := none }
    let idle : Option Dir → Option Action → RunState → Handed := fun d cleared x => match d with
      | some d => count d 1 cleared x
      | none => { run := x, cleared, entry := none }
    let invalid : Handed :=
      let n := min r.staleLimit (old.stale + 1)
      let x : RunState := { old with periodTimer := some r.period, stale := n, lastResult := some .invalid }
      if old.state ≠ .stale ∧ r.staleLimit ≤ n then
        { run := { x with state := .stale, direction := none, latchedDir := none, debounce := 0
                          applied := holding r.onStale .stale old.applied }
          cleared := none, entry := some (2, r.onStale) }
      else { run := if old.state = .count then stopCount x else { x with debounce := 0 }, cleared := none, entry := none }
    let valid : Int → Handed := fun v =>
      let found : Option Dir :=
        if r.high ≠ 32767 ∧ r.high < v then some .high else if r.low ≠ -32768 ∧ v < r.low then some .low else none
      let result : Finding := match found with | some .high => .high | some .low => .low | none => .neither
      let x : RunState := { old with periodTimer := some r.period, stale := 0, lastResult := some result }
      match old.state with
      | .off => { run := x, cleared := none, entry := none }
      | .watch | .latched => idle found none x
      | .count => match found with
        | some d => count d (if old.direction = some d then old.debounce + 1 else 1) none x
        | none => { run := stopCount x, cleared := none, entry := none }
      | .active =>
        let d := old.direction.getD .high
        let back : Bool := match d with
          | .high => decide (v ≤ r.high - r.hysteresis)
          | .low => decide (r.low + r.hysteresis ≤ v)
        if back = false then { run := { x with debounce := 0 }, cleared := none, entry := none }
        else if old.debounce + 1 < r.debounce then { run := { x with debounce := old.debounce + 1 }, cleared := none, entry := none }
        else if r.clear = .latch ∧ old.applied ≠ none then { run := latch (some d) x, cleared := none, entry := none }
        else { run := watch x, cleared := old.applied.map Prod.fst, entry := none }
      | .stale =>
        match r.clear, old.applied with
        | .latch, some (_, src) =>
          let d : Dir := match src with
            | .high => .high
            | .low => .low
            | .stale => old.lastConfirmed.getD .high
          idle found none (latch (some d) x)
        | _, _ => idle found (old.applied.map Prod.fst) (watch x)
    let h : Handed := match input with
      | some v => valid v
      | none => invalid
    let held : RunState → Action := fun x => match x.applied with | some (a, _) => a | none => .nothing
    let stored : State := { s with runs := place s.runs w h.run }
    let told := match h.cleared with
      | some a => stored.notify .watch (w.val + 1) (some 3) (some a.code) input
      | none => stored
    let moved := handMembership r.target (held old) (held h.run) (s.targetBarred r.target) told
    let stations : State → List Station := fun x => match r.target with
      | .unit u => x.paired u
      | .station st => [st]
    (s.live w = false ∨ old.periodTimer ≠ some 0 → exec (.programEvaluation w) s = .next (nextFrame s)) ∧
    (s.live w = true → old.periodTimer = some 0 →
      (h.entry = none → exec (.programEvaluation w) s = .next (nextFrame moved)) ∧
      (∀ n a, h.entry = some (n, a) → ∃ opened wet : State,
        opened = (if a = .emergency then
          (stations moved).foldl (fun x st => if (x.phase st).holdsMetal then openValve (w.val + 1) x st else x) moved else moved) ∧
        wet = (if a = .trip ∨ a = .emergency then
          (stations moved).foldl (fun x st => if (x.phase st).holdsMetal then raise .water st x else x) opened else opened) ∧
        exec (.programEvaluation w) s = .next (nextFrame
          (if a = .nothing then wet else wet.notify .watch (w.val + 1) (some n) (some a.code) input))))

/-! ## The tap queue (chapter 8) -/

/-- LADLE REQUEST, judged in the order of R148: fields in range, no entry with that id, a queue not full. Taken, the entry joins the tail with no
station and no permit, and the queue is re-examined. Its target is the grade's tap target plus the offset, kept within hold target + hold band +
tap window to grade maximum − tap window; the reply is that target, CLAMPED if the bounds moved it. -/
def Obligations.LadleJoinsTheQueue : Prop :=
  ∀ (s : State) (tag : Byte) (p : List Byte),
    let c := Instr.ladleRequest tag p
    let ladle := u8At p 0
    let mass := u16At p 2
    let given := s16At p 4
    let offset : Int := if given = -32768 then 0 else given
    let bad := ladle < 1 ∨ 250 < ladle ∨ 15 < u8At p 1 ∨ mass < 100 ∨
      (∀ st, (s.layoutOf st).present = true → s.capacity st < mass) ∨ (given ≠ -32768 ∧ (given < -500 ∨ 500 < given))
    Admitted s c p 6 →
    (bad → exec c s = .next (s.refused c .badValue)) ∧
    (¬ bad → (∃ e ∈ s.taps.entries, e.ladle = ladle) → exec c s = .next (s.refused c .duplicate)) ∧
    (¬ bad → (∀ e ∈ s.taps.entries, e.ladle ≠ ladle) → 8 ≤ s.taps.entries.length → exec c s = .next (s.refused c .full)) ∧
    (¬ bad → (∀ e ∈ s.taps.entries, e.ladle ≠ ladle) → s.taps.entries.length < 8 → ∀ g : Grade, g.val = u8At p 1 →
      let r := s.gradeRec g
      let wanted : Int := r.tapTarget + offset
      let target := min (r.maximum - r.tapWindow) (max (r.holdTarget + r.holdBand + r.tapWindow) wanted.toNat)
      exec c s = .next ((reexamine { s.popped with taps := { s.taps with entries := s.taps.entries ++
          [{ ladle, grade := g, mass, target, station := none, permit := none, expiries := 0, dipCall := none }] } }).replied
        c (if (target : Int) = wanted then .ok else .clamped) (le 2 target)))

/-- LADLE CANCEL, TAP START and PERMIT EXPIRY. CANCEL takes an entry without a started permit out of the queue (NOT_FOUND, WRONG_PHASE otherwise),
its station back to HOLD. START starts the entry's permit, its station in TAPPING; a second start changes nothing; each answers the station. An
expiry of a permit not started takes it away and counts it; at the limit the entry is dropped, its station back in HOLD. What changes a station's
phase has the queue re-examined. An expiry of a permit that is gone or started does nothing. -/
def Obligations.PermitsStartAndExpire : Prop :=
  ∀ s : State,
    (∀ (tag : Byte) (p : List Byte), Admitted s (.ladleCancel tag p) p 1 → (∀ d ∈ s.taps.entries, d.ladle ≠ u8At p 0) →
      exec (.ladleCancel tag p) s = .next (s.refused (.ladleCancel tag p) .notFound)) ∧
    (∀ (tag : Byte) (p : List Byte), Admitted s (.tapStart tag p) p 1 → (∀ d ∈ s.taps.entries, d.permit.map Permit.id ≠ some (u8At p 0)) →
      exec (.tapStart tag p) s = .next (s.refused (.tapStart tag p) .notFound)) ∧
    (s.resetHeld = false → ∀ id, (∀ d ∈ s.taps.entries, ∀ q, d.permit = some q → q.id = id → q.started = true) →
      exec (.permitExpiry id) s = .next (nextFrame s)) ∧
    (∀ (before : List QueueEntry) (e : QueueEntry) (after : List QueueEntry), s.taps.entries = before ++ e :: after →
      let queued := fun (x : State) (es : List QueueEntry) => ({ x with taps := { s.taps with entries := es } } : State)
      let freed := fun x : State => match e.station with
        | some st => recompute st { x with heats := place s.heats st { s.heat st with record := { s.record st with phase := .hold } } }
        | none => x
      (∀ (tag : Byte) (p : List Byte), Admitted s (.ladleCancel tag p) p 1 → u8At p 0 = e.ladle → (∀ d ∈ before, d.ladle ≠ e.ladle) →
        let c := Instr.ladleCancel tag p
        ((∃ q, e.permit = some q ∧ q.started = true) → exec c s = .next (s.refused c .wrongPhase)) ∧
        ((∀ q, e.permit = some q → q.started = false) →
          exec c s = .next ((reexamine (freed (queued s.popped (before ++ after)))).replied c .ok []))) ∧
      (∀ q : Permit, e.permit = some q → (∀ d ∈ before, d.permit.map Permit.id ≠ some q.id) →
        (∀ (tag : Byte) (p : List Byte), Admitted s (.tapStart tag p) p 1 → u8At p 0 = q.id →
          let c := Instr.tapStart tag p
          let data := [byteOf (stationOrNone e.station)]
          let started := queued s.popped (before ++ { e with permit := some { q with started := true } } :: after)
          (q.started = true → exec c s = .next (s.popped.replied c .ok data)) ∧
          (q.started = false → (∀ st, e.station = some st → exec c s = .next ((reexamine (recompute st { started with
              heats := place s.heats st { s.heat st with record := { s.record st with phase := .tapping } } })).replied c .ok data)) ∧
            (e.station = none → exec c s = .next (started.replied c .ok data)))) ∧
        (s.resetHeld = false → q.started = false →
          let n := e.expiries + 1
          let station : Option Int := some (stationOrNone e.station)
          (n < s.cfg.shop.expiryLimit → exec (.permitExpiry q.id) s = .next (nextFrame
            ((queued s (before ++ { e with permit := none, expiries := n } :: after)).notify .permitExpired e.ladle (some q.id) station (some n)))) ∧
          (s.cfg.shop.expiryLimit ≤ n → exec (.permitExpiry q.id) s = .next (nextFrame (reexamine
            ((freed (queued s (before ++ after))).notify .ladleDropped e.ladle station (some n) (some e.mass))))))))

/-- TAP DONE and TAP ABORT of a started permit (NOT_FOUND otherwise). The liquid falls by the poured mass, which is limited to it (CLAMPED), the
residual in proportion, and the outflow grows. DONE takes the entry out; a tap temperature, if carried (BAD_VALUE out of range) and liquid is
left, is the new estimate and last dip; the station is in HOLD, or EMPTY when its liquid is gone. ABORT leaves the rest of the ladle's mass
without permit: the station is in SUPERHEAT again without dip mark, or EMPTY and unassigned; with nothing left to pour it ends as DONE does. Both
re-examine. That an entry left unassigned keeps the time of its dip call is log entry 25. -/
def Obligations.TapsPourIntoLadles : Prop :=
  (∀ (s : State) (tag : Byte) (p : List Byte), (∀ d ∈ s.taps.entries, ∀ z, d.permit = some z → z.started = true → z.id ≠ u8At p 0) →
    (Admitted s (.tapDone tag p) p 5 → exec (.tapDone tag p) s = .next (s.refused (.tapDone tag p) .notFound)) ∧
    (Admitted s (.tapAbort tag p) p 3 → exec (.tapAbort tag p) s = .next (s.refused (.tapAbort tag p) .notFound))) ∧
  ∀ (s : State) (before : List QueueEntry) (e : QueueEntry) (after : List QueueEntry) (q : Permit) (st : Station),
    s.taps.entries = before ++ e :: after → e.permit = some q → q.started = true → e.station = some st →
    (∀ d ∈ before, ∀ z, d.permit = some z → z.id = q.id → z.started = false) →
    ∀ (tag : Byte) (p : List Byte), u8At p 0 = q.id →
    let r := s.record st
    let mass := u16At p 1
    let poured := min mass r.liquid
    let left := r.liquid - poured
    let residual := if poured < r.liquid then Int.tdiv (r.residual * left) r.liquid else r.residual
    let code : ReplyCode := if poured < mass then .clamped else .ok
    let data := le 2 poured ++ le 2 left
    let drained : HeatRec := { r with liquid := left, residual := residual }
    let x := fun (h : StationHeat) (es : List QueueEntry) =>
      ({ s.popped with heats := place s.heats st h, taps := { s.taps with entries := es }, outflow := s.outflow + poured } : State)
    let ended := fun (y : State) =>
      if left = 0 then enterEmpty st y
      else recompute st { y with heats := place y.heats st { y.heat st with record := { y.record st with phase := .hold } } }
    let plain : StationHeat := { s.heat st with record := drained }
    (Admitted s (.tapDone tag p) p 5 →
      let c := Instr.tapDone tag p
      let temp := u16At p 3
      (temp ≠ 0 ∧ (temp < 10000 ∨ 17500 < temp) → exec c s = .next (s.refused c .badValue)) ∧
      (temp = 0 → exec c s = .next ((reexamine (ended (x plain (before ++ after)))).replied c code data)) ∧
      (10000 ≤ temp → temp ≤ 17500 → left = 0 →
        exec c s = .next ((reexamine (ended (x plain (before ++ after)))).replied c code data)) ∧
      (10000 ≤ temp → temp ≤ 17500 → 0 < left →
        let kept := min 16500 (max 11000 temp)
        let entry : DipEntry :=
          { temp, estimate := r.tEst, residual := (temp : Int) - r.tEst, origin := .tap, phase := r.phase, time := s.clockMs / 1000 }
        let longer := (s.heat st).history ++ [entry]
        let y := fun es : List QueueEntry => x { s.heat st with
          record := { drained with tEst := kept, residual := 0, lastDip := some { temp, age := 0 } }
          history := longer.drop (longer.length - 8) } es
        (kept = temp → exec c s = .next ((reexamine (ended (y (before ++ after)))).replied c code data)) ∧
        (kept ≠ temp → exec c s = .next ((reexamine (ended { raise .clamped st (y s.taps.entries) with
          taps := { s.taps with entries := before ++ after } })).replied c code data)))) ∧
    (Admitted s (.tapAbort tag p) p 3 →
      let c := Instr.tapAbort tag p
      let rest := e.mass - poured
      let answer := data ++ le 2 rest
      (rest = 0 → exec c s = .next ((reexamine (ended (x plain (before ++ after)))).replied c code answer)) ∧
      (0 < rest → left = 0 → exec c s = .next ((reexamine (enterEmpty st
        (x plain (before ++ { e with mass := rest, permit := none, station := none } :: after)))).replied c code answer)) ∧
      (0 < rest → 0 < left → exec c s = .next ((reexamine (recompute st
        (x { s.heat st with record := { drained with phase := .superheat, dipMark := false } }
          (before ++ { e with mass := rest, permit := none } :: after)))).replied c code answer)))

/-! ## What the blocks do for one another -/

/-- REQUEST, CLASS AND AUTO SCHEDULING. A recomputation stores the power request and need class of R35 from the phase, with the balance power of
R34, the request at most the rating; a change of class has the station's unit evaluate. The target and the objective follow from the phase: hold
target and band of the grade in MELT and HOLD, the ladle's target with the grade's tap window in SUPERHEAT and TAPPING, none elsewhere. A heat
without a grade reads the record of G0, and a SUPERHEAT station without an entry asks for 0: the model's choice (log entry 24); so is that L_ref
and eta are read as the STATION record stands, also between a write and the next model step (log entry 29). An evaluation moves a FEEDING unit in
AUTO to its other station when that one's class is higher, it is enabled, not OFF, unbarred and sufficiently cooled, and the dwell is over, the
active class NONE or the other's URGENT: RAMP_DOWN, grant 0, decay timer 5 s. Nothing else changes. -/
def Obligations.RequestsFollowTheBath : Prop :=
  (∀ (s : State) (st : Station),
    let g := s.gradeRec ((s.record st).grade.getD 0)
    let phase := s.phase st
    (phase = .melt ∨ phase = .hold → phase.target = .hold ∧ s.objective st = some { temp := g.holdTarget, band := g.holdBand }) ∧
    (phase = .superheat ∨ phase = .tapping → phase.target = .tap ∧
      (∀ before e after, s.taps.entries = before ++ e :: after → e.station = some st → (∀ d ∈ before, d.station ≠ some st) →
        s.objective st = some { temp := e.target, band := g.tapWindow })) ∧
    (phase = .off ∨ phase = .unknown ∨ phase = .empty → phase.target = .nothing ∧ s.objective st = none)) ∧
  (∀ (s : State) (st : Station),
    let r := s.record st
    let sr := s.stationRec st
    let g := s.gradeRec (r.grade.getD 0)
    let rating := match s.unitOf st with | some u => look s.cfg.layout.ratings u | none => 0
    let loss := if r.tEst ≤ 250 then 0 else sr.lRef * (r.tEst - 250) * 1000 / 14250
    let balance := if r.liquid = 0 then 0 else (loss + (sr.eta - 1)) / sr.eta
    let t := r.tEst
    let asked : Nat × NeedClass := match r.phase with
      | .melt => (if s.link.silent then balance else rating, .melt)
      | .hold =>
        if t + g.holdBand ≤ g.holdTarget then (min rating (3 * balance), .urgent)
        else if t < g.holdTarget then (balance + 2 * balance * (g.holdTarget - t) / g.holdBand, .keep)
        else if t < g.holdTarget + g.holdBand then (balance * (g.holdTarget + g.holdBand - t) / g.holdBand, .keep)
        else (0, .keep)
      | .superheat =>
        match s.taps.entries.find? (fun e => e.station == some st) with
        | some e =>
          (if t + 300 ≤ e.target then rating
           else if t < e.target then ((balance : Int) + Int.tdiv (((rating : Int) - balance) * ((e.target : Int) - t)) 300).toNat
           else if t < e.target + g.tapWindow then balance
           else 0, .tap)
        | none => (0, .tap)
      | .tapping | .empty | .unknown | .off => (0, .idle)
    let x : State := { s with heats := place s.heats st { s.heat st with request := min rating asked.1, need := asked.2 } }
    (asked.2 = (s.heat st).need → recompute st s = x) ∧
    (asked.2 ≠ (s.heat st).need → (∀ u, s.unitOf st = some u → recompute st s = autoEvaluate u x) ∧
      (s.unitOf st = none → recompute st s = x))) ∧
  (∀ (s : State) (u : UnitId),
    let moves := fun o : Station =>
      (s.unit u).state = .feeding ∧ (s.unitRec u).mode = .auto ∧ ∃ a, s.active u = some a ∧
        o ∈ s.paired u ∧ o ≠ a ∧ (∀ z ∈ s.paired u, z ≠ a → o ≤ z) ∧
        (s.heat a).need.height < (s.heat o).need.height ∧
        look s.enabled o = true ∧ s.phase o ≠ .off ∧ s.bars o = [] ∧
        (∃ f, s.coilFlow o = some f ∧ (s.stationRec o).coilMinFlow ≤ f) ∧
        (s.cfg.shop.minDwell ≤ (s.unit u).feedingTime ∨ (s.heat a).need = .idle ∨ (s.heat o).need = .urgent)
    (∀ o, moves o → autoEvaluate u s = { s with units := place s.units u { s.unit u with
      state := .rampDown o, decayTimer := some 5000, grant := 0, origin := (s.unit u).position } }) ∧
    ((∀ o, ¬ moves o) → autoEvaluate u s = s))

/-- RE-EXAMINATION. Nothing while the link is silent; otherwise the entries are judged once each, head first. An unassigned one takes, of the
stations in HOLD with its grade, its mass above the heel, no entry, no bar, no INHIBITED unit and WATER clear, the one of oldest liquid, the lower
number on a tie: the station goes to SUPERHEAT with the dip mark clear, its request is recomputed, and STATION ASSIGNED is queued. No other
changes. -/
def Obligations.QueueIsServedHeadFirst : Prop :=
  (∀ s : State, (s.link.silent = true → reexamine s = s) ∧
    (s.link.silent = false → reexamine s = (List.range s.taps.entries.length).foldl judgeEntry s)) ∧
  (∀ (s : State) (i : Nat),
    (s.taps.entries[i]? = none → judgeEntry s i = s) ∧
    (∀ e, s.taps.entries[i]? = some e →
      (e.station ≠ none → judgeEntry s i = s) ∧
      (e.station = none →
        let fit := fun st : Station =>
          (s.record st).phase = .hold ∧ (s.record st).solid = 0 ∧ (s.record st).grade = some e.grade ∧
          e.mass + (s.stationRec st).heelMin ≤ (s.record st).liquid ∧ (∀ d ∈ s.taps.entries, d.station ≠ some st) ∧
          s.bars st = [] ∧ (∀ u, s.unitOf st = some u → (s.unit u).state ≠ .inhibited) ∧
          hasFlag (s.record st).flags .water = false
        let age := fun st : Station => match (s.record st).liquidAge with | some a => a + 1 | none => 0
        ((∀ st, ¬ fit st) → judgeEntry s i = s) ∧
        (∀ st, fit st → (∀ o, fit o → o ≠ st → age o < age st ∨ (age o = age st ∧ st < o)) →
          judgeEntry s i = (recompute st { s with
            heats := place s.heats st { s.heat st with record := { s.record st with phase := .superheat, dipMark := false } }
            taps := { s.taps with entries := s.taps.entries.set i { e with station := some st } } }).notify
              .stationAssigned (stationCode st) (some 0) (some e.ladle) (some e.target)))))

/-- THE SCHEDULER'S CHECKS, which a model step ends with (ModelStepMovesTheBath): release, then the call for a dip, then readiness. An assigned
station without permit is released, for a unit INHIBITED or a bar with the bath below the target's window, for WATER, or for liquid that no longer
covers mass and heel (of several the first, log entry 9). A bath at the window without a fresh dip calls for one, again after each dip age
maximum. A dipped, fresh bath within the window, its mass above the heel and the link not silent, gets a permit of the first free id from the
counter on. That the later checks run for an entry that the release's own re-examination has given the station is log entry 35. -/
def Obligations.AssignedStationsAreChecked : Prop :=
  ∀ (s : State) (st : Station),
    stationChecks st s = readinessCheck st (dipWantedCheck st (releaseCheck st s)) ∧
    ((∀ d ∈ s.taps.entries, d.station ≠ some st) → stationChecks st s = s) ∧
    (∀ before e after, s.taps.entries = before ++ e :: after → e.station = some st → (∀ d ∈ before, d.station ≠ some st) →
      let r := s.record st
      let g := s.gradeRec (r.grade.getD 0)
      let queued := fun (x : State) (e' : QueueEntry) => ({ x with taps := { s.taps with entries := before ++ e' :: after } } : State)
      let stopped := ((∃ u, s.unitOf st = some u ∧ (s.unit u).state = .inhibited) ∨ s.bars st ≠ []) ∧ r.tEst + g.tapWindow < e.target
      let wet := hasFlag r.flags .water = true
      let short := r.liquid < e.mass + (s.stationRec st).heelMin
      let freed := fun reason : Nat => reexamine ((recompute st
        { queued s { e with station := none, dipCall := none } with
          heats := place s.heats st { s.heat st with record := { r with phase := .hold } } }).notify
            .stationAssigned (stationCode st) (some 1) (some e.ladle) (some reason))
      let called := r.phase = .superheat ∧ e.permit = none ∧ e.target ≤ r.tEst + g.tapWindow ∧
        (r.dipMark = false ∨ ∃ d, r.lastDip = some d ∧ s.cfg.shop.dipAgeMax < d.age)
      let ready := r.phase = .superheat ∧ e.permit = none ∧ r.dipMark = true ∧
        (∃ d, r.lastDip = some d ∧ d.age ≤ s.cfg.shop.dipAgeMax) ∧ e.target ≤ r.tEst + g.tapWindow ∧
        r.tEst ≤ e.target + g.tapWindow ∧ e.mass + (s.stationRec st).heelMin ≤ r.liquid ∧ s.link.silent = false
      -- release
      (e.permit ≠ none ∨ (¬ stopped ∧ ¬ wet ∧ ¬ short) → releaseCheck st s = s) ∧
      (e.permit = none → stopped → releaseCheck st s = freed 0) ∧
      (e.permit = none → ¬ stopped → wet → releaseCheck st s = freed 1) ∧
      (e.permit = none → ¬ stopped → ¬ wet → short → releaseCheck st s = freed 2) ∧
      -- the call for a dip
      (¬ called → dipWantedCheck st s = queued s { e with dipCall := none }) ∧
      (called → (∃ n, e.dipCall = some n ∧ s.clockMs / 1000 < n + s.cfg.shop.dipAgeMax) → dipWantedCheck st s = s) ∧
      (called → (∀ n, e.dipCall = some n → n + s.cfg.shop.dipAgeMax ≤ s.clockMs / 1000) →
        dipWantedCheck st s = (queued s { e with dipCall := some (s.clockMs / 1000) }).notify .dipWanted (stationCode st)
          (some e.ladle) (some r.tEst) (r.lastDip.map (fun d => (d.age : Int)))) ∧
      -- readiness
      (¬ ready → readinessCheck st s = s) ∧
      (ready → ∀ k : Nat,
        let next := fun n : Nat => if n < 255 then n + 1 else 1
        let id := next^[k] s.taps.permitCounter
        let held := fun n : Nat => ∃ d ∈ s.taps.entries, d.permit.map Permit.id = some n
        (∀ j < k, held (next^[j] s.taps.permitCounter)) → ¬ held id → k ≤ s.permitIds.length →
        readinessCheck st s = (({ s with taps :=
          { entries := before ++ { e with permit := some { id, leftMs := s.cfg.shop.permitTime * 1000, started := false } } :: after
            permitCounter := next id } } : State).notify .tapGrant e.ladle (some id) (some (stationCode st)) (some r.tEst))))

/-- A UNIT RE-JUDGED. Its effective trip set is its causes, the programs tripping it, and those barring its active station or travel target.
INHIBITED with nothing in it, no travel and a position, the unit feeds: TRIP CLEAR, AUTO, re-examination. Any other state with something in it
becomes INHIBITED: grant 0, timers stopped, TRIP, the end of a RAMP_DOWN or SETTLING reported ABANDONED, re-examination. A RAMP_DOWN whose target
is barred or OFF goes back to FEEDING, reported ABANDONED. A change of a trip or bar set re-judges its unit, an emptied bar set lets the unit
evaluate, and a changed bar set has the queue re-examined. The order of notices, AUTO evaluation and re-examination (log entry 14) and a position
NONE as the present value 0 in a notice (log entry 18) are the model's readings. -/
def Obligations.UnitsAreRejudged : Prop :=
  (∀ (s : State) (u : UnitId),
    let q := s.unit u
    let clear := q.causes = { noLayout := false, restart := false, unitFault := false, pump := false, switch := false, noDecay := false } ∧
      ∀ w : Program, (s.held w = .trip ∨ s.held w = .emergency) →
        (s.program w).target ≠ .unit u ∧
        ∀ st, (s.program w).target = .station st → s.active u ≠ some st ∧ q.travel.map Travel.target ≠ some st
    let set := fun z : PowerUnit => ({ s with units := place s.units u z } : State)
    let fed : PowerUnit := { q with
      state := .feeding, grant := 0, feedingMs := 0, decayTimer := none, settleTimer := none
      dwellDone := decide (s.cfg.shop.minDwell = 0) }
    let tripped := (set { q with state := .inhibited, grant := 0, decayTimer := none, settleTimer := none, inhibitedMs := 0 }).notify
      .trip (unitCode u) (some q.causes.bits) (some (programBits (s.tripPrograms u))) (some (stationOrNone q.position))
    let abandoned := fun x : State => x.notify .changeover (unitCode u) (some 3) (some (stationOrNone q.origin))
      (some (stationOrNone q.position))
    (s.tripsEmpty u = true ↔ clear) ∧
    (q.state = .inhibited →
      (clear ∧ q.travel = none ∧ q.position ≠ none → rejudge u s = reexamine (autoEvaluate u ((set fed).notify .tripClear (unitCode u)
        (some (stationOrNone q.position)) (some (min 65535 (q.inhibitedMs / 1000) : Nat)) none))) ∧
      (¬ (clear ∧ q.travel = none ∧ q.position ≠ none) → rejudge u s = s)) ∧
    ((q.state = .feeding ∨ ∃ st, q.state = .switching st) →
      (clear → rejudge u s = s) ∧ (¬ clear → rejudge u s = reexamine tripped)) ∧
    ((∃ st, q.state = .settling st) → (clear → rejudge u s = s) ∧ (¬ clear → rejudge u s = reexamine (abandoned tripped))) ∧
    (∀ st, q.state = .rampDown st →
      (¬ clear → rejudge u s = reexamine (abandoned tripped)) ∧
      (clear → s.bars st ≠ [] ∨ s.phase st = .off → rejudge u s = autoEvaluate u (abandoned (set fed))) ∧
      (clear → s.bars st = [] → s.phase st ≠ .off → rejudge u s = s)) ∧
    (∀ how : ChangeoverEnd, enterInhibited u (some how) s = reexamine (tripped.notify .changeover (unitCode u) (some how.code)
      (some (stationOrNone q.origin)) (some (stationOrNone q.position))))) ∧
  (∀ (s : State) (was : Bool),
    (∀ (t : Target) (a b : Action),
      ((a = .trip ∨ a = .emergency ↔ b = .trip ∨ b = .emergency) → handMembership t a b was s = s) ∧
      (¬ (a = .trip ∨ a = .emergency ↔ b = .trip ∨ b = .emergency) → handMembership t a b was s = handSetChange t was s)) ∧
    (∀ u, handSetChange (.unit u) was s = rejudge u s) ∧
    (∀ st, s.targetBarred (.station st) = true ↔ s.bars st ≠ []) ∧
    (∀ st u, s.unitOf st = some u →
      let x := rejudge u s
      (was = true ∧ x.bars st = [] ∧ x.active u ≠ some st → handSetChange (.station st) was s = reexamine (autoEvaluate u x)) ∧
      (¬ (was = true ∧ x.bars st = [] ∧ x.active u ≠ some st) → handSetChange (.station st) was s = reexamine x)) ∧
    (∀ st, s.unitOf st = none → handSetChange (.station st) was s = reexamine s))

/-- FLAGS, VALVES AND EMPTY. An occurrence sets its flag in a running heat, with a HEAT FLAG notice unless masked (that a set bit of the notice
mask masks its flag is the model's reading, log entry 8), and does nothing elsewhere; a WATER flag that it sets has the queue re-examined and an
assigned station without permit released. A valve opens or closes with one notice, and is left alone where it stands so. A station that begins to
hold metal is given water if an emergency stands; of several causes the named one is free (log entry 7). Entry into EMPTY clears the record and
the history, closes the valve with its notice (in a HEAT EMPTY too: the model's choice, log entry 31) and recomputes the request. -/
def Obligations.FlagsAndValvesActOnce : Prop :=
  (∀ (s : State) (f : HeatFlag) (st : Station),
    let r := s.record st
    let flagged : State := { s with heats := place s.heats st { s.heat st with record := { r with flags := r.flags ||| (1#8 <<< f.bit) } } }
    let told := if (s.stationRec st).mask.getLsbD f.bit then flagged
      else flagged.notify .heatFlag (stationCode st) (some f.bit) (some r.heatNo) (some r.tEst)
    let y := reexamine told
    (r.phase.running = false → raise f st s = s) ∧
    (r.phase.running = true → ¬ (f = .water ∧ hasFlag r.flags .water = false) → raise f st s = told) ∧
    (r.phase.running = true → f = .water → hasFlag r.flags .water = false →
      ((∀ d ∈ y.taps.entries, d.station ≠ some st) → raise f st s = y) ∧
      (∀ before e after, y.taps.entries = before ++ e :: after → e.station = some st → (∀ d ∈ before, d.station ≠ some st) →
        (e.permit ≠ none → raise f st s = y) ∧
        (e.permit = none → raise f st s = reexamine ((recompute st { y with
          heats := place y.heats st { y.heat st with record := { y.record st with phase := .hold } }
          taps := { y.taps with entries := before ++ { e with station := none, dipCall := none } :: after } }).notify
            .stationAssigned (stationCode st) (some 1) (some e.ladle) (some 1)))))) ∧
  (∀ (s : State) (cause : Nat) (st : Station),
    let change := fun open_ : Bool => ({ s with valves := place s.valves st open_ } : State).notify .emergencyWater (stationCode st)
      (some (if open_ then 0 else 1)) (some cause) (some s.reservoir.drawn)
    openValve cause s st = (if look s.valves st then s else change true) ∧
    closeValve cause s st = (if look s.valves st then change false else s)) ∧
  (∀ (s : State) (st : Station),
    (s.emergencyStands st = false → beginMetal st s = s) ∧
    (s.emergencyStands st = true → ∃ cause,
      (cause = 17 ∧ s.lines.pumpFault = true ∨ ∃ w ∈ s.emergencyPrograms st, cause = w.val + 1) ∧
      beginMetal st s = openValve cause s st) ∧
    enterEmpty st s = recompute st (closeValve 19 { s with heats := place s.heats st { s.heat st with
      record := HeatRec.clear .empty, history := [], aboveMax := false, belowFloor := false, stepTimer := none } } st))

end
end

