-- ==== Sys2Proof/Laws/Bank.lean ====
section
/-!
SUPPORT. Reading a bank after writing it.
-/

namespace Sys2Proof

@[simp] theorem look_place_same {α : Type} {n : Nat} (b : Bank α n) (i : Fin n) (x : α) : look (place b i x) i = x := by
  simp [look, place]

theorem look_place_ne {α : Type} {n : Nat} (b : Bank α n) {i j : Fin n} (x : α) (h : i ≠ j) :
    look (place b i x) j = look b j := by
  have : i.val ≠ j.val := fun e => h (Fin.ext e)
  simp [look, place, this]

/-- A bank after one write, read anywhere. -/
theorem look_place {α : Type} {n : Nat} (b : Bank α n) (i j : Fin n) (x : α) :
    look (place b i x) j = if i = j then x else look b j := by
  by_cases h : i = j
  · subst h; simp
  · simp [h, look_place_ne]

@[simp] theorem look_overAll {α β : Type} {n : Nat} (f : α → β) (b : Bank α n) (i : Fin n) :
    look (overAll f b) i = f (look b i) := by
  simp [look, overAll]

@[simp] theorem look_replicate {α : Type} {n : Nat} (x : α) (i : Fin n) : look (Vector.replicate n x) i = x := by
  simp [look]

/-- Two banks that read alike everywhere are equal. -/
theorem bank_ext {α : Type} {n : Nat} {a b : Bank α n} (h : ∀ i, look a i = look b i) : a = b := by
  apply Vector.ext
  intro i hi
  exact h ⟨i, hi⟩

@[simp] theorem place_look {α : Type} {n : Nat} (b : Bank α n) (i : Fin n) : place b i (look b i) = b :=
  bank_ext (fun j => by rw [look_place]; split <;> simp_all)

end Sys2Proof
end

