-- ==== Sys2Proof/Laws/State.lean ====
section
/-!
SUPPORT. One lemma per field per update of the state, true by `rfl`: no later proof unfolds a record update.
-/

namespace Sys2Proof.Machine

variable (s : State)

/-! ### onHeat -/

@[simp] theorem State.onHeat_cfg (st : Station) (f : StationHeat → StationHeat) : (s.onHeat st f).cfg = s.cfg := rfl
@[simp] theorem State.onHeat_enabled (st : Station) (f : StationHeat → StationHeat) : (s.onHeat st f).enabled = s.enabled := rfl
@[simp] theorem State.onHeat_linings (st : Station) (f : StationHeat → StationHeat) : (s.onHeat st f).linings = s.linings := rfl
@[simp] theorem State.onHeat_heatCounter (st : Station) (f : StationHeat → StationHeat) : (s.onHeat st f).heatCounter = s.heatCounter := rfl
@[simp] theorem State.onHeat_inflow (st : Station) (f : StationHeat → StationHeat) : (s.onHeat st f).inflow = s.inflow := rfl
@[simp] theorem State.onHeat_outflow (st : Station) (f : StationHeat → StationHeat) : (s.onHeat st f).outflow = s.outflow := rfl
@[simp] theorem State.onHeat_units (st : Station) (f : StationHeat → StationHeat) : (s.onHeat st f).units = s.units := rfl
@[simp] theorem State.onHeat_alloc (st : Station) (f : StationHeat → StationHeat) : (s.onHeat st f).alloc = s.alloc := rfl
@[simp] theorem State.onHeat_channels (st : Station) (f : StationHeat → StationHeat) : (s.onHeat st f).channels = s.channels := rfl
@[simp] theorem State.onHeat_circuits (st : Station) (f : StationHeat → StationHeat) : (s.onHeat st f).circuits = s.circuits := rfl
@[simp] theorem State.onHeat_valves (st : Station) (f : StationHeat → StationHeat) : (s.onHeat st f).valves = s.valves := rfl
@[simp] theorem State.onHeat_reservoir (st : Station) (f : StationHeat → StationHeat) : (s.onHeat st f).reservoir = s.reservoir := rfl
@[simp] theorem State.onHeat_runs (st : Station) (f : StationHeat → StationHeat) : (s.onHeat st f).runs = s.runs := rfl
@[simp] theorem State.onHeat_taps (st : Station) (f : StationHeat → StationHeat) : (s.onHeat st f).taps = s.taps := rfl
@[simp] theorem State.onHeat_link (st : Station) (f : StationHeat → StationHeat) : (s.onHeat st f).link = s.link := rfl
@[simp] theorem State.onHeat_lines (st : Station) (f : StationHeat → StationHeat) : (s.onHeat st f).lines = s.lines := rfl
@[simp] theorem State.onHeat_resetHeld (st : Station) (f : StationHeat → StationHeat) : (s.onHeat st f).resetHeld = s.resetHeld := rfl
@[simp] theorem State.onHeat_clockMs (st : Station) (f : StationHeat → StationHeat) : (s.onHeat st f).clockMs = s.clockMs := rfl
@[simp] theorem State.onHeat_pending (st : Station) (f : StationHeat → StationHeat) : (s.onHeat st f).pending = s.pending := rfl

/-! ### onRecord -/

@[simp] theorem State.onRecord_cfg (st : Station) (f : HeatRec → HeatRec) : (s.onRecord st f).cfg = s.cfg := rfl
@[simp] theorem State.onRecord_enabled (st : Station) (f : HeatRec → HeatRec) : (s.onRecord st f).enabled = s.enabled := rfl
@[simp] theorem State.onRecord_linings (st : Station) (f : HeatRec → HeatRec) : (s.onRecord st f).linings = s.linings := rfl
@[simp] theorem State.onRecord_heatCounter (st : Station) (f : HeatRec → HeatRec) : (s.onRecord st f).heatCounter = s.heatCounter := rfl
@[simp] theorem State.onRecord_inflow (st : Station) (f : HeatRec → HeatRec) : (s.onRecord st f).inflow = s.inflow := rfl
@[simp] theorem State.onRecord_outflow (st : Station) (f : HeatRec → HeatRec) : (s.onRecord st f).outflow = s.outflow := rfl
@[simp] theorem State.onRecord_units (st : Station) (f : HeatRec → HeatRec) : (s.onRecord st f).units = s.units := rfl
@[simp] theorem State.onRecord_alloc (st : Station) (f : HeatRec → HeatRec) : (s.onRecord st f).alloc = s.alloc := rfl
@[simp] theorem State.onRecord_channels (st : Station) (f : HeatRec → HeatRec) : (s.onRecord st f).channels = s.channels := rfl
@[simp] theorem State.onRecord_circuits (st : Station) (f : HeatRec → HeatRec) : (s.onRecord st f).circuits = s.circuits := rfl
@[simp] theorem State.onRecord_valves (st : Station) (f : HeatRec → HeatRec) : (s.onRecord st f).valves = s.valves := rfl
@[simp] theorem State.onRecord_reservoir (st : Station) (f : HeatRec → HeatRec) : (s.onRecord st f).reservoir = s.reservoir := rfl
@[simp] theorem State.onRecord_runs (st : Station) (f : HeatRec → HeatRec) : (s.onRecord st f).runs = s.runs := rfl
@[simp] theorem State.onRecord_taps (st : Station) (f : HeatRec → HeatRec) : (s.onRecord st f).taps = s.taps := rfl
@[simp] theorem State.onRecord_link (st : Station) (f : HeatRec → HeatRec) : (s.onRecord st f).link = s.link := rfl
@[simp] theorem State.onRecord_lines (st : Station) (f : HeatRec → HeatRec) : (s.onRecord st f).lines = s.lines := rfl
@[simp] theorem State.onRecord_resetHeld (st : Station) (f : HeatRec → HeatRec) : (s.onRecord st f).resetHeld = s.resetHeld := rfl
@[simp] theorem State.onRecord_clockMs (st : Station) (f : HeatRec → HeatRec) : (s.onRecord st f).clockMs = s.clockMs := rfl
@[simp] theorem State.onRecord_pending (st : Station) (f : HeatRec → HeatRec) : (s.onRecord st f).pending = s.pending := rfl

/-! ### onUnit -/

@[simp] theorem State.onUnit_cfg (u : UnitId) (f : PowerUnit → PowerUnit) : (s.onUnit u f).cfg = s.cfg := rfl
@[simp] theorem State.onUnit_enabled (u : UnitId) (f : PowerUnit → PowerUnit) : (s.onUnit u f).enabled = s.enabled := rfl
@[simp] theorem State.onUnit_linings (u : UnitId) (f : PowerUnit → PowerUnit) : (s.onUnit u f).linings = s.linings := rfl
@[simp] theorem State.onUnit_heats (u : UnitId) (f : PowerUnit → PowerUnit) : (s.onUnit u f).heats = s.heats := rfl
@[simp] theorem State.onUnit_heatCounter (u : UnitId) (f : PowerUnit → PowerUnit) : (s.onUnit u f).heatCounter = s.heatCounter := rfl
@[simp] theorem State.onUnit_inflow (u : UnitId) (f : PowerUnit → PowerUnit) : (s.onUnit u f).inflow = s.inflow := rfl
@[simp] theorem State.onUnit_outflow (u : UnitId) (f : PowerUnit → PowerUnit) : (s.onUnit u f).outflow = s.outflow := rfl
@[simp] theorem State.onUnit_alloc (u : UnitId) (f : PowerUnit → PowerUnit) : (s.onUnit u f).alloc = s.alloc := rfl
@[simp] theorem State.onUnit_channels (u : UnitId) (f : PowerUnit → PowerUnit) : (s.onUnit u f).channels = s.channels := rfl
@[simp] theorem State.onUnit_circuits (u : UnitId) (f : PowerUnit → PowerUnit) : (s.onUnit u f).circuits = s.circuits := rfl
@[simp] theorem State.onUnit_valves (u : UnitId) (f : PowerUnit → PowerUnit) : (s.onUnit u f).valves = s.valves := rfl
@[simp] theorem State.onUnit_reservoir (u : UnitId) (f : PowerUnit → PowerUnit) : (s.onUnit u f).reservoir = s.reservoir := rfl
@[simp] theorem State.onUnit_runs (u : UnitId) (f : PowerUnit → PowerUnit) : (s.onUnit u f).runs = s.runs := rfl
@[simp] theorem State.onUnit_taps (u : UnitId) (f : PowerUnit → PowerUnit) : (s.onUnit u f).taps = s.taps := rfl
@[simp] theorem State.onUnit_link (u : UnitId) (f : PowerUnit → PowerUnit) : (s.onUnit u f).link = s.link := rfl
@[simp] theorem State.onUnit_lines (u : UnitId) (f : PowerUnit → PowerUnit) : (s.onUnit u f).lines = s.lines := rfl
@[simp] theorem State.onUnit_resetHeld (u : UnitId) (f : PowerUnit → PowerUnit) : (s.onUnit u f).resetHeld = s.resetHeld := rfl
@[simp] theorem State.onUnit_clockMs (u : UnitId) (f : PowerUnit → PowerUnit) : (s.onUnit u f).clockMs = s.clockMs := rfl
@[simp] theorem State.onUnit_pending (u : UnitId) (f : PowerUnit → PowerUnit) : (s.onUnit u f).pending = s.pending := rfl

/-! ### onRun -/

@[simp] theorem State.onRun_cfg (p : Program) (f : RunState → RunState) : (s.onRun p f).cfg = s.cfg := rfl
@[simp] theorem State.onRun_enabled (p : Program) (f : RunState → RunState) : (s.onRun p f).enabled = s.enabled := rfl
@[simp] theorem State.onRun_linings (p : Program) (f : RunState → RunState) : (s.onRun p f).linings = s.linings := rfl
@[simp] theorem State.onRun_heats (p : Program) (f : RunState → RunState) : (s.onRun p f).heats = s.heats := rfl
@[simp] theorem State.onRun_heatCounter (p : Program) (f : RunState → RunState) : (s.onRun p f).heatCounter = s.heatCounter := rfl
@[simp] theorem State.onRun_inflow (p : Program) (f : RunState → RunState) : (s.onRun p f).inflow = s.inflow := rfl
@[simp] theorem State.onRun_outflow (p : Program) (f : RunState → RunState) : (s.onRun p f).outflow = s.outflow := rfl
@[simp] theorem State.onRun_units (p : Program) (f : RunState → RunState) : (s.onRun p f).units = s.units := rfl
@[simp] theorem State.onRun_alloc (p : Program) (f : RunState → RunState) : (s.onRun p f).alloc = s.alloc := rfl
@[simp] theorem State.onRun_channels (p : Program) (f : RunState → RunState) : (s.onRun p f).channels = s.channels := rfl
@[simp] theorem State.onRun_circuits (p : Program) (f : RunState → RunState) : (s.onRun p f).circuits = s.circuits := rfl
@[simp] theorem State.onRun_valves (p : Program) (f : RunState → RunState) : (s.onRun p f).valves = s.valves := rfl
@[simp] theorem State.onRun_reservoir (p : Program) (f : RunState → RunState) : (s.onRun p f).reservoir = s.reservoir := rfl
@[simp] theorem State.onRun_taps (p : Program) (f : RunState → RunState) : (s.onRun p f).taps = s.taps := rfl
@[simp] theorem State.onRun_link (p : Program) (f : RunState → RunState) : (s.onRun p f).link = s.link := rfl
@[simp] theorem State.onRun_lines (p : Program) (f : RunState → RunState) : (s.onRun p f).lines = s.lines := rfl
@[simp] theorem State.onRun_resetHeld (p : Program) (f : RunState → RunState) : (s.onRun p f).resetHeld = s.resetHeld := rfl
@[simp] theorem State.onRun_clockMs (p : Program) (f : RunState → RunState) : (s.onRun p f).clockMs = s.clockMs := rfl
@[simp] theorem State.onRun_pending (p : Program) (f : RunState → RunState) : (s.onRun p f).pending = s.pending := rfl

/-! ### onChannel -/

@[simp] theorem State.onChannel_cfg (c : Channel) (f : ChannelSt → ChannelSt) : (s.onChannel c f).cfg = s.cfg := rfl
@[simp] theorem State.onChannel_enabled (c : Channel) (f : ChannelSt → ChannelSt) : (s.onChannel c f).enabled = s.enabled := rfl
@[simp] theorem State.onChannel_linings (c : Channel) (f : ChannelSt → ChannelSt) : (s.onChannel c f).linings = s.linings := rfl
@[simp] theorem State.onChannel_heats (c : Channel) (f : ChannelSt → ChannelSt) : (s.onChannel c f).heats = s.heats := rfl
@[simp] theorem State.onChannel_heatCounter (c : Channel) (f : ChannelSt → ChannelSt) : (s.onChannel c f).heatCounter = s.heatCounter := rfl
@[simp] theorem State.onChannel_inflow (c : Channel) (f : ChannelSt → ChannelSt) : (s.onChannel c f).inflow = s.inflow := rfl
@[simp] theorem State.onChannel_outflow (c : Channel) (f : ChannelSt → ChannelSt) : (s.onChannel c f).outflow = s.outflow := rfl
@[simp] theorem State.onChannel_units (c : Channel) (f : ChannelSt → ChannelSt) : (s.onChannel c f).units = s.units := rfl
@[simp] theorem State.onChannel_alloc (c : Channel) (f : ChannelSt → ChannelSt) : (s.onChannel c f).alloc = s.alloc := rfl
@[simp] theorem State.onChannel_circuits (c : Channel) (f : ChannelSt → ChannelSt) : (s.onChannel c f).circuits = s.circuits := rfl
@[simp] theorem State.onChannel_valves (c : Channel) (f : ChannelSt → ChannelSt) : (s.onChannel c f).valves = s.valves := rfl
@[simp] theorem State.onChannel_reservoir (c : Channel) (f : ChannelSt → ChannelSt) : (s.onChannel c f).reservoir = s.reservoir := rfl
@[simp] theorem State.onChannel_runs (c : Channel) (f : ChannelSt → ChannelSt) : (s.onChannel c f).runs = s.runs := rfl
@[simp] theorem State.onChannel_taps (c : Channel) (f : ChannelSt → ChannelSt) : (s.onChannel c f).taps = s.taps := rfl
@[simp] theorem State.onChannel_link (c : Channel) (f : ChannelSt → ChannelSt) : (s.onChannel c f).link = s.link := rfl
@[simp] theorem State.onChannel_lines (c : Channel) (f : ChannelSt → ChannelSt) : (s.onChannel c f).lines = s.lines := rfl
@[simp] theorem State.onChannel_resetHeld (c : Channel) (f : ChannelSt → ChannelSt) : (s.onChannel c f).resetHeld = s.resetHeld := rfl
@[simp] theorem State.onChannel_clockMs (c : Channel) (f : ChannelSt → ChannelSt) : (s.onChannel c f).clockMs = s.clockMs := rfl
@[simp] theorem State.onChannel_pending (c : Channel) (f : ChannelSt → ChannelSt) : (s.onChannel c f).pending = s.pending := rfl

/-! ### onCircuit -/

@[simp] theorem State.onCircuit_cfg (c : Circuit) (f : CircuitSt → CircuitSt) : (s.onCircuit c f).cfg = s.cfg := rfl
@[simp] theorem State.onCircuit_enabled (c : Circuit) (f : CircuitSt → CircuitSt) : (s.onCircuit c f).enabled = s.enabled := rfl
@[simp] theorem State.onCircuit_linings (c : Circuit) (f : CircuitSt → CircuitSt) : (s.onCircuit c f).linings = s.linings := rfl
@[simp] theorem State.onCircuit_heats (c : Circuit) (f : CircuitSt → CircuitSt) : (s.onCircuit c f).heats = s.heats := rfl
@[simp] theorem State.onCircuit_heatCounter (c : Circuit) (f : CircuitSt → CircuitSt) : (s.onCircuit c f).heatCounter = s.heatCounter := rfl
@[simp] theorem State.onCircuit_inflow (c : Circuit) (f : CircuitSt → CircuitSt) : (s.onCircuit c f).inflow = s.inflow := rfl
@[simp] theorem State.onCircuit_outflow (c : Circuit) (f : CircuitSt → CircuitSt) : (s.onCircuit c f).outflow = s.outflow := rfl
@[simp] theorem State.onCircuit_units (c : Circuit) (f : CircuitSt → CircuitSt) : (s.onCircuit c f).units = s.units := rfl
@[simp] theorem State.onCircuit_alloc (c : Circuit) (f : CircuitSt → CircuitSt) : (s.onCircuit c f).alloc = s.alloc := rfl
@[simp] theorem State.onCircuit_channels (c : Circuit) (f : CircuitSt → CircuitSt) : (s.onCircuit c f).channels = s.channels := rfl
@[simp] theorem State.onCircuit_valves (c : Circuit) (f : CircuitSt → CircuitSt) : (s.onCircuit c f).valves = s.valves := rfl
@[simp] theorem State.onCircuit_reservoir (c : Circuit) (f : CircuitSt → CircuitSt) : (s.onCircuit c f).reservoir = s.reservoir := rfl
@[simp] theorem State.onCircuit_runs (c : Circuit) (f : CircuitSt → CircuitSt) : (s.onCircuit c f).runs = s.runs := rfl
@[simp] theorem State.onCircuit_taps (c : Circuit) (f : CircuitSt → CircuitSt) : (s.onCircuit c f).taps = s.taps := rfl
@[simp] theorem State.onCircuit_link (c : Circuit) (f : CircuitSt → CircuitSt) : (s.onCircuit c f).link = s.link := rfl
@[simp] theorem State.onCircuit_lines (c : Circuit) (f : CircuitSt → CircuitSt) : (s.onCircuit c f).lines = s.lines := rfl
@[simp] theorem State.onCircuit_resetHeld (c : Circuit) (f : CircuitSt → CircuitSt) : (s.onCircuit c f).resetHeld = s.resetHeld := rfl
@[simp] theorem State.onCircuit_clockMs (c : Circuit) (f : CircuitSt → CircuitSt) : (s.onCircuit c f).clockMs = s.clockMs := rfl
@[simp] theorem State.onCircuit_pending (c : Circuit) (f : CircuitSt → CircuitSt) : (s.onCircuit c f).pending = s.pending := rfl

/-! ### onLink -/

@[simp] theorem State.onLink_cfg (f : Link → Link) : (s.onLink f).cfg = s.cfg := rfl
@[simp] theorem State.onLink_enabled (f : Link → Link) : (s.onLink f).enabled = s.enabled := rfl
@[simp] theorem State.onLink_linings (f : Link → Link) : (s.onLink f).linings = s.linings := rfl
@[simp] theorem State.onLink_heats (f : Link → Link) : (s.onLink f).heats = s.heats := rfl
@[simp] theorem State.onLink_heatCounter (f : Link → Link) : (s.onLink f).heatCounter = s.heatCounter := rfl
@[simp] theorem State.onLink_inflow (f : Link → Link) : (s.onLink f).inflow = s.inflow := rfl
@[simp] theorem State.onLink_outflow (f : Link → Link) : (s.onLink f).outflow = s.outflow := rfl
@[simp] theorem State.onLink_units (f : Link → Link) : (s.onLink f).units = s.units := rfl
@[simp] theorem State.onLink_alloc (f : Link → Link) : (s.onLink f).alloc = s.alloc := rfl
@[simp] theorem State.onLink_channels (f : Link → Link) : (s.onLink f).channels = s.channels := rfl
@[simp] theorem State.onLink_circuits (f : Link → Link) : (s.onLink f).circuits = s.circuits := rfl
@[simp] theorem State.onLink_valves (f : Link → Link) : (s.onLink f).valves = s.valves := rfl
@[simp] theorem State.onLink_reservoir (f : Link → Link) : (s.onLink f).reservoir = s.reservoir := rfl
@[simp] theorem State.onLink_runs (f : Link → Link) : (s.onLink f).runs = s.runs := rfl
@[simp] theorem State.onLink_taps (f : Link → Link) : (s.onLink f).taps = s.taps := rfl
@[simp] theorem State.onLink_lines (f : Link → Link) : (s.onLink f).lines = s.lines := rfl
@[simp] theorem State.onLink_resetHeld (f : Link → Link) : (s.onLink f).resetHeld = s.resetHeld := rfl
@[simp] theorem State.onLink_clockMs (f : Link → Link) : (s.onLink f).clockMs = s.clockMs := rfl
@[simp] theorem State.onLink_pending (f : Link → Link) : (s.onLink f).pending = s.pending := rfl

/-! ### onCfg -/

@[simp] theorem State.onCfg_enabled (f : Settings → Settings) : (s.onCfg f).enabled = s.enabled := rfl
@[simp] theorem State.onCfg_linings (f : Settings → Settings) : (s.onCfg f).linings = s.linings := rfl
@[simp] theorem State.onCfg_heats (f : Settings → Settings) : (s.onCfg f).heats = s.heats := rfl
@[simp] theorem State.onCfg_heatCounter (f : Settings → Settings) : (s.onCfg f).heatCounter = s.heatCounter := rfl
@[simp] theorem State.onCfg_inflow (f : Settings → Settings) : (s.onCfg f).inflow = s.inflow := rfl
@[simp] theorem State.onCfg_outflow (f : Settings → Settings) : (s.onCfg f).outflow = s.outflow := rfl
@[simp] theorem State.onCfg_units (f : Settings → Settings) : (s.onCfg f).units = s.units := rfl
@[simp] theorem State.onCfg_alloc (f : Settings → Settings) : (s.onCfg f).alloc = s.alloc := rfl
@[simp] theorem State.onCfg_channels (f : Settings → Settings) : (s.onCfg f).channels = s.channels := rfl
@[simp] theorem State.onCfg_circuits (f : Settings → Settings) : (s.onCfg f).circuits = s.circuits := rfl
@[simp] theorem State.onCfg_valves (f : Settings → Settings) : (s.onCfg f).valves = s.valves := rfl
@[simp] theorem State.onCfg_reservoir (f : Settings → Settings) : (s.onCfg f).reservoir = s.reservoir := rfl
@[simp] theorem State.onCfg_runs (f : Settings → Settings) : (s.onCfg f).runs = s.runs := rfl
@[simp] theorem State.onCfg_taps (f : Settings → Settings) : (s.onCfg f).taps = s.taps := rfl
@[simp] theorem State.onCfg_link (f : Settings → Settings) : (s.onCfg f).link = s.link := rfl
@[simp] theorem State.onCfg_lines (f : Settings → Settings) : (s.onCfg f).lines = s.lines := rfl
@[simp] theorem State.onCfg_resetHeld (f : Settings → Settings) : (s.onCfg f).resetHeld = s.resetHeld := rfl
@[simp] theorem State.onCfg_clockMs (f : Settings → Settings) : (s.onCfg f).clockMs = s.clockMs := rfl
@[simp] theorem State.onCfg_pending (f : Settings → Settings) : (s.onCfg f).pending = s.pending := rfl

/-! ### withEntries -/

@[simp] theorem State.withEntries_cfg (es : List QueueEntry) : (s.withEntries es).cfg = s.cfg := rfl
@[simp] theorem State.withEntries_enabled (es : List QueueEntry) : (s.withEntries es).enabled = s.enabled := rfl
@[simp] theorem State.withEntries_linings (es : List QueueEntry) : (s.withEntries es).linings = s.linings := rfl
@[simp] theorem State.withEntries_heats (es : List QueueEntry) : (s.withEntries es).heats = s.heats := rfl
@[simp] theorem State.withEntries_heatCounter (es : List QueueEntry) : (s.withEntries es).heatCounter = s.heatCounter := rfl
@[simp] theorem State.withEntries_inflow (es : List QueueEntry) : (s.withEntries es).inflow = s.inflow := rfl
@[simp] theorem State.withEntries_outflow (es : List QueueEntry) : (s.withEntries es).outflow = s.outflow := rfl
@[simp] theorem State.withEntries_units (es : List QueueEntry) : (s.withEntries es).units = s.units := rfl
@[simp] theorem State.withEntries_alloc (es : List QueueEntry) : (s.withEntries es).alloc = s.alloc := rfl
@[simp] theorem State.withEntries_channels (es : List QueueEntry) : (s.withEntries es).channels = s.channels := rfl
@[simp] theorem State.withEntries_circuits (es : List QueueEntry) : (s.withEntries es).circuits = s.circuits := rfl
@[simp] theorem State.withEntries_valves (es : List QueueEntry) : (s.withEntries es).valves = s.valves := rfl
@[simp] theorem State.withEntries_reservoir (es : List QueueEntry) : (s.withEntries es).reservoir = s.reservoir := rfl
@[simp] theorem State.withEntries_runs (es : List QueueEntry) : (s.withEntries es).runs = s.runs := rfl
@[simp] theorem State.withEntries_link (es : List QueueEntry) : (s.withEntries es).link = s.link := rfl
@[simp] theorem State.withEntries_lines (es : List QueueEntry) : (s.withEntries es).lines = s.lines := rfl
@[simp] theorem State.withEntries_resetHeld (es : List QueueEntry) : (s.withEntries es).resetHeld = s.resetHeld := rfl
@[simp] theorem State.withEntries_clockMs (es : List QueueEntry) : (s.withEntries es).clockMs = s.clockMs := rfl
@[simp] theorem State.withEntries_pending (es : List QueueEntry) : (s.withEntries es).pending = s.pending := rfl

/-! ### onEntry -/

@[simp] theorem State.onEntry_cfg (i : Nat) (f : QueueEntry → QueueEntry) : (s.onEntry i f).cfg = s.cfg := rfl
@[simp] theorem State.onEntry_enabled (i : Nat) (f : QueueEntry → QueueEntry) : (s.onEntry i f).enabled = s.enabled := rfl
@[simp] theorem State.onEntry_linings (i : Nat) (f : QueueEntry → QueueEntry) : (s.onEntry i f).linings = s.linings := rfl
@[simp] theorem State.onEntry_heats (i : Nat) (f : QueueEntry → QueueEntry) : (s.onEntry i f).heats = s.heats := rfl
@[simp] theorem State.onEntry_heatCounter (i : Nat) (f : QueueEntry → QueueEntry) : (s.onEntry i f).heatCounter = s.heatCounter := rfl
@[simp] theorem State.onEntry_inflow (i : Nat) (f : QueueEntry → QueueEntry) : (s.onEntry i f).inflow = s.inflow := rfl
@[simp] theorem State.onEntry_outflow (i : Nat) (f : QueueEntry → QueueEntry) : (s.onEntry i f).outflow = s.outflow := rfl
@[simp] theorem State.onEntry_units (i : Nat) (f : QueueEntry → QueueEntry) : (s.onEntry i f).units = s.units := rfl
@[simp] theorem State.onEntry_alloc (i : Nat) (f : QueueEntry → QueueEntry) : (s.onEntry i f).alloc = s.alloc := rfl
@[simp] theorem State.onEntry_channels (i : Nat) (f : QueueEntry → QueueEntry) : (s.onEntry i f).channels = s.channels := rfl
@[simp] theorem State.onEntry_circuits (i : Nat) (f : QueueEntry → QueueEntry) : (s.onEntry i f).circuits = s.circuits := rfl
@[simp] theorem State.onEntry_valves (i : Nat) (f : QueueEntry → QueueEntry) : (s.onEntry i f).valves = s.valves := rfl
@[simp] theorem State.onEntry_reservoir (i : Nat) (f : QueueEntry → QueueEntry) : (s.onEntry i f).reservoir = s.reservoir := rfl
@[simp] theorem State.onEntry_runs (i : Nat) (f : QueueEntry → QueueEntry) : (s.onEntry i f).runs = s.runs := rfl
@[simp] theorem State.onEntry_link (i : Nat) (f : QueueEntry → QueueEntry) : (s.onEntry i f).link = s.link := rfl
@[simp] theorem State.onEntry_lines (i : Nat) (f : QueueEntry → QueueEntry) : (s.onEntry i f).lines = s.lines := rfl
@[simp] theorem State.onEntry_resetHeld (i : Nat) (f : QueueEntry → QueueEntry) : (s.onEntry i f).resetHeld = s.resetHeld := rfl
@[simp] theorem State.onEntry_clockMs (i : Nat) (f : QueueEntry → QueueEntry) : (s.onEntry i f).clockMs = s.clockMs := rfl
@[simp] theorem State.onEntry_pending (i : Nat) (f : QueueEntry → QueueEntry) : (s.onEntry i f).pending = s.pending := rfl

/-! ### dropEntry -/

@[simp] theorem State.dropEntry_cfg (i : Nat) : (s.dropEntry i).cfg = s.cfg := rfl
@[simp] theorem State.dropEntry_enabled (i : Nat) : (s.dropEntry i).enabled = s.enabled := rfl
@[simp] theorem State.dropEntry_linings (i : Nat) : (s.dropEntry i).linings = s.linings := rfl
@[simp] theorem State.dropEntry_heats (i : Nat) : (s.dropEntry i).heats = s.heats := rfl
@[simp] theorem State.dropEntry_heatCounter (i : Nat) : (s.dropEntry i).heatCounter = s.heatCounter := rfl
@[simp] theorem State.dropEntry_inflow (i : Nat) : (s.dropEntry i).inflow = s.inflow := rfl
@[simp] theorem State.dropEntry_outflow (i : Nat) : (s.dropEntry i).outflow = s.outflow := rfl
@[simp] theorem State.dropEntry_units (i : Nat) : (s.dropEntry i).units = s.units := rfl
@[simp] theorem State.dropEntry_alloc (i : Nat) : (s.dropEntry i).alloc = s.alloc := rfl
@[simp] theorem State.dropEntry_channels (i : Nat) : (s.dropEntry i).channels = s.channels := rfl
@[simp] theorem State.dropEntry_circuits (i : Nat) : (s.dropEntry i).circuits = s.circuits := rfl
@[simp] theorem State.dropEntry_valves (i : Nat) : (s.dropEntry i).valves = s.valves := rfl
@[simp] theorem State.dropEntry_reservoir (i : Nat) : (s.dropEntry i).reservoir = s.reservoir := rfl
@[simp] theorem State.dropEntry_runs (i : Nat) : (s.dropEntry i).runs = s.runs := rfl
@[simp] theorem State.dropEntry_link (i : Nat) : (s.dropEntry i).link = s.link := rfl
@[simp] theorem State.dropEntry_lines (i : Nat) : (s.dropEntry i).lines = s.lines := rfl
@[simp] theorem State.dropEntry_resetHeld (i : Nat) : (s.dropEntry i).resetHeld = s.resetHeld := rfl
@[simp] theorem State.dropEntry_clockMs (i : Nat) : (s.dropEntry i).clockMs = s.clockMs := rfl
@[simp] theorem State.dropEntry_pending (i : Nat) : (s.dropEntry i).pending = s.pending := rfl

/-! ### notify -/

@[simp] theorem State.notify_cfg (k : NoticeKind) (n : Nat) (a b c : Option Int) : (s.notify k n a b c).cfg = s.cfg := rfl
@[simp] theorem State.notify_enabled (k : NoticeKind) (n : Nat) (a b c : Option Int) : (s.notify k n a b c).enabled = s.enabled := rfl
@[simp] theorem State.notify_linings (k : NoticeKind) (n : Nat) (a b c : Option Int) : (s.notify k n a b c).linings = s.linings := rfl
@[simp] theorem State.notify_heats (k : NoticeKind) (n : Nat) (a b c : Option Int) : (s.notify k n a b c).heats = s.heats := rfl
@[simp] theorem State.notify_heatCounter (k : NoticeKind) (n : Nat) (a b c : Option Int) : (s.notify k n a b c).heatCounter = s.heatCounter := rfl
@[simp] theorem State.notify_inflow (k : NoticeKind) (n : Nat) (a b c : Option Int) : (s.notify k n a b c).inflow = s.inflow := rfl
@[simp] theorem State.notify_outflow (k : NoticeKind) (n : Nat) (a b c : Option Int) : (s.notify k n a b c).outflow = s.outflow := rfl
@[simp] theorem State.notify_units (k : NoticeKind) (n : Nat) (a b c : Option Int) : (s.notify k n a b c).units = s.units := rfl
@[simp] theorem State.notify_alloc (k : NoticeKind) (n : Nat) (a b c : Option Int) : (s.notify k n a b c).alloc = s.alloc := rfl
@[simp] theorem State.notify_channels (k : NoticeKind) (n : Nat) (a b c : Option Int) : (s.notify k n a b c).channels = s.channels := rfl
@[simp] theorem State.notify_circuits (k : NoticeKind) (n : Nat) (a b c : Option Int) : (s.notify k n a b c).circuits = s.circuits := rfl
@[simp] theorem State.notify_valves (k : NoticeKind) (n : Nat) (a b c : Option Int) : (s.notify k n a b c).valves = s.valves := rfl
@[simp] theorem State.notify_reservoir (k : NoticeKind) (n : Nat) (a b c : Option Int) : (s.notify k n a b c).reservoir = s.reservoir := rfl
@[simp] theorem State.notify_runs (k : NoticeKind) (n : Nat) (a b c : Option Int) : (s.notify k n a b c).runs = s.runs := rfl
@[simp] theorem State.notify_taps (k : NoticeKind) (n : Nat) (a b c : Option Int) : (s.notify k n a b c).taps = s.taps := rfl
@[simp] theorem State.notify_lines (k : NoticeKind) (n : Nat) (a b c : Option Int) : (s.notify k n a b c).lines = s.lines := rfl
@[simp] theorem State.notify_resetHeld (k : NoticeKind) (n : Nat) (a b c : Option Int) : (s.notify k n a b c).resetHeld = s.resetHeld := rfl
@[simp] theorem State.notify_clockMs (k : NoticeKind) (n : Nat) (a b c : Option Int) : (s.notify k n a b c).clockMs = s.clockMs := rfl
@[simp] theorem State.notify_pending (k : NoticeKind) (n : Nat) (a b c : Option Int) : (s.notify k n a b c).pending = s.pending := rfl

/-! ### The changed field -/

@[simp] theorem State.onHeat_heats (st : Station) (f : StationHeat → StationHeat) :
    (s.onHeat st f).heats = place s.heats st (f (look s.heats st)) := rfl
@[simp] theorem State.onRecord_heats (st : Station) (f : HeatRec → HeatRec) : (s.onRecord st f).heats =
    place s.heats st { look s.heats st with record := f (look s.heats st).record } := rfl
@[simp] theorem State.onUnit_units (u : UnitId) (f : PowerUnit → PowerUnit) :
    (s.onUnit u f).units = place s.units u (f (look s.units u)) := rfl
@[simp] theorem State.onRun_runs (p : Program) (f : RunState → RunState) :
    (s.onRun p f).runs = place s.runs p (f (look s.runs p)) := rfl
@[simp] theorem State.onChannel_channels (c : Channel) (f : ChannelSt → ChannelSt) :
    (s.onChannel c f).channels = place s.channels c (f (look s.channels c)) := rfl
@[simp] theorem State.onCircuit_circuits (c : Circuit) (f : CircuitSt → CircuitSt) :
    (s.onCircuit c f).circuits = place s.circuits c (f (look s.circuits c)) := rfl
@[simp] theorem State.onLink_link (f : Link → Link) : (s.onLink f).link = f s.link := rfl
@[simp] theorem State.onCfg_cfg (f : Settings → Settings) : (s.onCfg f).cfg = f s.cfg := rfl
@[simp] theorem State.withEntries_entries (es : List QueueEntry) : (s.withEntries es).taps.entries = es := rfl
@[simp] theorem State.withEntries_counter (es : List QueueEntry) :
    (s.withEntries es).taps.permitCounter = s.taps.permitCounter := rfl
@[simp] theorem State.onEntry_entries (i : Nat) (f : QueueEntry → QueueEntry) :
    (s.onEntry i f).taps.entries = s.taps.entries.modify i f := rfl
@[simp] theorem State.dropEntry_entries (i : Nat) : (s.dropEntry i).taps.entries = s.taps.entries.eraseIdx i := rfl

/-! ### Accessors of one station, unit or program -/

@[simp] theorem State.onHeat_heat (a b : Station) (f : StationHeat → StationHeat) :
    (s.onHeat a f).heat b = if a = b then f (s.heat a) else s.heat b := by simp [State.heat, look_place]
@[simp] theorem State.onRecord_heat (a b : Station) (f : HeatRec → HeatRec) :
    (s.onRecord a f).heat b = if a = b then { s.heat a with record := f (s.heat a).record } else s.heat b := by
  simp [State.heat, look_place]
@[simp] theorem State.onRecord_record (a b : Station) (f : HeatRec → HeatRec) :
    (s.onRecord a f).record b = if a = b then f (s.record a) else s.record b := by
  simp only [State.record, State.onRecord_heats, look_place]; split <;> rfl
@[simp] theorem State.onUnit_unit (a b : UnitId) (f : PowerUnit → PowerUnit) :
    (s.onUnit a f).unit b = if a = b then f (s.unit a) else s.unit b := by simp [State.unit, look_place]
@[simp] theorem State.onRun_run (a b : Program) (f : RunState → RunState) :
    (s.onRun a f).run b = if a = b then f (s.run a) else s.run b := by simp [State.run, look_place]

end Sys2Proof.Machine
end

