-- ==== Sys2Proof/Laws/Frames.lean ====
section
/-!
SUPPORT. What the blocks' shared work leaves alone: each operation that a block does for another is `Internal`, it changes heats, units,
valves, the tap queue and the notice queue, and nothing else.
-/

namespace Sys2Proof.Machine

theorem Untouched.refl (s : State) : Untouched s s := by constructor <;> rfl

theorem Untouched.trans {a b c : State} (h : Untouched a b) (k : Untouched b c) : Untouched a c := by
  constructor
  · exact k.cfg.trans h.cfg
  · exact k.enabled.trans h.enabled
  · exact k.linings.trans h.linings
  · exact k.heatCounter.trans h.heatCounter
  · exact k.inflow.trans h.inflow
  · exact k.outflow.trans h.outflow
  · exact k.alloc.trans h.alloc
  · exact k.channels.trans h.channels
  · exact k.circuits.trans h.circuits
  · exact k.reservoir.trans h.reservoir
  · exact k.runs.trans h.runs
  · exact k.lines.trans h.lines
  · exact k.resetHeld.trans h.resetHeld
  · exact k.clockMs.trans h.clockMs
  · exact k.pending.trans h.pending

/-- `Untouched`, and of the link only the notice queue and its mark may change. -/
structure Internal (s t : State) : Prop where
  rest : Untouched s t
  link : t.link.bare = s.link.bare

theorem Internal.refl (s : State) : Internal s s := ⟨Untouched.refl s, rfl⟩

theorem Internal.trans {a b c : State} (h : Internal a b) (k : Internal b c) : Internal a c :=
  ⟨h.rest.trans k.rest, k.link.trans h.link⟩

/-- A fold of internal work is internal. -/
theorem Internal.foldl {α : Type} (f : State → α → State) (h : ∀ s a, Internal s (f s a)) (xs : List α) (s : State) :
    Internal s (xs.foldl f s) := by
  induction xs generalizing s with
  | nil => exact Internal.refl s
  | cons x xs ih => exact (h s x).trans (ih _)

variable (s : State)

theorem notify_internal (k : NoticeKind) (n : Nat) (a b c : Option Int) : Internal s (s.notify k n a b c) :=
  ⟨by constructor <;> rfl, rfl⟩
theorem onHeat_internal (st : Station) (f : StationHeat → StationHeat) : Internal s (s.onHeat st f) :=
  ⟨by constructor <;> rfl, rfl⟩
theorem onRecord_internal (st : Station) (f : HeatRec → HeatRec) : Internal s (s.onRecord st f) :=
  ⟨by constructor <;> rfl, rfl⟩
theorem onUnit_internal (u : UnitId) (f : PowerUnit → PowerUnit) : Internal s (s.onUnit u f) :=
  ⟨by constructor <;> rfl, rfl⟩
theorem withEntries_internal (es : List QueueEntry) : Internal s (s.withEntries es) := ⟨by constructor <;> rfl, rfl⟩
theorem onEntry_internal (i : Nat) (f : QueueEntry → QueueEntry) : Internal s (s.onEntry i f) :=
  ⟨by constructor <;> rfl, rfl⟩
theorem dropEntry_internal (i : Nat) : Internal s (s.dropEntry i) := ⟨by constructor <;> rfl, rfl⟩

theorem startChangeover_internal (u : UnitId) (t : Station) : Internal s (startChangeover u t s) := onUnit_internal s u _

theorem autoEvaluate_internal (u : UnitId) : Internal s (autoEvaluate u s) := by
  unfold autoEvaluate
  split
  · exact startChangeover_internal s u _
  · exact Internal.refl s

theorem recompute_internal (st : Station) : Internal s (recompute st s) := by
  unfold recompute
  simp only
  split
  · exact onHeat_internal s st _
  · split
    · exact (onHeat_internal s st _).trans (autoEvaluate_internal _ _)
    · exact onHeat_internal s st _

theorem assign_internal (i : Nat) (e : QueueEntry) (st : Station) : Internal s (assign i e st s) :=
  (((onEntry_internal s i _).trans (onRecord_internal _ st _)).trans (recompute_internal _ st)).trans (notify_internal _ _ _ _ _ _)

theorem judgeEntry_internal (i : Nat) : Internal s (judgeEntry s i) := by
  unfold judgeEntry
  split
  · split
    · split
      · exact assign_internal s i _ _
      · exact Internal.refl s
    · exact Internal.refl s
  · exact Internal.refl s

theorem reexamine_internal : Internal s (reexamine s) := by
  unfold reexamine
  split
  · exact Internal.refl s
  · exact Internal.foldl judgeEntry (fun s i => judgeEntry_internal s i) _ s

theorem Internal.reexamined {s t : State} (h : Internal s t) : Internal s (reexamine t) := h.trans (reexamine_internal t)

theorem toHold_internal (st : Station) : Internal s (toHold st s) :=
  (onRecord_internal s st _).trans (recompute_internal _ st)

theorem release_internal (i : Nat) (e : QueueEntry) (st : Station) (why : ReleaseReason) :
    Internal s (release i e st why s) :=
  (((onEntry_internal s i _).trans (toHold_internal _ st)).trans (notify_internal _ _ _ _ _ _)).trans (reexamine_internal _)

theorem releaseCheck_internal (st : Station) : Internal s (releaseCheck st s) := by
  unfold releaseCheck
  split
  · split
    · exact release_internal s _ _ _ _
    · exact Internal.refl s
  · exact Internal.refl s

theorem waterRelease_internal (st : Station) : Internal s (waterRelease st s) := by
  unfold waterRelease
  split
  · exact release_internal s _ _ _ _
  · exact Internal.refl s

theorem dipWantedCheck_internal (st : Station) : Internal s (dipWantedCheck st s) := by
  unfold dipWantedCheck
  split
  · split
    · split
      · split
        · exact (onEntry_internal s _ _).trans (notify_internal _ _ _ _ _ _)
        · exact Internal.refl s
      · exact onEntry_internal s _ _
    · exact Internal.refl s
  · exact Internal.refl s

theorem issuePermit_internal (i : Nat) (e : QueueEntry) (st : Station) : Internal s (issuePermit i e st s) :=
  ⟨by constructor <;> rfl, rfl⟩

theorem readinessCheck_internal (st : Station) : Internal s (readinessCheck st s) := by
  unfold readinessCheck
  split
  · split
    · split
      · exact issuePermit_internal s _ _ _
      · exact Internal.refl s
    · exact Internal.refl s
  · exact Internal.refl s

theorem stationChecks_internal (st : Station) : Internal s (stationChecks st s) :=
  ((releaseCheck_internal s st).trans (dipWantedCheck_internal _ st)).trans (readinessCheck_internal _ st)

theorem openValve_internal (cause : Nat) (st : Station) : Internal s (openValve cause s st) := by
  unfold openValve
  split
  · exact Internal.refl s
  · exact ⟨by constructor <;> rfl, rfl⟩

theorem closeValve_internal (cause : Nat) (st : Station) : Internal s (closeValve cause s st) := by
  unfold closeValve
  split
  · exact ⟨by constructor <;> rfl, rfl⟩
  · exact Internal.refl s

theorem openIfMetal_internal (cause : Nat) (st : Station) : Internal s (openIfMetal cause s st) := by
  unfold openIfMetal
  split
  · exact openValve_internal s cause st
  · exact Internal.refl s

theorem beginMetal_internal (st : Station) : Internal s (beginMetal st s) := by
  unfold beginMetal
  split
  · exact openValve_internal s _ st
  · exact Internal.refl s

theorem raise_internal (f : HeatFlag) (st : Station) : Internal s (raise f st s) := by
  unfold raise
  simp only
  split
  · have h1 := onRecord_internal s st (fun r => { r with flags := setFlag r.flags f })
    have h2 := h1.trans (notify_internal _ .heatFlag (stationCode st) (nat f.bit) (nat (s.record st).heatNo) (nat (s.record st).tEst))
    split <;> split
    · exact h1.reexamined.trans (waterRelease_internal _ st)
    · exact h2.reexamined.trans (waterRelease_internal _ st)
    · exact h1
    · exact h2
  · exact Internal.refl s

theorem enterEmpty_internal (st : Station) : Internal s (enterEmpty st s) :=
  ((onHeat_internal s st _).trans (closeValve_internal _ _ st)).trans (recompute_internal _ st)

theorem noticeChangeover_internal (u : UnitId) (how : ChangeoverEnd) : Internal s (noticeChangeover u how s) :=
  notify_internal s _ _ _ _ _

theorem enterInhibited_internal (u : UnitId) (ended : Option ChangeoverEnd) : Internal s (enterInhibited u ended s) := by
  unfold enterInhibited
  apply Internal.reexamined
  have h := (onUnit_internal s u (fun p =>
    { p with state := .inhibited, grant := 0, decayTimer := none, settleTimer := none, inhibitedMs := 0 })).trans
    (notify_internal _ .trip (unitCode u) (nat (s.unit u).causes.bits) (nat (programBits (s.tripPrograms u)))
      (nat (stationOrNone (s.unit u).position)))
  cases ended with
  | none => exact h
  | some how => exact h.trans (noticeChangeover_internal _ u how)

theorem noticeTripClear_internal (u : UnitId) : Internal s (noticeTripClear u s) := notify_internal s _ _ _ _ _

theorem leaveInhibited_internal (u : UnitId) : Internal s (leaveInhibited u s) :=
  (((onUnit_internal s u _).trans (noticeTripClear_internal _ u)).trans (autoEvaluate_internal _ u)).trans (reexamine_internal _)

theorem abandonRamp_internal (u : UnitId) : Internal s (abandonRamp u s) :=
  ((onUnit_internal s u _).trans (noticeChangeover_internal _ u _)).trans (autoEvaluate_internal _ u)

theorem rejudge_internal (u : UnitId) : Internal s (rejudge u s) := by
  unfold rejudge
  simp only
  split
  · split
    · exact leaveInhibited_internal s u
    · exact Internal.refl s
  · split
    · exact enterInhibited_internal s u _
    · split
      · exact abandonRamp_internal s u
      · exact Internal.refl s
  · split
    · exact enterInhibited_internal s u _
    · exact Internal.refl s
  · split
    · exact enterInhibited_internal s u _
    · exact Internal.refl s
  · split
    · exact enterInhibited_internal s u _
    · exact Internal.refl s

theorem evaluateIfOther_internal (st : Station) : Internal s (evaluateIfOther st s) := by
  unfold evaluateIfOther
  split
  · split
    · exact Internal.refl s
    · exact autoEvaluate_internal s _
  · exact Internal.refl s

theorem handSetChange_internal (t : Target) (wasBarred : Bool) : Internal s (handSetChange t wasBarred s) := by
  unfold handSetChange
  split
  · exact rejudge_internal s _
  · simp only
    apply Internal.reexamined
    have key : ∀ st x, Internal s x → Internal s (if (wasBarred && !x.barred st) = true then evaluateIfOther st x else x) := by
      intro st x h
      split
      · exact h.trans (evaluateIfOther_internal x st)
      · exact h
    apply key
    split
    · exact rejudge_internal s _
    · exact Internal.refl s

theorem recomputeMelting_internal : Internal s (recomputeMelting s) :=
  Internal.foldl _ (fun s st => by
    split
    · exact recompute_internal s st
    · exact Internal.refl s) _ s

theorem noticeLining_internal (st : Station) : Internal s (noticeLining st s) := notify_internal s _ _ _ _ _

theorem liningEdge_internal (st : Station) (before : LiningRec) : Internal s (liningEdge st before s) := by
  unfold liningEdge
  split
  · exact noticeLining_internal s st
  · exact Internal.refl s

end Sys2Proof.Machine
end

