-- ==== Sys2Proof/Laws/Link.lean ====
section
/-!
SUPPORT. The link controller's shared operations, each with one lemma that says all it can do: placing a notice, the transmitter's choice, an
event while the part runs, and the dispatch of a request.
-/

namespace Sys2Proof.Machine

/-! ## The notice queue (R175, R176) -/

/-- Placing a notice: room at the tail; the oldest class-B notice gives way; with class A alone, an older class-A notice gives way to a class-A
one and a class-B one is discarded. -/
theorem placeNotice_cases (q : List Notice) (n : Notice) :
    (q.length < 32 ∧ placeNotice q n = (q ++ [n], false)) ∨
    (32 ≤ q.length ∧ (∃ m ∈ q, m.classA = false) ∧ placeNotice q n = (q.eraseP (fun m => !m.classA) ++ [n], true)) ∨
    (32 ≤ q.length ∧ (∀ m ∈ q, m.classA = true) ∧ n.classA = true ∧ placeNotice q n = (q.tail ++ [n], true)) ∨
    (32 ≤ q.length ∧ (∀ m ∈ q, m.classA = true) ∧ n.classA = false ∧ placeNotice q n = (q, true)) := by
  by_cases h : q.length < 32
  · exact .inl ⟨h, by simp [placeNotice, Config.noticeDepth, h]⟩
  · have h32 : 32 ≤ q.length := by omega
    by_cases hb : ∃ m ∈ q, m.classA = false
    · refine .inr (.inl ⟨h32, hb, ?_⟩)
      have : q.any (fun m => !m.classA) = true := by simpa using hb
      simp [placeNotice, Config.noticeDepth, h, this]
    · have ha : ∀ m ∈ q, m.classA = true := by
        intro m hm
        by_contra hc
        exact hb ⟨m, hm, by simpa using hc⟩
      have : q.any (fun m => !m.classA) = false := by simpa using ha
      by_cases hn : n.classA = true
      · exact .inr (.inr (.inl ⟨h32, ha, hn, by simp [placeNotice, Config.noticeDepth, h, this, hn]⟩))
      · exact .inr (.inr (.inr ⟨h32, ha, by simpa using hn, by simp [placeNotice, Config.noticeDepth, h, this, hn]⟩))

/-- A notice queue within its depth stays within it. -/
theorem placeNotice_length (q : List Notice) (n : Notice) (h : q.length ≤ 32) : (placeNotice q n).1.length ≤ 32 := by
  rcases placeNotice_cases q n with ⟨h1, e⟩ | ⟨h1, ⟨m, hm, hc⟩, e⟩ | ⟨h1, -, -, e⟩ | ⟨h1, -, -, e⟩ <;> rw [e]
  · simp; omega
  · have := List.length_eraseP_of_mem (p := fun m : Notice => !m.classA) hm (by simp [hc])
    simp [this]; omega
  · simp; omega
  · exact h

/-! ## The transmitter (R177) -/

/-- The transmitter's choice: it takes nothing; or the pending reply; or the oldest notice. -/
theorem nextFrame_cases (s : State) :
    nextFrame s = s ∨
    (∃ r, s.link.pendingReply = some r ∧ s.link.sending = none ∧
      nextFrame s = s.onLink (fun l => { l with sending := some (.reply r), pendingReply := none })) ∨
    (∃ n rest, s.link.pendingReply = none ∧ s.link.notices = n :: rest ∧ s.link.sending = none ∧
      nextFrame s = s.onLink (fun l => { l with sending := some (.notice n), notices := rest })) := by
  unfold nextFrame
  split
  · exact .inl rfl
  · rename_i hc
    have hs : s.link.sending = none := by
      rcases h : s.link.sending with _ | f
      · rfl
      · simp [h] at hc
    split
    · rename_i r hr
      exact .inr (.inl ⟨r, hr, hs, rfl⟩)
    · rename_i hr
      split
      · rename_i n rest hn
        exact .inr (.inr ⟨n, rest, hr, hn, hs, rfl⟩)
      · exact .inl rfl

/-- The transmitter's choice touches the link alone. -/
theorem nextFrame_link_alone (s : State) : ∃ l, nextFrame s = { s with link := l } := by
  rcases nextFrame_cases s with h | ⟨r, -, -, h⟩ | ⟨n, rest, -, -, -, h⟩ <;> rw [h]
  · exact ⟨s.link, rfl⟩
  · exact ⟨_, rfl⟩
  · exact ⟨_, rfl⟩

theorem nextFrame_untouched (s : State) : Untouched s (nextFrame s) := by
  obtain ⟨l, h⟩ := nextFrame_link_alone s
  rw [h]
  constructor <;> rfl

@[simp] theorem nextFrame_heats (s : State) : (nextFrame s).heats = s.heats := by
  obtain ⟨l, h⟩ := nextFrame_link_alone s; rw [h]
@[simp] theorem nextFrame_units (s : State) : (nextFrame s).units = s.units := by
  obtain ⟨l, h⟩ := nextFrame_link_alone s; rw [h]
@[simp] theorem nextFrame_valves (s : State) : (nextFrame s).valves = s.valves := by
  obtain ⟨l, h⟩ := nextFrame_link_alone s; rw [h]
@[simp] theorem nextFrame_taps (s : State) : (nextFrame s).taps = s.taps := by
  obtain ⟨l, h⟩ := nextFrame_link_alone s; rw [h]

/-- A busy transmitter takes nothing. -/
theorem nextFrame_busy (s : State) (h : s.link.sending.isSome = true) : nextFrame s = s := by
  simp [nextFrame, h]

/-- A transmitter for which nothing waits takes nothing. -/
theorem nextFrame_idle (s : State) (hp : s.link.pendingReply = none) (hn : s.link.notices = []) : nextFrame s = s := by
  unfold nextFrame
  split
  · rfl
  · rw [hp, hn]

/-! ## Events (R14) -/

/-- An event of the field or of a timer: nothing while the part is held; otherwise its effect and the transmitter's choice. -/
theorem whileRunning_cases (f : State → State) (s : State) :
    (s.resetHeld = true ∧ whileRunning f s = .next s) ∨
    (s.resetHeld = false ∧ whileRunning f s = .next (nextFrame (f s))) := by
  cases h : s.resetHeld
  · exact .inr ⟨rfl, by simp [whileRunning, h, done]⟩
  · exact .inl ⟨rfl, by simp [whileRunning, h]⟩

theorem whileRunning_taken (f : State → State) (s : State) (h : s.resetHeld = false) :
    whileRunning f s = .next (nextFrame (f s)) := by
  simp [whileRunning, h, done]

/-! ## Requests (R169, R170) -/

/-- A reply made pending is placed by the transmitter's choice, unless the part is held or its restart is due. -/
theorem nextFrame_reply (s : State) (r : Reply) (hh : s.resetHeld = false) (hr : s.link.restart ≠ .due) :
    nextFrame (s.onLink (fun l => { l with pendingReply := some r })) = s.posted r := by
  unfold State.posted nextFrame
  cases hs : s.link.sending <;> simp [State.onLink, hh, hr, hs]

/-- A dispatched request: its owner's answer is placed, whichever owner it is that neither holds the part nor makes a restart due. -/
theorem serve_taken (kind tag : Byte) (payload : List Byte) (judge : State → Answer) (s : State)
    (hh : s.resetHeld = false) (hp : s.link.pendingReply = none) (hr : s.link.restart = .none)
    (hx : s.link.rx = [] ∨ s.link.rx.head? = some { kind, tag, payload })
    (ha : (judge s.popped).state.resetHeld = false) (hd : (judge s.popped).state.link.restart ≠ .due) :
    serve kind tag payload judge s =
      .next ((judge s.popped).state.posted { kind, tag, code := (judge s.popped).code, data := (judge s.popped).data }) := by
  have ho : s.dispatchOpen = true := by simp [State.dispatchOpen, hh, hp, hr]
  have ht : s.takeHead { kind, tag, payload } = some s.popped := by
    unfold State.takeHead
    rcases hx with hx | hx
    · have : s.popped = s := by
        rcases s with ⟨_, _, _, _, _, _, _, _, _, _, _, _, _, _, _, l, _, _, _, _⟩
        rcases l
        simp_all [State.popped]
      rw [hx, this]
    · cases hq : s.link.rx with
      | nil => simp [hq] at hx
      | cons g rest =>
        rw [hq] at hx
        simp only [List.head?_cons, Option.some.injEq] at hx
        simp [hx, State.popped, State.onLink, hq]
  simp only [serve, ho, ht, placeReply, if_true]
  rw [nextFrame_reply _ _ ha hd]

/-- Whether a request row is taken, in its parts. -/
theorem takes_parts {s : State} {i : Instr} {kind tag : Byte} {payload : List Byte} (hf : i.frame = some (kind, tag, payload))
    (h : s.takes i = true) :
    s.resetHeld = false ∧ s.link.pendingReply = none ∧ s.link.restart = .none ∧
      (s.link.rx = [] ∨ s.link.rx.head? = some { kind, tag, payload }) := by
  simp only [State.takes, hf, Bool.and_eq_true, Bool.or_eq_true, decide_eq_true_eq, Bool.not_eq_true',
    Option.isNone_iff_eq_none, List.isEmpty_iff] at h
  exact ⟨h.1.1.1, h.1.1.2, h.1.2, h.2⟩

/-- A request row that is taken, its payload of the right length. -/
theorem serveRequest_taken {i : Instr} (k : RequestKind) (tag : Byte) (payload : List Byte) (owner : State → Answer) (s : State)
    (hf : i.frame = some (k.code, tag, payload)) (h : s.takes i = true) (hl : k.fits payload = true)
    (ha : (owner s.popped).state.resetHeld = false) (hd : (owner s.popped).state.link.restart ≠ .due) :
    serveRequest k tag payload owner s =
      .next ((owner s.popped).state.replied i (owner s.popped).code (owner s.popped).data) := by
  obtain ⟨hh, hp, hr, hx⟩ := takes_parts hf h
  have e : judged k payload owner s.popped = owner s.popped := by rw [judged, if_pos hl]
  rw [serveRequest, serve_taken _ _ _ _ _ hh hp hr hx (by rw [e]; exact ha) (by rw [e]; exact hd), e]
  simp [State.replied, replyTo, hf]

/-! ## Dispatch of what waits (R169) -/

/-- With no frame waiting nothing is dispatched. -/
theorem dispatchWaiting_empty (s : State) (h : s.link.rx = []) : dispatchWaiting s = s := by
  rw [dispatchWaiting, h]; rfl

/-- While a reply is pending, a restart is asked for, or the part is held, nothing is dispatched. -/
theorem dispatchWaiting_closed (s : State) (h : s.dispatchOpen = false) : dispatchWaiting s = s := by
  unfold dispatchWaiting
  cases s.link.rx.length
  · rfl
  · simp [dispatchUpTo, h]

/-- A property kept by the dispatch of one head frame is kept by the dispatch of all that wait. -/
theorem dispatchWaiting_keeps (P : State → Prop)
    (h : ∀ s f rest, P s → s.dispatchOpen = true → s.link.rx = f :: rest →
      P (placeReply f.kind f.tag (judgeFrame f (s.onLink (fun l => { l with rx := rest })))))
    (s : State) (hs : P s) : P (dispatchWaiting s) := by
  have key : ∀ n s, P s → P (dispatchUpTo n s) := by
    intro n
    induction n with
    | zero => exact fun _ hs => hs
    | succ n ih =>
      intro s hs
      unfold dispatchUpTo
      split
      · rename_i ho
        split
        · rename_i f rest hx
          exact ih _ (h s f rest hs ho hx)
        · exact hs
      · exact hs
  exact key _ s hs

/-- A request that leaves the state it was judged in: the link of the state before, answered. -/
theorem popped_posted (s : State) (r : Reply) : s.popped.posted r = { s with link := s.link.answered r } := rfl

/-- Internal work keeps what a reply needs: the part not held and its restart not due. -/
theorem Internal.open {s t : State} (h : Internal s t) : t.resetHeld = s.resetHeld ∧ t.link.restart = s.link.restart := by
  refine ⟨h.rest.resetHeld, ?_⟩
  have := congrArg Link.restart h.link
  exact this

/-- An owner that refuses leaves the state with the code alone for a reply. -/
theorem refuse_replied (s : State) (i : Instr) (code : ReplyCode) :
    (refuse s.popped code).state.replied i (refuse s.popped code).code (refuse s.popped code).data = s.refused i code := rfl

@[simp] theorem popped_cfg (s : State) : s.popped.cfg = s.cfg := rfl
@[simp] theorem popped_enabled (s : State) : s.popped.enabled = s.enabled := rfl
@[simp] theorem popped_linings (s : State) : s.popped.linings = s.linings := rfl
@[simp] theorem popped_heats (s : State) : s.popped.heats = s.heats := rfl
@[simp] theorem popped_units (s : State) : s.popped.units = s.units := rfl
@[simp] theorem popped_alloc (s : State) : s.popped.alloc = s.alloc := rfl
@[simp] theorem popped_circuits (s : State) : s.popped.circuits = s.circuits := rfl
@[simp] theorem popped_valves (s : State) : s.popped.valves = s.valves := rfl
@[simp] theorem popped_reservoir (s : State) : s.popped.reservoir = s.reservoir := rfl
@[simp] theorem popped_runs (s : State) : s.popped.runs = s.runs := rfl
@[simp] theorem popped_taps (s : State) : s.popped.taps = s.taps := rfl
@[simp] theorem popped_lines (s : State) : s.popped.lines = s.lines := rfl
@[simp] theorem popped_resetHeld (s : State) : s.popped.resetHeld = s.resetHeld := rfl
@[simp] theorem popped_restart (s : State) : s.popped.link.restart = s.link.restart := rfl
@[simp] theorem popped_silent (s : State) : s.popped.link.silent = s.link.silent := rfl

end Sys2Proof.Machine
end

