-- ==== Sys2Proof/Laws/Ops.lean ====
section
/-!
SUPPORT. The blocks' shared operations, each with one lemma that says all it can do, and the fields it never changes.
-/

namespace Sys2Proof.Machine

variable (s : State)

/-! ## AUTO scheduling and recomputation (R33, R76, R85, R86) -/

/-- Where an evaluation moves a unit, and when (R86). -/
theorem autoTarget_some {u : UnitId} {t : Station} (h : s.autoTarget u = some t) :
    (s.unit u).state = .feeding ∧ (s.unitRec u).mode = .auto ∧ s.reachable t = true ∧ t ∈ s.paired u ∧
    ∃ a, s.active u = some a ∧ t ≠ a ∧ (s.heat a).need.height < (s.heat t).need.height ∧
      (s.cfg.shop.minDwell ≤ (s.unit u).feedingTime ∨ (s.heat a).need = .idle ∨ (s.heat t).need = .urgent) := by
  unfold State.autoTarget at h
  split at h
  · rename_i hf
    split at h
    · rename_i a ha
      split at h
      · rename_i o ho
        split at h
        · rename_i hc
          cases h
          have hm := List.mem_of_find?_eq_some ho
          have hne := List.find?_some ho
          exact ⟨hf.1, hf.2, hc.2.1, hm, a, ha, by simpa using hne, hc.1, hc.2.2⟩
        · cases h
      · cases h
    · cases h
  · cases h

/-- An evaluation starts one changeover or does nothing. -/
theorem autoEvaluate_cases (u : UnitId) :
    (s.autoTarget u = none ∧ autoEvaluate u s = s) ∨
    (∃ t, s.autoTarget u = some t ∧ autoEvaluate u s = startChangeover u t s) := by
  unfold autoEvaluate
  cases h : s.autoTarget u
  · exact .inl ⟨rfl, rfl⟩
  · exact .inr ⟨_, rfl, rfl⟩

@[simp] theorem startChangeover_heats (u : UnitId) (t : Station) : (startChangeover u t s).heats = s.heats := rfl
@[simp] theorem startChangeover_taps (u : UnitId) (t : Station) : (startChangeover u t s).taps = s.taps := rfl
@[simp] theorem startChangeover_valves (u : UnitId) (t : Station) : (startChangeover u t s).valves = s.valves := rfl
@[simp] theorem startChangeover_link (u : UnitId) (t : Station) : (startChangeover u t s).link = s.link := rfl

@[simp] theorem autoEvaluate_heats (u : UnitId) : (autoEvaluate u s).heats = s.heats := by
  rcases autoEvaluate_cases s u with ⟨-, h⟩ | ⟨t, -, h⟩ <;> simp [h]
@[simp] theorem autoEvaluate_taps (u : UnitId) : (autoEvaluate u s).taps = s.taps := by
  rcases autoEvaluate_cases s u with ⟨-, h⟩ | ⟨t, -, h⟩ <;> simp [h]
@[simp] theorem autoEvaluate_valves (u : UnitId) : (autoEvaluate u s).valves = s.valves := by
  rcases autoEvaluate_cases s u with ⟨-, h⟩ | ⟨t, -, h⟩ <;> simp [h]
@[simp] theorem autoEvaluate_link (u : UnitId) : (autoEvaluate u s).link = s.link := by
  rcases autoEvaluate_cases s u with ⟨-, h⟩ | ⟨t, -, h⟩ <;> simp [h]

/-- A state with a station's request and class as they are to be (R35). -/
def State.demanded (s : State) (st : Station) : State :=
  s.onHeat st (fun h => { h with request := (s.demand st).1, need := (s.demand st).2 })

/-- A recomputation stores request and class, and starts at most one changeover, of the station's unit. -/
theorem recompute_cases (st : Station) :
    recompute st s = s.demanded st ∨
    (∃ u t, s.unitOf st = some u ∧ (s.demanded st).autoTarget u = some t ∧ recompute st s = startChangeover u t (s.demanded st)) := by
  unfold recompute
  simp only
  split
  · exact .inl rfl
  · split
    · rename_i u hu
      rcases autoEvaluate_cases (s.demanded st) u with ⟨-, h⟩ | ⟨t, ht, h⟩
      · exact .inl h
      · exact .inr ⟨u, t, hu, ht, h⟩
    · exact .inl rfl

@[simp] theorem recompute_heats (st : Station) : (recompute st s).heats =
    place s.heats st { look s.heats st with request := (s.demand st).1, need := (s.demand st).2 } := by
  rcases recompute_cases s st with h | ⟨u, t, -, -, h⟩ <;> simp [h, State.demanded]
@[simp] theorem recompute_taps (st : Station) : (recompute st s).taps = s.taps := by
  rcases recompute_cases s st with h | ⟨u, t, -, -, h⟩ <;> simp [h, State.demanded]
@[simp] theorem recompute_valves (st : Station) : (recompute st s).valves = s.valves := by
  rcases recompute_cases s st with h | ⟨u, t, -, -, h⟩ <;> simp [h, State.demanded]
@[simp] theorem recompute_link (st : Station) : (recompute st s).link = s.link := by
  rcases recompute_cases s st with h | ⟨u, t, -, -, h⟩ <;> simp [h, State.demanded]

/-- A recomputation changes no record. -/
@[simp] theorem recompute_record (a b : Station) : (recompute a s).record b = s.record b := by
  simp only [State.record, recompute_heats, look_place]
  split
  · rename_i h; subst h; rfl
  · rfl

/-! ## The tap queue (R151 to R155) -/

/-- The oldest of a list of stations is one of them. -/
theorem oldest_mem {xs : List Station} {st : Station} (h : s.oldest xs = some st) : st ∈ xs := by
  induction xs generalizing st with
  | nil => simp [State.oldest] at h
  | cons x xs ih =>
    unfold State.oldest at h
    split at h
    · simp_all
    · rename_i b hb
      split at h
      · cases h; exact List.mem_cons_of_mem _ (ih hb)
      · cases h; exact List.mem_cons_self ..

/-- A station an entry takes is eligible for it (R152). -/
theorem choice_eligible {e : QueueEntry} {st : Station} (h : s.choice e = some st) : s.eligible e st = true := by
  have := oldest_mem s h
  exact (List.mem_filter.mp this).2

/-- What eligibility says (R152). -/
theorem eligible_parts {e : QueueEntry} {st : Station} (h : s.eligible e st = true) :
    (s.record st).phase = .hold ∧ (s.record st).solid = 0 ∧ (s.record st).grade = some e.grade ∧ s.holdsAbove st e.mass = true ∧
    s.entryOf st = none ∧ s.barred st = false ∧ s.unitInhibited st = false ∧ hasFlag (s.record st).flags .water = false := by
  simp only [State.eligible, Bool.and_eq_true, decide_eq_true_eq, Option.isNone_iff_eq_none, Bool.not_eq_true'] at h
  obtain ⟨⟨⟨⟨⟨⟨⟨h1, h2⟩, h3⟩, h4⟩, h5⟩, h6⟩, h7⟩, h8⟩ := h
  exact ⟨h1, h2, h3, h4, h5, h6, h7, h8⟩

/-- One entry judged: nothing, or one assignment of an unassigned entry to an eligible station. -/
theorem judgeEntry_cases (i : Nat) :
    judgeEntry s i = s ∨
    (∃ e st, s.taps.entries[i]? = some e ∧ e.station = none ∧ s.choice e = some st ∧ judgeEntry s i = assign i e st s) := by
  unfold judgeEntry
  split
  · rename_i e he
    split
    · rename_i hn
      split
      · rename_i st hc
        exact .inr ⟨e, st, he, by simpa using hn, hc, rfl⟩
      · exact .inl rfl
    · exact .inl rfl
  · exact .inl rfl

/-- A property kept by one assignment to an eligible station is kept by a re-examination (R151). -/
theorem reexamine_keeps (P : State → Prop)
    (h : ∀ s i e st, P s → s.taps.entries[i]? = some e → e.station = none → s.choice e = some st → P (assign i e st s))
    (hs : P s) : P (reexamine s) := by
  unfold reexamine
  split
  · exact hs
  · have key : ∀ xs s, P s → P (List.foldl judgeEntry s xs) := by
      intro xs
      induction xs with
      | nil => exact fun _ h => h
      | cons i xs ih =>
        intro s hs
        refine ih _ ?_
        rcases judgeEntry_cases s i with e | ⟨e, st, h1, h2, h3, e'⟩
        · rw [e]; exact hs
        · rw [e']; exact h s i e st hs h1 h2 h3
    exact key _ s hs

/-- While the link is silent a re-examination does nothing (R165). -/
theorem reexamine_silent (h : s.link.silent = true) : reexamine s = s := by simp [reexamine, h]

/-- With an empty queue a re-examination does nothing. -/
theorem reexamine_empty (h : s.taps.entries = []) : reexamine s = s := by
  unfold reexamine
  rw [h]
  split <;> rfl

@[simp] theorem judgeEntry_valves (i : Nat) : (judgeEntry s i).valves = s.valves := by
  rcases judgeEntry_cases s i with h | ⟨e, st, -, -, -, h⟩ <;> rw [h]
  simp [assign]

@[simp] theorem reexamine_valves : (reexamine s).valves = s.valves :=
  reexamine_keeps s (fun t => t.valves = s.valves)
    (fun t i e st h _ _ _ => by
      have : (assign i e st t).valves = t.valves := by simp [assign]
      rw [this]; exact h) rfl

/-! ## Valves (R119, R125) -/

/-- Opening a valve: nothing if it is OPEN; otherwise it opens and one notice is queued. -/
theorem openValve_cases (cause : Nat) (st : Station) :
    (look s.valves st = true ∧ openValve cause s st = s) ∨
    (look s.valves st = false ∧ openValve cause s st =
      { s with valves := place s.valves st true }.notify .emergencyWater (stationCode st) (nat 0) (nat cause) (nat s.reservoir.drawn)) := by
  unfold openValve
  cases h : look s.valves st
  · exact .inr ⟨rfl, rfl⟩
  · exact .inl ⟨rfl, rfl⟩

/-- Closing a valve: nothing if it is CLOSED; otherwise it closes and one notice is queued. -/
theorem closeValve_cases (cause : Nat) (st : Station) :
    (look s.valves st = false ∧ closeValve cause s st = s) ∨
    (look s.valves st = true ∧ closeValve cause s st =
      { s with valves := place s.valves st false }.notify .emergencyWater (stationCode st) (nat 1) (nat cause) (nat s.reservoir.drawn)) := by
  unfold closeValve
  cases h : look s.valves st
  · exact .inl ⟨rfl, rfl⟩
  · exact .inr ⟨rfl, rfl⟩

@[simp] theorem openValve_heats (cause : Nat) (st : Station) : (openValve cause s st).heats = s.heats := by
  rcases openValve_cases s cause st with ⟨-, h⟩ | ⟨-, h⟩ <;> simp [h]
@[simp] theorem openValve_units (cause : Nat) (st : Station) : (openValve cause s st).units = s.units := by
  rcases openValve_cases s cause st with ⟨-, h⟩ | ⟨-, h⟩ <;> simp [h]
@[simp] theorem openValve_taps (cause : Nat) (st : Station) : (openValve cause s st).taps = s.taps := by
  rcases openValve_cases s cause st with ⟨-, h⟩ | ⟨-, h⟩ <;> simp [h]
theorem openValve_valves (cause : Nat) (st : Station) : (openValve cause s st).valves = place s.valves st true := by
  rcases openValve_cases s cause st with ⟨hv, h⟩ | ⟨-, h⟩ <;> rw [h]
  · rw [← hv]; simp
  · rfl

@[simp] theorem closeValve_heats (cause : Nat) (st : Station) : (closeValve cause s st).heats = s.heats := by
  rcases closeValve_cases s cause st with ⟨-, h⟩ | ⟨-, h⟩ <;> simp [h]
@[simp] theorem closeValve_units (cause : Nat) (st : Station) : (closeValve cause s st).units = s.units := by
  rcases closeValve_cases s cause st with ⟨-, h⟩ | ⟨-, h⟩ <;> simp [h]
@[simp] theorem closeValve_taps (cause : Nat) (st : Station) : (closeValve cause s st).taps = s.taps := by
  rcases closeValve_cases s cause st with ⟨-, h⟩ | ⟨-, h⟩ <;> simp [h]
theorem closeValve_valves (cause : Nat) (st : Station) : (closeValve cause s st).valves = place s.valves st false := by
  rcases closeValve_cases s cause st with ⟨hv, h⟩ | ⟨-, h⟩ <;> rw [h]
  · rw [← hv]; simp
  · rfl

/-! ## Units (R71, R74, R82) -/

/-- Re-judging a unit does one of four things (R71, R74, R82): nothing; it enters INHIBITED, a changeover in RAMP_DOWN or SETTLING ending; it
leaves INHIBITED; it abandons a RAMP_DOWN whose target is barred or OFF. -/
theorem rejudge_cases (u : UnitId) :
    rejudge u s = s ∨
    (s.tripsEmpty u = false ∧ (s.unit u).state ≠ .inhibited ∧ ∃ ended, rejudge u s = enterInhibited u ended s) ∨
    (s.tripsEmpty u = true ∧ (s.unit u).state = .inhibited ∧ (s.unit u).travel = none ∧ (s.unit u).position.isSome = true ∧
      rejudge u s = leaveInhibited u s) ∨
    (s.tripsEmpty u = true ∧ ∃ t, (s.unit u).state = .rampDown t ∧ (s.barred t = true ∨ s.phase t = .off) ∧
      rejudge u s = abandonRamp u s) := by
  unfold rejudge
  simp only
  split
  · rename_i h
    split
    · rename_i hc
      simp only [Bool.and_eq_true, Option.isNone_iff_eq_none] at hc
      exact .inr (.inr (.inl ⟨hc.1.1, h, hc.1.2, hc.2, rfl⟩))
    · exact .inl rfl
  · rename_i t h
    split
    · rename_i hc
      exact .inr (.inl ⟨by simpa using hc, by rw [h]; simp, _, rfl⟩)
    · rename_i hc
      split
      · rename_i hb
        refine .inr (.inr (.inr ⟨by simpa using hc, t, h, ?_, rfl⟩))
        simpa using hb
      · exact .inl rfl
  · rename_i t h
    split
    · rename_i hc
      exact .inr (.inl ⟨by simpa using hc, by rw [h]; simp, _, rfl⟩)
    · exact .inl rfl
  · rename_i h
    split
    · rename_i hc
      exact .inr (.inl ⟨by simpa using hc, by rw [h]; simp, _, rfl⟩)
    · exact .inl rfl
  · rename_i t h
    split
    · rename_i hc
      exact .inr (.inl ⟨by simpa using hc, by rw [h]; simp, _, rfl⟩)
    · exact .inl rfl

/-- A heat flag occurrence outside the running phases has no effect (R37). -/
theorem raise_still (f : HeatFlag) (st : Station) (h : (s.phase st).running = false) : raise f st s = s := by
  unfold raise
  simp only
  split
  · rename_i hr
    change (s.phase st).running = true at hr
    simp [h] at hr
  · rfl

/-! ## The dwell expiry (R85) -/

/-- When a dwell expiry happens. -/
theorem dwellDue_iff (u : UnitId) : s.dwellDue u = true ↔
    (s.unit u).state = .feeding ∧ (s.unit u).dwellDone = false ∧ s.cfg.shop.minDwell ≤ (s.unit u).feedingTime := by
  simp [State.dwellDue, and_assoc]

/-- What a dwell expiry can do. -/
theorem dwellReached_cases (u : UnitId) :
    (s.dwellDue u = true ∧ dwellReached u s = autoEvaluate u (s.onUnit u (fun p => { p with dwellDone := true }))) ∨
    (s.dwellDue u = false ∧ dwellReached u s = s) := by
  cases h : s.dwellDue u <;> simp [dwellReached, h]

/-! ## The marks of a station's circuits (R8, R9, R113) -/

/-- Marking a station changes its coil and lead circuits, and no other piece of state. -/
theorem markStation_alone (st : Station) (on : Bool) :
    markStation st on s = { s with circuits := (markStation st on s).circuits } := rfl

/-- Each circuit after a station has been marked. -/
theorem markStation_circuit (st : Station) (on : Bool) (k : Circuit) :
    look (markStation st on s).circuits k = if k = coilOf st ∨ k = leadOf st then
      (if on then (look s.circuits k).marked else (look s.circuits k).unmarked) else look s.circuits k := by
  have hne : coilOf st ≠ leadOf st := by intro h; have := congrArg Fin.val h; simp [coilOf, leadOf] at this
  by_cases hl : k = leadOf st
  · subst hl
    cases on <;> simp [markStation, State.onCircuit, look_place, hne]
  · by_cases hc : k = coilOf st
    · subst hc
      cases on <;> simp [markStation, State.onCircuit, look_place, hl, hne.symm]
    · cases on <;> simp [markStation, State.onCircuit, look_place, hl, hc, Ne.symm hl, Ne.symm hc]

/-! ## Ranges (R172) -/

theorem clampTo_within {lo hi x : Nat} (h : lo ≤ hi) : lo ≤ clampTo lo hi x ∧ clampTo lo hi x ≤ hi := by
  unfold clampTo; omega

theorem clampTo_of_within {lo hi x : Nat} (h1 : lo ≤ x) (h2 : x ≤ hi) : clampTo lo hi x = x := by
  unfold clampTo; omega

theorem clampTo_eq_iff {lo hi x : Nat} (h : lo ≤ hi) : clampTo lo hi x = x ↔ lo ≤ x ∧ x ≤ hi := by
  unfold clampTo; omega

/-! ## Bytes (00_scope.md 6.3) -/

@[simp] theorem le_length (w n : Nat) : (le w n).length = w := by
  induction w generalizing n with
  | zero => rfl
  | succ w ih => simp [le, ih]

theorem u8At_byteOf {n : Nat} (h : n < 256) (rest : List Byte) : u8At (byteOf n :: rest) 0 = n := by
  simp [u8At, byteOf, Nat.mod_eq_of_lt h]

theorem u16At_le {n : Nat} (h : n < 65536) (rest : List Byte) : u16At (le 2 n ++ rest) 0 = n := by
  simp [u16At, u8At, le]; omega

end Sys2Proof.Machine
end

