-- ==== Sys2Proof/Tests/Slice0.lean ====
section
/-!
SUPPORT. The model's own checks: ill-formed commands refused, the worked examples of the manual as one command each on a small state, and for
every obligation with hypotheses a concrete state and operands that meet them (the theorems `witness_…`). Expected values are the manual's.
-/

namespace Sys2Proof.Tests
open Sys2Proof Sys2Proof.Machine

/-! ## A small shop to test on: the layout of request A in chapter 1, every station EMPTY, both units FEEDING at their position A -/

/-- The payload of LAYOUT request A (chapter 1, 1.1.2). -/
def layoutA : List Byte :=
  [1, 1] ++ le 2 6000 ++ [1, 1] ++ le 2 6000 ++ [1, 2] ++ le 2 8000 ++ [1, 2] ++ le 2 8000 ++ le 2 3600 ++ le 2 4000

/-- A unit FEEDING at a station with nothing against it. -/
def fed (st : Station) (grant : Nat) : PowerUnit :=
  { PowerUnit.afterReset Causes.clear (some st) with state := .feeding, feedingMs := 100000, dwellDone := true, grant }

/-- The shop of request A, running. -/
def floor : State :=
  { State.reset with
    cfg := { Settings.default with
      layout := layoutRecord layoutA ((layoutEntries layoutA).getD [])
      shop := { ShopRec.default with lInst := 7600 } }
    enabled := Vector.replicate 4 true
    heats := Vector.replicate 4 (StationHeat.clear .empty)
    units := #v[fed 0 0, fed 2 0]
    circuits := Vector.replicate 10 { CircuitSt.afterReset true with flow := some 840 }
    lines := { Lines.quiet with contacts := Vector.replicate 2 { a := true, b := false } } }

/-- A liquid G3 heat in HOLD. -/
def bath (liquid tEst : Nat) : HeatRec :=
  { HeatRec.clear .hold with grade := some 3, heatNo := 212, chargeNo := 3, liquid, tEst, liquidAge := some 600 }

/-- A G3 heat in MELT at the melt temperature. -/
def charge (solid liquid : Nat) : HeatRec :=
  { HeatRec.clear .melt with grade := some 3, heatNo := 212, chargeNo := 3, solid, liquid, tEst := 12500 }

/-- The state with a heat in a station. -/
def withHeat (s : State) (st : Station) (r : HeatRec) : State :=
  { s with heats := place s.heats st { StationHeat.clear r.phase with record := r, stepTimer := some 1000 } }

/-- The state with a unit record. -/
def withUnit (s : State) (u : UnitId) (p : PowerUnit) : State := { s with units := place s.units u p }

/-- The state with a station's η and L_ref, as in the worked cases of 2.4. -/
def withCoil (s : State) (st : Station) (eta lRef : Nat) : State :=
  { s with cfg := { s.cfg with stations := place s.cfg.stations st { StationRec.default with eta, lRef } } }

/-- A ladle in the queue. -/
def ladle (id mass target : Nat) (station : Option Station) (permit : Option Permit) : QueueEntry :=
  { ladle := id, grade := 3, mass, target, station, permit, expiries := 0, dipCall := none }

/-- The state with a tap queue. -/
def withQueue (s : State) (entries : List QueueEntry) : State := { s with taps := { entries, permitCounter := 7 } }

/-- A link that is silent. -/
def hush (s : State) : State := { s with link := { s.link with silent := true, silenceTimer := none } }

/-- The part held by its reset line. -/
def grip (s : State) : State := { s with resetHeld := true }

/-- What a command leaves. -/
def after (c : Instr) (s : State) : State :=
  match exec c s with
  | .next t => t
  | _ => s

/-- The code of the reply on the line, if one is there. -/
def sent (s : State) : Option ReplyCode :=
  match s.link.sending with
  | some (.reply r) => some r.code
  | _ => none

/-- The data of the reply on the line. -/
def sentData (s : State) : List Byte :=
  match s.link.sending with
  | some (.reply r) => r.data
  | _ => []

/-- Kind, subject and values of a notice. -/
abbrev Told := NoticeKind × Nat × Option Int × Option Int × Option Int

/-- A notice without its time. -/
def told (n : Notice) : Told := (n.kind, n.subject, n.v1, n.v2, n.v3)

/-- The notices a command caused, oldest first, the one on the line among them. -/
def notices (s : State) : List Told :=
  (match s.link.sending with
    | some (.notice n) => [told n]
    | _ => []) ++ s.link.notices.map told

/-- The fields of `Admitted`. -/
abbrev admits (s : State) (i : Instr) (p : List Byte) (n : Nat) : Prop :=
  s.takes i = true ∧ p.length = n ∧ s.cfg.layout.loaded = true

/-- A witness of `admits` is one of `Admitted`. -/
theorem admitted_of_admits {s : State} {i : Instr} {p : List Byte} {n : Nat} (h : admits s i p n) : Admitted s i p n :=
  ⟨h.1, h.2.1, h.2.2⟩

/-! ## Ill-formed commands -/

theorem test_wf_frame_without_bytes : Instr.wf (.frameReceived []) = false := by decide
theorem test_wf_frame_with_len_zero : Instr.wf (.frameReceived [0x5A, 0, 1, 1, 0, 0]) = false := by decide
theorem test_wf_frame_cut_short : Instr.wf (.frameReceived [0x5A, 1, 1, 1, 0]) = false := by decide
theorem test_wf_gap_after_whole_frame : Instr.wf (.interByteGap [0x5A, 1, 1, 1, 0, 0]) = false := by decide
theorem test_wf_gap_outside_frame : Instr.wf (.interByteGap []) = false := by decide
theorem test_wf_break_after_whole_frame : Instr.wf (.lineBreak [0x5A, 1, 1, 1, 0, 0]) = false := by decide
theorem test_wf_len_that_is_accepted : Instr.wf (.frameLenAbandoned 250) = false := by decide
theorem test_wf_unknown_kind_that_is_known : Instr.wf (.unknownKind 0x35 1 []) = false := by decide
theorem test_wf_unknown_kind_payload : Instr.wf (.unknownKind 0x40 1 (List.replicate 250 0)) = false := by decide +kernel
theorem test_wf_request_payload : Instr.wf (.charge 1 (List.replicate 250 0)) = false := by decide +kernel
theorem test_wf_permit_numbers : Instr.wf (.permitExpiry 0) = false ∧ Instr.wf (.permitExpiry 256) = false := by decide
theorem test_wf_good_commands : Instr.wf (.frameReceived (frameBytes 1 7 [])) = true ∧ Instr.wf (.frameLenAbandoned 251) = true ∧
    Instr.wf (.permitExpiry 255) = true ∧ Instr.wf (.unknownKind 0x40 1 []) = true ∧ Instr.wf .breakEnd = true := by decide

/-- No row of the table has bits (98_reader.md). -/
theorem test_no_word_spells_a_command : decodeTableWord 16 0 = none ∧ State.reset.withFetchWord 16 0 = State.reset := by decide

/-! ## Worked examples of the manual -/

/-- Chapter 1, request A: L_inst 7,600 kW, stations EMPTY, units INHIBITED. -/
theorem test_layout_A : let t := after (.layout 1 layoutA) State.reset
    sent t = some .ok ∧ t.cfg.shop.lInst = 7600 ∧ t.pMin 0 = 288 ∧ t.pMin 1 = 320 ∧ (∀ st, t.phase st = .empty) ∧
    ∀ u, (t.unit u).state = .inhibited ∧ (t.unit u).causes.restart = true ∧ (t.unit u).causes.noLayout = false := by decide

/-- Chapter 1, request B: U1 is named by three present stations. -/
theorem test_layout_B : sent (after (.layout 1 ([1, 1] ++ le 2 6000 ++ [1, 1] ++ le 2 6000 ++ [1, 1] ++ le 2 6000 ++ [1, 2] ++ le 2 6000 ++
    le 2 3600 ++ le 2 4000)) State.reset) = some .badValue := by decide

/-- 1.3: RELINE of an OFF station keeps the limit. -/
theorem test_reline_keeps_limit :
    let t := after (.reline 1 [2]) { floor with
      enabled := place floor.enabled 1 false
      heats := place floor.heats 1 (StationHeat.clear .off)
      linings := place floor.linings 1 { melted := 401797, limit := 400000, peak := 15000, overtemp := 4 } }
    sent t = some .ok ∧ look t.linings 1 = { melted := 0, limit := 400000, peak := 0, overtemp := 0 } := by decide

/-- 2.4, a full bath heating in HOLD, step 2. -/
theorem test_model_step_heats :
    let r := { bath 6000 14204 with residual := 287790 }
    let t := after (.modelStep 0) (withCoil (withHeat (withUnit floor 0 { fed 0 3200 with measured := 3200 }) 0 r) 0 760 180)
    (t.record 0).tEst = 14209 ∧ (t.record 0).residual = 83529 ∧ (t.record 0).energy = 2432 := by decide

/-- 2.4, the end of melting, after its last step. -/
def meltedOut : State :=
  after (.modelStep 2) (withCoil (withHeat (withUnit floor 1 { fed 2 3600 with measured := 3600 }) 2 (charge 1 5999)) 2 760 180)

/-- 1.3: the step that takes S2's lining past its limit of 400,000 kg. -/
def linedOut : State :=
  let s := withCoil (withHeat (withUnit floor 0 { fed 1 3600 with measured := 3600 }) 1 (charge 1800 0)) 1 760 180
  after (.modelStep 1) { s with linings := place s.linings 1 { LiningRec.zero with melted := 399999, limit := 400000 } }

/-- MELT DONE with liquid 6,000 kg, T_est still at the melt temperature; LINING once. -/
theorem test_model_step_melts :
    (meltedOut.record 2).solid = 0 ∧ (meltedOut.record 2).liquid = 6000 ∧ (meltedOut.record 2).residual = 1331264 ∧
    (meltedOut.record 2).tEst = 12500 ∧ meltedOut.phase 2 = .hold ∧ (meltedOut.record 2).liquidAge = some 0 ∧
    notices meltedOut = [(.meltDone, 3, some 212, some 6000, some 2736)] ∧ (look linedOut.linings 1).melted = 400001 ∧
    notices linedOut = [(.lining, 2, some 400001, some 400000, none)] := by
  refine ⟨?_, ?_, ?_, ?_, ?_, ?_, ?_, ?_, ?_⟩ <;> decide

/-- 2.5, the SUPERHEAT request: 2,479 kW at 1460.0 °C toward 1480.0 °C. -/
theorem test_superheat_request :
    let s := withCoil (withHeat floor 0 { bath 5000 14600 with phase := .superheat }) 0 760 180
    (withQueue s [ladle 17 2000 14800 (some 0) none]).demand 0 = (2479, .tap) := by decide

/-- 3.1: a charge into a holding bath turns its superheat into melting energy. -/
theorem test_charge_takes_superheat :
    let t := after (.charge 1 ([1, 4] ++ le 2 1000 ++ [0xFF])) (withHeat floor 0 { bath 4000 14200 with residual := 50000 })
    sent t = some .ok ∧ t.phase 0 = .melt ∧ (t.record 0).solid = 1000 ∧ (t.record 0).tEst = 12500 ∧
    (t.record 0).residual = 557650000 ∧ t.inflow = 1000 ∧ (t.heat 0).request = 3600 ∧ (t.heat 0).need = .melt := by decide

/-- 3.1: a charge above the room is cut to it, with OVERFILL. -/
theorem test_charge_is_cut :
    let t := after (.charge 1 ([1, 4] ++ le 2 1200 ++ [0xFF])) (withHeat floor 0 (charge 1000 4000))
    sent t = some .clamped ∧ (t.record 0).solid = 2000 ∧ t.inflow = 1000 ∧ hasFlag (t.record 0).flags .overfill = true := by decide

/-- 3.2.2, dip 4 of the example: three misses beyond the tolerance raise DRIFT. -/
theorem test_dip_drifts :
    let old := fun (temp estimate : Nat) (residual : Int) (phase : Phase) =>
      ({ temp, estimate, residual, origin := .lance, phase, time := 0 } : DipEntry)
    let s := withHeat floor 1 (bath 3000 14700)
    let t := after (.dip 1 (2 :: le 2 14965)) { s with heats := place s.heats 1 { s.heat 1 with
      history := [old 12620 12500 120 .melt, old 14460 14150 310 .hold, old 14900 14620 280 .superheat] } }
    sent t = some .ok ∧ (t.record 1).tEst = 14965 ∧ hasFlag (t.record 1).flags .drift = true ∧
    notices t = [(.heatFlag, 2, some 4, some 212, some 14965)] := by decide

/-- 3.3: mixing two G3 heats. -/
theorem test_transfer_mixes :
    let src := { bath 5000 14600 with heatNo := 305, residual := 400000, flags := 1, liquidAge := some 1800, lastDip := some { temp := 14580, age := 40 } }
    let dst := { bath 2000 14000 with heatNo := 298, residual := -20000, flags := 2, lastDip := some { temp := 13990, age := 75 } }
    let t := after (.transfer 1 ([2, 1] ++ le 2 3000)) (withHeat (withHeat floor 1 src) 0 dst)
    sent t = some .ok ∧ t.record 1 = { src with liquid := 2000, residual := 160000 } ∧
    t.record 0 = { dst with liquid := 5000, tEst := 14270, flags := 0x43, liquidAge := some 1800, lastDip := none } := by decide

/-- 4.7: U1, at S1 of class KEEP past its dwell, leaves for S2, whose class has become MELT. -/
theorem test_auto_moves_unit :
    let s := { floor with heats := place (place floor.heats 0 { floor.heat 0 with need := .keep }) 1 { floor.heat 1 with need := .melt } }
    let t := autoEvaluate 0 s
    (t.unit 0).state = .rampDown 1 ∧ (t.unit 0).grant = 0 ∧ (t.unit 0).decayTimer = some 5000 ∧ (t.unit 0).position = some 0 ∧
    t.setpoint 0 = 0 := by decide

/-- 4.7: U1's decay threshold is 72 kW; 1,140 kW is above it, 40 kW confirms the decay. -/
theorem test_decay_is_confirmed :
    let s := withUnit floor 0 { fed 0 0 with state := .rampDown 1, decayTimer := some 3600, origin := some 0 }
    let t := after (.measuredPower 0 40) s
    ((after (.measuredPower 0 1140) s).unit 0).state = .rampDown 1 ∧ (t.unit 0).state = .switching 1 ∧ (t.unit 0).position = none ∧
    (t.unit 0).travel = some { target := 1, timer := 8000 } ∧ t.commandLine 0 true = true ∧ t.commandLine 0 false = false := by decide

/-- 4.7: the contacts show S2, and U1 settles. -/
theorem test_contacts_end_travel :
    let s := withUnit floor 0 { fed 0 0 with state := .switching 1, position := none, travel := some { target := 1, timer := 2200 } }
    let t := after (.switchContacts 0 false true) s
    (t.unit 0).state = .settling 1 ∧ (t.unit 0).position = some 1 ∧ (t.unit 0).settleTimer = some 2000 ∧ t.inhibitLine 0 = true := by decide

/-- 4.7: the settle timer expires, and the changeover is COMPLETE. -/
theorem test_settling_ends :
    let t := after (.settleExpiry 0) (withUnit floor 0 { fed 1 0 with state := .settling 1, settleTimer := some 0, origin := some 0 })
    (t.unit 0).state = .feeding ∧ (t.unit 0).feedingMs = 0 ∧ notices t = [(.changeover, 1, some 0, some 1, some 2)] := by decide

/-- 4.7: at the dwell expiry the conditions of R76 for S1, of class TAP, hold. -/
theorem test_dwell_moves_unit :
    let s := withUnit floor 0 { fed 1 480 with feedingMs := 60000, dwellDone := false }
    let t := after (.dwellExpiry 0) { s with heats := place (place s.heats 0 { s.heat 0 with need := .tap }) 1 { s.heat 1 with need := .melt } }
    (t.unit 0).state = .rampDown 0 ∧ (t.unit 0).origin = some 1 := by decide

/-- R85: an expiry taken while the feeding time is below the dwell in force does not happen. -/
theorem test_dwell_not_reached :
    let s := withUnit floor 0 { fed 1 480 with feedingMs := 59999, dwellDone := false }
    let t := after (.dwellExpiry 0) { s with heats := place (place s.heats 0 { s.heat 0 with need := .tap }) 1 { s.heat 1 with need := .melt } }
    (t.unit 0).state = .feeding ∧ (t.unit 0).dwellDone = false ∧ (t.unit 0).feedingMs = 59999 := by decide

/-- U2 of the example in 4.8, as it stands at 505: its travel toward S4 under way. -/
def swinging : State :=
  let s := withUnit floor 1 { fed 2 0 with state := .switching 3, position := none, travel := some { target := 3, timer := 5000 }, origin := some 2 }
  { s with cfg := { s.cfg with units := place s.cfg.units 1 { UnitRec.default with mode := .manual } } }

/-- 4.8 at 500: CHANGEOVER U2 S4. -/
theorem test_changeover_is_taken :
    let s := withUnit swinging 1 (fed 2 800)
    let t := after (.changeover 1 [2, 4]) { s with circuits := place s.circuits 3 { look s.circuits 3 with flow := some 910 } }
    sent t = some .ok ∧ (t.unit 1).state = .rampDown 3 ∧ (t.unit 1).position = some 2 ∧
    sent (after (.changeover 1 [2, 2]) s) = some .badValue := by decide

/-- 4.8 at 505: the pump-fault line. The manual's table names U2's notice before U1's; their order is log entry 13. -/
theorem test_pump_fault_trips_both :
    let t := after .pumpFaultActive (withHeat swinging 0 (bath 5000 14200))
    (t.unit 0).state = .inhibited ∧ (t.unit 1).state = .inhibited ∧ (t.unit 1).travel = some { target := 3, timer := 5000 } ∧
    t.commandLine 1 true = true ∧ look t.valves 0 = true ∧ look t.valves 1 = false ∧
    notices t = [(.trip, 1, some 8, some 0, some 1), (.trip, 2, some 8, some 0, some 0),
      (.emergencyWater, 1, some 0, some 17, some 0)] := by decide

/-- 4.8 at 508: the travel ends under INHIBITED, and its changeover is ABANDONED. -/
theorem test_travel_ends_inhibited :
    let s := withUnit swinging 1 { swinging.unit 1 with state := .inhibited, causes := { Causes.clear with pump := true } }
    let t := after (.switchContacts 1 false true) s
    (t.unit 1).state = .inhibited ∧ (t.unit 1).position = some 3 ∧ (t.unit 1).travel = none ∧
    notices t = [(.changeover, 2, some 3, some 3, some 4)] := by decide

/-- 4.8 at 545: TRIP RESET U2 after 40 s of INHIBITED; with the line still active it is STILL_ACTIVE with PUMP left. -/
theorem test_trip_reset :
    let s := withUnit swinging 1 { fed 3 0 with state := .inhibited, causes := { Causes.clear with pump := true }, inhibitedMs := 40000 }
    let t := after (.tripReset 1 [2]) s
    sent t = some .ok ∧ sentData t = [0, 0, 0] ∧ (t.unit 1).state = .feeding ∧ notices t = [(.tripClear, 2, some 4, some 40, none)] ∧
    (let x := after (.tripReset 1 [2]) { s with lines := { s.lines with pumpFault := true } }
     sent x = some .stillActive ∧ sentData x = [8, 0, 0]) := by decide +kernel

/-- A station's request and class. -/
def asking (s : State) (st : Station) (request : Nat) (need : NeedClass) : State :=
  { s with heats := place s.heats st { s.heat st with request, need } }

/-- 5.2.1, case 3: one level split in proportion, 5,000 kW of demand limit (a contract of 5,000 kW at the start of an interval). -/
theorem test_allocation_splits_level :
    let s := asking (asking (withUnit (withUnit floor 0 (fed 0 3600)) 1 (fed 2 4000)) 0 3600 .melt) 2 4000 .melt
    s.share 5000 0 / 10 * 10 = 2360 ∧ s.share 5000 1 / 10 * 10 = 2630 := by decide

/-- 5.2.1, case 2: under a limit of 450 kW U1's 420 are served, U2's 30 are flushed, and UNDERRUN is raised for S3. -/
theorem test_allocation_flushes :
    let s := asking (asking (withHeat (withUnit (withUnit floor 0 (fed 0 420)) 1 (fed 2 3900)) 2 (charge 900 0)) 0 420 .keep) 2 4000 .melt
    let t := after .allocationPass { s with
      cfg := { s.cfg with shop := { s.cfg.shop with lInst := 500, coolStart := 320, coolStop := 400 } }
      channels := place (place s.channels 0 { reading := some 328, timer := some 2000 }) 1 { reading := some 327, timer := some 2000 } }
    t.alloc.pCool = 450 ∧ (t.unit 0).grant = 420 ∧ (t.unit 1).grant = 0 ∧ look t.alloc.flushMark 1 = true ∧
    hasFlag (t.record 2).flags .underrun = true := by decide

/-- 5.3.1: the demand limit at t = 600 is 3,700 kW; at t = 895 the hold reserve remains. -/
theorem test_demand_limit :
    let pass := fun (used t : Nat) => (after .allocationPass { floor with
      cfg := { floor.cfg with shop := { floor.cfg.shop with contract := 5000, baseLoad := 300, holdReserve := 400 } }
      alloc := { floor.alloc with eUsed := used - 300, t := t - 1 } }).alloc
    (pass 3300000 600).pDem = 3700 ∧ (pass 4400000 850).pDem = 1366 ∧ (pass 4560000 895).pDem = 400 ∧
    (pass 4570000 900).pDem = 4700 ∧ (pass 4570000 900).eUsed = 0 ∧ (pass 4570000 900).pCool = 3800 := by decide

/-- 5.3.1: a sync at t = 437 of a self-timed interval is answered OK and REGAINED. -/
theorem test_interval_sync :
    let t := after (.intervalSync 1 []) { floor with
      cfg := { floor.cfg with shop := { floor.cfg.shop with demandSync := true } }
      alloc := { floor.alloc with eUsed := 70000, t := 437, syncLost := true } }
    sent t = some .ok ∧ sentData t = le 4 70000 ++ le 2 437 ∧ t.alloc.t = 0 ∧ t.alloc.syncLost = false ∧
    notices t = [(.demand, 0, some 1, some 70000, some 437)] := by decide

/-- 6.4: the worked gate of C1. -/
theorem test_gate :
    let s := withCoil (withUnit floor 0 { fed 0 3200 with measured := 3200 }) 0 760 150
    let read := fun (v : Int) => ({ reading := some v, timer := some 2000 } : ChannelSt)
    let t := after (.circuitGate 0) { s with
      channels := place (place (place (place s.channels 0 (read 284)) 1 (read 289)) 2 (read 407)) 12 (read 405)
      circuits := place s.circuits 0 { look s.circuits 0 with pulses := 168 } }
    look t.circuits 0 =
      { CircuitSt.afterReset true with flow := some 1120, delta := some 118, heat := some 92, excess := some (-676) } := by decide +kernel

/-- 6.6: the gate that brings the drawn volume to 64,004 tenths queues RESERVOIR LOW once. -/
theorem test_reservoir_low :
    let t := after (.circuitGate 0) { floor with
      valves := place floor.valves 0 true
      reservoir := { drawn := 63974, lowMark := false, exhaustedMark := false }
      circuits := place floor.circuits 0 { look floor.circuits 0 with pulses := 135 } }
    t.reservoir = { drawn := 64004, lowMark := true, exhaustedMark := false } ∧
    notices t = [(.reservoir, 0, some 0, some 64004, some 8000)] := by decide

/-- 6.6: EW CLOSE S3 with refilled yes, no other valve OPEN; with the pump-fault line still active it is STILL_ACTIVE. -/
theorem test_ew_close :
    let s := withHeat floor 2 (bath 5000 14200)
    let s := { s with valves := place s.valves 2 true, reservoir := { drawn := 81000, lowMark := true, exhaustedMark := true } }
    let t := after (.ewClose 1 [3, 1]) s
    sent t = some .ok ∧ sentData t = [0, 0, 0, 0, 0] ∧ t.reservoir = Reservoir.zero ∧
    notices t = [(.emergencyWater, 3, some 1, some 18, some 81000)] ∧
    sent (after (.ewClose 1 [3, 1]) { s with lines := { s.lines with pumpFault := true } }) = some .stillActive := by decide

/-- W3 of 7.7.1 in a run state, C3's flow as read. -/
def withW3 (s : State) (x : RunState) (flow : Option Nat) : State :=
  { s with
    cfg := { s.cfg with programs := place s.cfg.programs 2 { ProgramRec.default with
      enabled := true, index := 3, low := 400, hysteresis := 50, period := 2000, onLow := .trip, onStale := .trip, staleLimit := 3
      target := .station 2, clear := .latch } }
    runs := place s.runs 2 { x with periodTimer := some 0 }
    circuits := place s.circuits 2 { look s.circuits 2 with flow } }

/-- A run state in COUNT(LOW). -/
def counting (n : Nat) : RunState := { RunState.off with state := .count, direction := some .low, debounce := n }

/-- 7.7.1 at 2010: an INVALID flow loses the count. -/
theorem test_invalid_ends_count :
    let r := (after (.programEvaluation 2) (withW3 floor (counting 1) none)).run 2
    r.state = .watch ∧ r.debounce = 0 ∧ r.stale = 1 := by decide

/-- 7.7.1 at 2016: the third flow below the threshold trips S3. -/
theorem test_excursion_is_confirmed :
    let t := after (.programEvaluation 2) (withW3 (withHeat floor 2 (bath 5000 14200)) (counting 2) (some 310))
    (t.run 2).state = .active ∧ (t.run 2).applied = some (.trip, .low) ∧ (t.run 2).negative = true ∧ t.barred 2 = true ∧
    (t.unit 1).state = .inhibited ∧ notices t = [(.trip, 2, some 0, some 4, some 3), (.heatFlag, 3, some 5, some 212, some 14200),
      (.watch, 3, some 1, some 3, some 310)] := by decide

/-- S1 to S4 of 8.8. -/
def shop88 : State :=
  let s := withHeat (withHeat floor 0 { bath 5000 14200 with liquidAge := some 900 }) 1 { bath 2500 14200 with liquidAge := some 1400 }
  let s := withHeat (withHeat s 2 { bath 6000 14200 with grade := some 5, liquidAge := some 300 }) 3 { charge 900 1200 with liquidAge := none }
  { s with cfg := { s.cfg with stations := place s.cfg.stations 0 { StationRec.default with heelMin := 500 } } }

/-- 8.8: LADLE REQUEST L21 is CLAMPED to 14400 and stays unassigned. -/
theorem test_ladle_unassigned :
    let t := after (.ladleRequest 1 ([21, 3] ++ le 2 4800 ++ leSigned 2 (-450))) (withQueue shop88 [])
    sent t = some .clamped ∧ sentData t = le 2 14400 ∧ t.taps.entries = [ladle 21 4800 14400 none none] := by decide

/-- 8.8: LADLE REQUEST L17 takes S2, the older liquid, past L21. -/
theorem test_ladle_assigned :
    let t := after (.ladleRequest 1 ([17, 3] ++ le 2 2000 ++ leSigned 2 60)) (withQueue shop88 [ladle 21 4800 14400 none none])
    sent t = some .ok ∧ sentData t = le 2 14860 ∧ t.phase 1 = .superheat ∧
    t.taps.entries = [ladle 21 4800 14400 none none, ladle 17 2000 14860 (some 1) none] ∧
    notices t = [(.stationAssigned, 2, some 0, some 17, some 14860)] := by decide

/-- S2 of 8.8 assigned to L17. -/
def shop88Hot (tEst : Nat) (permit : Option Permit) : State :=
  withQueue (withHeat shop88 1 { bath 2500 tEst with phase := .superheat, liquidAge := some 1400 })
    [ladle 21 4800 14400 none none, ladle 17 2000 14860 (some 1) permit]

/-- 8.8: the dip at 14840 issues permit 7. -/
theorem test_dip_grants_permit :
    let t := after (.dip 1 (2 :: le 2 14840)) (shop88Hot 14801 none)
    t.taps = { entries := [ladle 21 4800 14400 none none, ladle 17 2000 14860 (some 1) (some { id := 7, leftMs := 120000, started := false })]
               permitCounter := 8 } ∧
    notices t = [(.tapGrant, 17, some 7, some 2, some 14840)] := by decide

/-- 8.8: TAP START 7, 40 s later. -/
theorem test_tap_start :
    let t := after (.tapStart 1 [7]) (shop88Hot 14840 (some { id := 7, leftMs := 80000, started := false }))
    sent t = some .ok ∧ sentData t = [2] ∧ t.phase 1 = .tapping ∧ (t.heat 1).request = 0 ∧ t.permitIds = [7] := by decide

/-- 8.8: the expiry of permit 7 counts. -/
theorem test_permit_expires :
    let t := after (.permitExpiry 7) (shop88Hot 14840 (some { id := 7, leftMs := 0, started := false }))
    notices t = [(.permitExpired, 17, some 7, some 2, some 1)] ∧ t.phase 1 = .superheat := by decide

/-- 8.8: the third expiry of L17 drops it. -/
theorem test_third_expiry_drops :
    let e := ladle 17 2000 14860 (some 1) (some { id := 7, leftMs := 0, started := false })
    let t := after (.permitExpiry 7) (withQueue (shop88Hot 14840 none) [{ e with expiries := 2 }])
    t.taps.entries = [] ∧ t.phase 1 = .hold ∧ notices t = [(.ladleDropped, 17, some 2, some 3, some 2000)] := by decide

/-- 8.8: TAP DONE 7, 2,050 kg at 14790. -/
theorem test_tap_done :
    let s := shop88Hot 14831 (some { id := 7, leftMs := 80000, started := true })
    let t := after (.tapDone 1 ([7] ++ le 2 2050 ++ le 2 14790)) { s with
      heats := place s.heats 1 { s.heat 1 with record := { s.record 1 with phase := .tapping, residual := 300000 } } }
    sent t = some .ok ∧ sentData t = le 2 2050 ++ le 2 450 ∧ t.outflow = 2050 ∧ t.phase 1 = .hold ∧ (t.record 1).liquid = 450 ∧
    (t.record 1).tEst = 14790 ∧ (t.record 1).residual = 0 ∧ t.taps.entries = [ladle 21 4800 14400 none none] ∧
    (t.heat 1).history = [{ temp := 14790, estimate := 14831, residual := -41, origin := .tap, phase := .tapping, time := 0 }] := by decide

/-- 8.8: TRANSFER S2 to S1 of 400 kg lets L21 take S1. -/
theorem test_transfer_serves_ladle :
    let t := after (.transfer 1 ([2, 1] ++ le 2 400)) (withQueue (withHeat shop88 1 (bath 450 14790)) [ladle 21 4800 14400 none none])
    (t.record 0).liquid = 5400 ∧ (t.record 1).liquid = 50 ∧ t.phase 0 = .superheat ∧ (t.record 0).dipMark = false ∧
    notices t = [(.heatFlag, 1, some 6, some 212, some 14232), (.stationAssigned, 1, some 0, some 21, some 14400)] := by decide

/-- A frame as the receive queue holds it. -/
def dipFrame (tag : Byte) : Frame := { kind := 0x11, tag, payload := 1 :: le 2 14300 }

/-- 9.6: the frame that finds four others waiting is discarded, and still restarts the silence timer. -/
theorem test_flood_is_discarded :
    let busy : Link := { floor.link with rx := [dipFrame 2, dipFrame 3, dipFrame 4, dipFrame 5], silenceTimer := some 1, pendingReply := some { kind := 0x11, tag := 1, code := .ok, data := [] }, sending := some (.reply { kind := 0x28, tag := 9, code := .ok, data := [] }) }
    let t := after (.frameReceived (frameBytes 0x01 7 [])) { floor with link := busy }
    t.link.rx = busy.rx ∧ t.link.discarded = 1 ∧ t.link.silenceTimer = some 10000 := by decide +kernel

/-- 9.6: when the WATCH STATUS reply ends, the reply to DIP 1 begins, and DIP 2 is dispatched at once; DIP 3 waits for the reply to DIP 2. -/
theorem test_reply_follows :
    let busy : Link := { floor.link with
      rx := [dipFrame 2, dipFrame 3], pendingReply := some { kind := 0x11, tag := 1, code := .ok, data := [] }
      sending := some (.reply { kind := 0x28, tag := 9, code := .ok, data := [] }) }
    let s := withHeat { floor with link := busy } 0 (bath 5000 14200)
    let t := after .transmitFrameEnd s
    s.takes (.dip 2 (1 :: le 2 14300)) = false ∧ t.link.sending = some (.reply { kind := 0x11, tag := 1, code := .ok, data := [] }) ∧
    (t.record 0).tEst = 14300 ∧ t.link.pendingReply.map Reply.tag = some 2 ∧ t.link.rx = [dipFrame 3] := by decide

/-- R169: a request received with no reply pending is dispatched at once; behind a pending reply it waits. -/
theorem test_frame_is_dispatched :
    let c := Instr.frameReceived (frameBytes 0x11 2 (1 :: le 2 14300))
    let s := withHeat floor 0 (bath 5000 14200)
    let busy := { s with link := { s.link with
      pendingReply := some { kind := 1, tag := 1, code := .ok, data := [] }, sending := some (.reply { kind := 1, tag := 1, code := .ok, data := [] }) } }
    sent (after c s) = some .ok ∧ (after c s).link.rx = [] ∧ ((after c s).record 0).tEst = 14300 ∧
    (after c busy).link.rx = [dipFrame 2] ∧ ((after c busy).record 0).tEst = 14200 := by decide +kernel

/-- R9: a station disabled and enabled between two gates reads INVALID until its next gate, so a CHANGEOVER to it is NOT_READY. -/
theorem test_enable_reads_invalid :
    let quiet := fun s : State => ({ s with link := floor.link } : State)
    let manual := { floor with cfg := { floor.cfg with units := Vector.replicate 2 { UnitRec.default with mode := .manual } } }
    let t := after (.stationEnable 1 [2]) (quiet (after (.stationDisable 1 [2]) manual))
    sent (after (.changeover 1 [1, 2]) manual) = some .ok ∧ sent t = some .ok ∧ t.coilFlow 1 = none ∧ (look t.circuits 1).evaluated = true ∧
    sent (after (.changeover 1 [1, 2]) (quiet t)) = some .notReady := by decide +kernel

/-- R110, R144, R179: an expiry or a due evaluation taken behind what restarted its timer does not happen. -/
theorem test_restarted_timers_do_not_expire :
    let s := { floor with channels := place floor.channels 3 { reading := some 300, timer := some 0 }
                          link := { floor.link with silenceTimer := some 0 } }
    (after (.channelTimeout 3) s).reading 3 = none ∧
    (after (.channelTimeout 3) (after (.channelArrival 3 (some 310)) s)).reading 3 = some 310 ∧
    (after .silenceTimerExpiry s).link.silent = true ∧
    (after .silenceTimerExpiry (after (.frameReceived (frameBytes 1 7 [])) s)).link.silent = false ∧
    (let w := withW3 floor (counting 0) (some 310)
     let written := { w with runs := place w.runs 2 { (w.run 2) with periodTimer := some 2000 } }
     ((after (.programEvaluation 2) w).run 2).debounce = 1 ∧ (after (.programEvaluation 2) written).run 2 = written.run 2) := by decide +kernel

/-! ## Witnesses: states and operands that meet the hypotheses of the obligations -/

/-- Whether a command answers a next state. -/
def runs (c : Instr) (s : State) : Bool :=
  match exec c s with
  | .next _ => true
  | _ => false

/-- A command that runs answers the state `after` names. -/
theorem exec_after {c : Instr} {s : State} (h : runs c s = true) : exec c s = .next (after c s) := by
  unfold runs at h
  unfold after
  cases hx : exec c s <;> simp_all

/-- The same of a step. -/
theorem step_runs (s : State) {c : Instr} {rest : List Instr} (hp : s.pending = c :: rest)
    (h : runs c { s with pending := rest } = true) : ∃ t, step s = .next t := by
  have e : step s = exec c { s with pending := rest } := by unfold step; rw [hp]
  exact ⟨_, e.trans (exec_after h)⟩

/-- A station in UNKNOWN. -/
def lost (s : State) (st : Station) : State := { s with heats := place s.heats st (StationHeat.clear .unknown) }

/-- A station disabled. -/
def shut (s : State) (st : Station) : State :=
  { s with enabled := place s.enabled st false, heats := place s.heats st (StationHeat.clear .off) }

/-- A link whose transmitter is busy with a reply. -/
def busyLine (s : State) : State := { s with link := { s.link with sending := some (.reply { kind := 1, tag := 9, code := .ok, data := [] }) } }

/-- A link whose pending reply waits. -/
def replyWaits (s : State) : State :=
  { busyLine s with link := { (busyLine s).link with pendingReply := some { kind := 1, tag := 9, code := .ok, data := [] } } }

/-- A restart asked for, at a stage. -/
def restarting (s : State) (stage : RestartStage) : State := { s with link := { s.link with restart := stage } }

/-- Commands that wait. -/
def waiting (s : State) (cs : List Instr) : State := { s with pending := cs }

theorem witness_StepRunsFrontCommand : (waiting floor [.pumpFaultActive, .breakEnd]).pending = .pumpFaultActive :: [.breakEnd] := rfl

theorem witness_IdleStepIsOneMillisecond :
    floor.pending = [] ∧ floor.resetHeld = false ∧ (grip floor).pending = [] ∧ (grip floor).resetHeld = true := by decide

theorem witness_UntakenCommandChangesNothing :
    Instr.unitFaultActive 1 ≠ .powerOn ∧ Instr.unitFaultActive 1 ≠ .resetLineReleased ∧ (grip floor).takes (.unitFaultActive 1) = false ∧
    (grip floor).takes (.lineBreak []) = false ∧ (replyWaits floor).takes (.shopStatus 1 []) = false ∧
    (restarting floor .replying).takes (.shopStatus 1 []) = false ∧
    { floor with link := { floor.link with rx := [dipFrame 2] } }.takes (.shopStatus 1 []) = false := by decide

theorem witness_ResetLineRestartsAndHolds : (grip floor).resetHeld = true ∧ floor.resetHeld = false := by decide

theorem witness_PartResumesAfterRestart :
    (grip floor).resetHeld = true ∧ floor.resetHeld = false ∧ (restarting floor .due).resetHeld = false ∧
    (restarting floor .due).link.restart = .due ∧ (restarting floor .replying).link.restart ≠ .due := by decide

/-- A shop at work: S1 in HOLD assigned to a ladle that pours, S2 in MELT, S3 in SUPERHEAT assigned, S4 EMPTY, an emergency-water valve OPEN. -/
def atWork : State :=
  let s := withHeat (withHeat (withHeat floor 0 { bath 5000 14800 with phase := .tapping }) 1 (charge 800 1200)) 2
    { bath 4000 14500 with phase := .superheat }
  { withQueue s [ladle 17 2000 14800 (some 0) (some { id := 255, leftMs := 1, started := true }), ladle 250 3000 14800 (some 2) none] with
    inflow := 11500, outflow := 500, valves := place s.valves 1 true, pending := [.tapDone 1 ([255] ++ le 2 2000 ++ le 2 0)] }

theorem witness_StepKeepsShop : ShopFits atWork ∧ ∃ t, step atWork = .next t := by
  refine ⟨⟨?_, by decide, by decide, by decide, by decide, by decide, by decide, by decide, by decide, by decide, ?_, by decide⟩, ?_⟩
  · intro st
    fin_cases st
    · exact And.intro (by decide) (And.intro (by decide) (And.intro (by decide) (by decide)))
    · exact And.intro (by decide) (And.intro (by decide) (by decide))
    · exact And.intro (by decide) (And.intro (by decide) (And.intro (by decide) (by decide)))
    · exact Eq.refl (HeatRec.clear .empty)
  · exact ⟨by decide, by decide, by decide, by decide, by decide, by decide, by decide, by decide, by decide⟩
  · exact step_runs _ rfl (by decide)

theorem witness_StepKeepsUnits : UnitsFit (waiting swinging [.pumpFaultActive]) ∧ ∃ t, step (waiting swinging [.pumpFaultActive]) = .next t := by
  refine ⟨⟨?_, by decide⟩, step_runs _ rfl (by decide)⟩
  intro u
  fin_cases u
  · exact ⟨by decide, by decide, by decide, by decide, by decide, by rintro v ⟨⟩, by decide, by decide, by decide, by decide, by decide⟩
  · exact ⟨by decide, by decide, by decide, by decide, by decide, by rintro v ⟨⟩; decide, by decide, by decide, by decide, by decide, by decide⟩

/-- A link with a frame in progress, a reply on the line, one pending and a full notice queue. -/
def fullLink : State :=
  { floor with link := { (replyWaits floor).link with
      receiver := .inFrame [0x5A, 250], rx := [dipFrame 1, dipFrame 2, dipFrame 3, dipFrame 4], discarded := 65535
      notices := List.replicate 32 { kind := .trip, subject := 1, time := 0, v1 := none, v2 := none, v3 := none } } }

theorem witness_StepKeepsLink : LinkFits (waiting fullLink [.transmitFrameEnd]) ∧ ∃ t, step (waiting fullLink [.transmitFrameEnd]) = .next t :=
  ⟨⟨by decide, by decide, by decide, by decide, by rintro bytes ⟨⟩; decide, by decide, by decide, by decide, by decide⟩, step_runs _ rfl (by decide)⟩

/-- The layout and tables of `floor` are in their ranges. -/
theorem floor_settingsFit : SettingsFit floor := by
  refine ⟨by decide, fun _ => ⟨by decide, by decide, by decide, by decide⟩, by decide, by decide, by decide, by decide, by decide, ?_, by decide, by decide⟩
  intro p
  have h : floor.program p = ProgramRec.default := by revert p; decide
  rw [h]
  exact ⟨by decide, by decide, by decide, by decide⟩

theorem witness_StepKeepsSettings : SettingsFit (waiting floor [.unitMode 1 [1, 1]]) ∧ ∃ t, step (waiting floor [.unitMode 1 [1, 1]]) = .next t :=
  ⟨⟨floor_settingsFit.1, floor_settingsFit.2, floor_settingsFit.3, floor_settingsFit.4, floor_settingsFit.5, floor_settingsFit.6,
    floor_settingsFit.7, floor_settingsFit.8, floor_settingsFit.9, floor_settingsFit.10⟩, step_runs _ rfl (by decide)⟩

/-- W3 of 7.7.1 counting in a shop that stands EMPTY. -/
def w3Counting : State := waiting (withW3 floor (counting 2) (some 310)) [.programEvaluation 2]

theorem witness_StepKeepsPrograms : ShopFits w3Counting ∧ ProgramsFit w3Counting ∧ ∃ t, step w3Counting = .next t := by
  refine ⟨⟨?_, by decide, by decide, by decide, by decide, by decide, by decide, by decide, by decide, by decide, ?_, by decide⟩, ?_,
    step_runs _ rfl (by decide)⟩
  · intro st
    have h : w3Counting.record st = HeatRec.clear .empty := by revert st; decide
    rw [h]
    exact rfl
  · exact ⟨by decide, by decide, by decide, by decide, by decide, by decide, by decide, by decide, by decide⟩
  · intro p
    by_cases hp : p = 2
    · subst hp
      exact ⟨And.intro rfl (And.intro rfl rfl), by decide⟩
    · have h : w3Counting.run p = RunState.off ∧ w3Counting.live p = false := by revert p; decide
      rw [h.1, h.2]
      exact ⟨⟨rfl, rfl, rfl, rfl, rfl, rfl, rfl, rfl⟩, by decide⟩

theorem witness_LayoutAndLiningsChangeOnlyByTheirCommands :
    exec (.dip 1 (1 :: le 2 14300)) floor = .next (after (.dip 1 (1 :: le 2 14300)) floor) ∧ floor.cfg.layout.loaded = true ∧
    floor.mayDispatch (.dip 1 (1 :: le 2 14300)) = false ∧ (∀ st, Instr.dip 1 (1 :: le 2 14300) ≠ .modelStep st) ∧ (∀ tag p, Instr.dip 1 (1 :: le 2 14300) ≠ .tableWrite tag p) ∧
    (∀ tag p, Instr.dip 1 (1 :: le 2 14300) ≠ .reline tag p) ∧ Instr.dip 1 (1 :: le 2 14300) ≠ .powerOn :=
  ⟨exec_after (by decide), by decide, by decide, by simp, by simp, by simp, by simp⟩

/-- A notice without values. -/
def plain (kind : NoticeKind) : Notice := { kind, subject := 1, time := 0, v1 := none, v2 := none, v3 := none }

/-- A state with these notices queued. -/
def telling (ns : List Notice) : State := { floor with link := { floor.link with notices := ns, noticesLost := true } }

theorem witness_NoticeQueueKeepsClassA :
    (telling (List.replicate 31 (plain .trip))).link.notices.length < 32 ∧
    (let q := List.replicate 4 (plain .tripClear) ++ plain .watch :: List.replicate 27 (plain .lining)
     32 ≤ (telling q).link.notices.length ∧ (telling q).link.notices = List.replicate 4 (plain .tripClear) ++ plain .watch :: List.replicate 27 (plain .lining) ∧
     (∀ x ∈ List.replicate 4 (plain .tripClear), x.kind.classA = true) ∧ (plain .watch).kind.classA = false) ∧
    (let q := List.replicate 32 (plain .reservoir)
     32 ≤ (telling q).link.notices.length ∧ (∀ x ∈ (telling q).link.notices, x.kind.classA = true) ∧
     NoticeKind.emergencyWater.classA = true ∧ NoticeKind.link.classA = false) ∧
    (telling []).link.noticesLost = true ∧ runs .breakEnd (telling []) = true ∧ (telling []).mayDispatch .breakEnd = false := by decide

/-- S3 in SUPERHEAT assigned, its bath ready, the link silent. -/
def silentReady : State :=
  hush (withQueue (withHeat floor 2 { bath 4000 14800 with phase := .superheat, dipMark := true, lastDip := some { temp := 14800, age := 0 } })
    [ladle 17 2000 14800 (some 2) (some { id := 7, leftMs := 1, started := false }), ladle 18 2000 14800 none none])

theorem witness_SilentLinkAssignsNothing :
    runs (.modelStep 2) silentReady = true ∧ silentReady.link.silent = true ∧ (after (.modelStep 2) silentReady).link.silent = true ∧
    (∃ e ∈ (after (.modelStep 2) silentReady).taps.entries, e.station = some 2 ∧ e.permit.isSome = true) := by decide

theorem witness_FramesReadBack : (List.replicate 249 (0 : Byte)).length ≤ 249 ∧ ([] : List Byte).length ≤ 249 := by decide +kernel

theorem witness_RecordsReadBack : SettingsFit floor ∧ floor.cfg.layout.loaded = true ∧
    (let r : HeatRec := { charge 1 11999 with
       heatNo := 65535, chargeNo := 255, residual := -10000000000, energy := 4294967295
       lastDip := some { temp := 17500, age := 4294967295 }, liquidAge := some 4294967294 }
     r.phase.running = true ∧ r.grade.isSome = true ∧ 1 ≤ r.heatNo ∧ r.heatNo ≤ 65535 ∧ r.chargeNo ≤ 255 ∧ 0 < r.solid + r.liquid ∧
     r.solid + r.liquid ≤ 12000 ∧ 11000 ≤ r.tEst ∧ r.tEst ≤ 16500 ∧ r.residual.natAbs ≤ 10000000000 ∧ r.energy ≤ 4294967295 ∧
     (∀ d ∈ r.lastDip, 10000 ≤ d.temp ∧ d.temp ≤ 17500 ∧ d.age ≤ 4294967295) ∧ (∀ a ∈ r.liquidAge, a ≤ 4294967294)) :=
  ⟨floor_settingsFit, by decide, by decide⟩

theorem witness_FrameReceivedQueuesOrDiscards :
    floor.resetHeld = false ∧ floor.link.lineLow = false ∧ floor.link.receiver = .hunt ∧ floor.link.silent = false ∧
    (hush floor).resetHeld = false ∧ (hush floor).link.lineLow = false ∧ (hush floor).link.receiver = .hunt ∧ (hush floor).link.silent = true ∧
    ([] : List Byte).length ≤ 249 ∧ 4 ≤ fullLink.link.rx.length ∧ { fullLink with link := { fullLink.link with receiver := .hunt } }.link.receiver = .hunt ∧
    ((replyWaits floor).link.rx.length < 4 ∧ (replyWaits floor).dispatchOpen = false) ∧ (floor.link.rx = [] ∧ floor.dispatchOpen = true) ∧
    (let len : Byte := 2
     1 ≤ len.toNat ∧ len.toNat ≤ 250 ∧ [(7 : Byte)].length + 1 = len.toNat ∧ [(0 : Byte), 0].length = 2 ∧
     [(0 : Byte), 0] ≠ crcBytes (crc (len :: 1 :: 1 :: [7]))) := by decide +kernel

/-- A frame half received. -/
def half (s : State) : State := { s with link := { s.link with receiver := .inFrame [0x5A, 1, 1] } }

theorem witness_AbandonedFramesAreCounted :
    floor.resetHeld = false ∧ floor.link.lineLow = false ∧ floor.link.receiver = .hunt ∧ isPartFrame [0x5A] = true ∧
    isPartFrame [0x5A, 1, 1, 1, 0] = true ∧ (0 : Byte).toNat = 0 ∧ 250 < (251 : Byte).toNat ∧ (half floor).resetHeld = false ∧
    (half floor).link.receiver = .inFrame [0x5A, 1, 1] ∧
    { floor with link := { floor.link with lineLow := true } }.link.lineLow = true := by decide

theorem witness_SilenceBeginsAtExpiry :
    (let s := { atWork with link := { atWork.link with silenceTimer := some 0 } }
     s.resetHeld = false ∧ s.link.silent = false ∧ s.link.silenceTimer = some 0 ∧ s.phase 1 = .melt ∧ s.phase 0 ≠ .melt) ∧
    atWork.link.silenceTimer ≠ some 0 ∧ (hush floor).resetHeld = false ∧ (hush floor).link.silent = true := by decide

/-- A state whose idle transmitter finds a notice, and a reply beside it. -/
def chooses (reply : Option Reply) : State := { floor with link := { floor.link with pendingReply := reply, notices := [plain .trip, plain .link] } }

theorem witness_TransmitterSendsRepliesFirst :
    (grip floor).resetHeld = true ∧ (restarting floor .due).link.restart = .due ∧ (busyLine floor).link.sending ≠ none ∧
    (let s := chooses (some { kind := 1, tag := 1, code := .ok, data := [] })
     s.resetHeld = false ∧ s.link.restart ≠ .due ∧ s.link.sending = none ∧ s.link.pendingReply = some { kind := 1, tag := 1, code := .ok, data := [] }) ∧
    (let s := chooses none
     s.link.sending = none ∧ s.link.pendingReply = none ∧ s.link.notices = plain .trip :: [plain .link]) ∧
    floor.link.sending = none ∧ floor.link.pendingReply = none ∧ floor.link.notices = [] ∧
    (busyLine floor).link.sending = some (.reply { kind := 1, tag := 9, code := .ok, data := [] }) ∧
    (restarting (busyLine floor) .replying).link.restart = .replying ∧ (restarting (busyLine floor) .replying).link.pendingReply = none ∧
    { floor with link := { floor.link with sending := some (.notice (plain .trip)) } }.link.sending = some (.notice (plain .trip)) ∧
    floor.link.rx = [] ∧ (replyWaits floor).dispatchOpen = false ∧
    (let s := { floor with link := { floor.link with rx := [dipFrame 2, dipFrame 3] } }
     s.link.rx = dipFrame 2 :: [dipFrame 3] ∧ s.dispatchOpen = true) := by decide

/-- No request kind has the code 40H. -/
theorem no_kind_0x40 : ∀ k : RequestKind, k.code ≠ 0x40 := by intro k; cases k <;> decide

theorem witness_UnfitFramesAreRefused :
    floor.takes (.unknownKind 0x40 1 []) = true ∧ (∀ k : RequestKind, k.code ≠ 0x40) ∧ (∃ k : RequestKind, k.code = 0x35) ∧
    floor.takes (commandOf .charge 1 [1, 1, 1, 1]) = true ∧ [(1 : Byte), 1, 1, 1].length ≠ RequestKind.charge.length ∧
    floor.takes (commandOf .tableWrite 1 [1, 0]) = true ∧ [(1 : Byte), 0].length < 3 :=
  ⟨by decide, no_kind_0x40, ⟨.queueRead, rfl⟩, by decide, by decide, by decide, by decide⟩

theorem witness_SubjectIsCheckedFirst :
    (State.reset.takes (commandOf .reline 1 [1]) = true ∧ [(1 : Byte)].length = RequestKind.reline.length ∧
      State.reset.cfg.layout.loaded = false ∧ RequestKind.reline ∉ [.shopStatus, .layout, .tableRead, .tableWrite, .restart]) ∧
    (floor.takes (commandOf .dip 1 [0, 0, 0]) = true ∧ [(0 : Byte), 0, 0].length = RequestKind.dip.length ∧ floor.cfg.layout.loaded = true ∧
      u8At [0, 0, 0] 0 < 1 ∧ 4 < u8At [5, 0, 0] 0) ∧
    (floor.takes (commandOf .changeover 1 [1, 5]) = true ∧ [(1 : Byte), 5].length = RequestKind.changeover.length ∧
      u8At [1, 0] 1 < 1 ∧ 4 < u8At [1, 5] 1) ∧
    (floor.takes (commandOf .unitMode 1 [3, 0]) = true ∧ u8At [0, 0] 0 < 1 ∧ 2 < u8At [3, 0] 0) ∧
    ((shut floor 3).takes (commandOf .heatRead 1 [4]) = true ∧ (shut floor 3).phase 3 = .off ∧ u8At [4] 0 = stationCode 3) ∧
    ((shut floor 3).takes (commandOf .transfer 1 [1, 4, 1, 0]) = true ∧ u8At [1, 4, 1, 0] 1 = stationCode 3 ∧ 1 ≤ u8At [1, 4, 1, 0] 0) := by decide

theorem witness_StatusAndRestartAreAnswered : floor.takes (.shopStatus 1 []) = true ∧ State.reset.takes (.shopStatus 1 []) = true ∧
    floor.takes (.restart 1 []) = true := by decide

theorem witness_ReadersAnswerWhatStands :
    floor.takes (.tableRead 1 [2, 3, 0]) = true ∧ [(2 : Byte), 3, 0].length = 3 ∧ tableOf (u8At [2, 3, 0] 0) = some .station ∧
    u8At [2, 3, 0] 1 + (u8At [2, 3, 0] 2 + 1) ≤ Table.station.count ∧ (u8At [2, 3, 0] 2 + 1) * Table.station.size ≤ 245 ∧
    Table.station.count < u8At [2, 3, 1] 1 + (u8At [2, 3, 1] 2 + 1) ∧ 7 < u8At [8, 0, 0] 0 ∧
    tableOf (u8At [5, 0, 12] 0) = some .program ∧ 245 < (u8At [5, 0, 12] 2 + 1) * Table.program.size ∧
    u8At [3] 0 = stationCode 2 ∧ atWork.phase 2 ≠ .off ∧ admits atWork (.heatRead 1 [3]) [3] 1 ∧ admits atWork (.dipHistory 1 [3]) [3] 1 ∧
    admits atWork (.queueRead 1 []) [] 0 ∧ admits atWork (.watchStatus 1 []) [] 0 := by decide

/-- A written SHOP record. -/
def shopWrite (r : ShopRec) : List Byte := [1, 0, 0] ++ r.bytes

theorem witness_ShopTableIsWritten :
    floor.takes (.tableWrite 1 [0, 0, 0]) = true ∧ 3 ≤ [(0 : Byte), 0, 0].length ∧ u8At [0, 0, 0] 0 = 0 ∧ 7 < u8At [8, 0, 0] 0 ∧
    (tableOf (u8At [2, 3, 1] 0) = some .station ∧ Table.station ≠ .layout ∧ Table.station.count < u8At [2, 3, 1] 1 + (u8At [2, 3, 1] 2 + 1)) ∧
    (u8At [2, 3, 0] 1 + (u8At [2, 3, 0] 2 + 1) ≤ Table.station.count ∧ (u8At [2, 3, 0] 2 + 1) * Table.station.size ≤ 245 ∧
      [(2 : Byte), 3, 0].length ≠ 3 + (u8At [2, 3, 0] 2 + 1) * Table.station.size) ∧
    (shopWrite ShopRec.default).length = 37 ∧ u8At (shopWrite ShopRec.default) 0 = 1 ∧
    shopOf ((shopWrite ShopRec.default).drop 3) = some ShopRec.default ∧
    shopOf (((shopWrite ShopRec.default).set 24 2).drop 3) = none := by decide

/-- What a request about a state is answered, with its hypotheses: it is admitted with this payload length. -/
abbrev answered (c : List Byte → Instr) (n : Nat) (row : State × List Byte × ReplyCode) : Prop :=
  admits row.1 (c row.2.1) row.2.1 n ∧ sent (after (c row.2.1) row.1) = some row.2.2

/-- W3 with its TRIP in force. -/
def tripping (s : State) : State := withW3 s { counting 0 with state := .active, applied := some (.trip, .low) } none

theorem witness_OtherTablesAreWritten :
    ∀ row ∈ [(floor, [2, 3, 0] ++ StationRec.default.bytes, ReplyCode.ok),
        (floor, [2, 0, 1] ++ StationRec.default.bytes ++ { StationRec.default with eta := 951 }.bytes, .clamped),
        (floor, [3, 1, 0] ++ UnitRec.default.bytes, .ok), (floor, [3, 1, 0] ++ [80, 200, 0, 8, 2], .badValue),
        (floor, [4, 9, 0] ++ le 4 4500, .ok), (floor, [4, 0, 0] ++ le 4 9, .clamped),
        (floor, [5, 15, 0] ++ ProgramRec.default.bytes, .ok), (floor, [5, 2, 0] ++ (ProgramRec.default.bytes.set 2 11), .badValue),
        (tripping floor, [5, 2, 0] ++ ProgramRec.default.bytes, .busy), (floor, [6, 15, 0] ++ GradeRec.default.bytes, .ok),
        (floor, [6, 0, 0] ++ { GradeRec.default with tapTarget := 14399 }.bytes, .badValue),
        (floor, [7, 3, 0] ++ LiningRec.zero.bytes, .ok), (atWork, [7, 1, 0] ++ LiningRec.zero.bytes, .metalPresent)],
      row.1.takes (.tableWrite 1 row.2.1) = true ∧ sent (after (.tableWrite 1 row.2.1) row.1) = some row.2.2 := by decide +kernel

/-- Request A with one byte changed. -/
def layoutWith (i : Nat) (b : Byte) : List Byte := layoutA.set i b

theorem witness_LayoutIsLoadedOnce :
    ∀ row ∈ [(floor, layoutA, ReplyCode.layoutLocked), (State.reset, layoutA, .ok), (State.reset, layoutWith 0 2, .badValue),
        (State.reset, layoutWith 1 0, .badValue), (State.reset, layoutWith 9 1, .badValue), (State.reset, layoutWith 17 0, .badValue),
        (State.reset, layoutWith 3 1, .clamped), (State.reset, layoutWith 0 0, .ok)],
      row.1.takes (.layout 1 row.2.1) = true ∧ row.2.1.length = 20 ∧ sent (after (.layout 1 row.2.1) row.1) = some row.2.2 := by decide +kernel

/-- U1 in RAMP_DOWN toward S2. -/
def ramping : State := withUnit floor 0 { fed 0 0 with state := .rampDown 1, decayTimer := some 0, origin := some 0 }

/-- A shop without its fourth station. -/
def threeStations : State := after (.layout 1 (layoutWith 12 0)) State.reset

theorem witness_StationsAreEnabledAndDisabled :
    (∀ row ∈ [({ threeStations with link := floor.link }, [4], ReplyCode.badValue), (floor, [1], .ok), (shut floor 3, [4], .ok)],
      answered (.stationEnable 1) 1 row) ∧
    (∀ row ∈ [(lost floor 0, [(1 : Byte)], ReplyCode.wrongPhase), (atWork, [2], .metalPresent), (tripping floor, [3], .ok), (ramping, [2], .ok)],
      answered (.stationDisable 1) 1 row) ∧
    floor.unitOf 1 = some 0 ∧ (ramping.unit 0).state = .rampDown 1 ∧ ((after (.stationDisable 1 [2]) ramping).unit 0).state = .feeding := by
  decide +kernel

theorem witness_RelineClearsTheLining :
    (∀ row ∈ [(floor, [(0 : Byte)], ReplyCode.badValue), (floor, [5], .badValue), (shut floor 0, [1], .ok), (lost floor 3, [4], .wrongPhase),
        (floor, [4], .wrongPhase), (atWork, [2], .metalPresent)], answered (.reline 1) 1 row) ∧
    State.reset.takes (.reline 1 [1]) = true ∧ [(1 : Byte)].length = 1 ∧ State.reset.cfg.layout.loaded = false := by decide

/-- A CHARGE of S1, S2 or S3: number, kilograms, grade. -/
def chargeOf (st number mass grade : Nat) : List Byte := [byteOf st, byteOf number] ++ le 2 mass ++ [byteOf grade]

theorem witness_ChargeAddsSolid :
    ∀ row ∈ [(lost floor 0, chargeOf 1 1 1 3, ReplyCode.wrongPhase), (atWork, chargeOf 3 4 1 255, .assigned),
        ({ floor with linings := place floor.linings 0 { LiningRec.zero with melted := 1, limit := 1 } }, chargeOf 1 1 1 3, .liningSpent),
        (floor, chargeOf 1 1 0 3, .badValue), (floor, chargeOf 1 1 6001 3, .badValue), (floor, chargeOf 1 1 1 16, .badValue),
        (floor, chargeOf 1 1 1 255, .badValue), (atWork, chargeOf 2 4 1 2, .gradeMismatch), (atWork, chargeOf 2 3 1 3, .sequence),
        (withHeat floor 0 (bath 6000 14200), chargeOf 1 4 1 3, .badValue), (floor, chargeOf 1 1 6000 15, .ok),
        (withHeat floor 0 (charge 1 0), chargeOf 1 4 5999 255, .ok), (withHeat floor 0 (bath 5999 14200), chargeOf 1 4 2 3, .clamped)],
      answered (.charge 1) 5 row := by decide +kernel

theorem witness_DipReplacesTheEstimate :
    ∀ row ∈ [(lost floor 0, 1 :: le 2 14300, ReplyCode.wrongPhase), (atWork, 1 :: le 2 14300, .wrongPhase), (atWork, 3 :: le 2 9999, .badValue),
        (atWork, 3 :: le 2 17501, .badValue), (atWork, 2 :: le 2 10000, .ok), (atWork, 3 :: le 2 17500, .ok), (atWork, 3 :: le 2 14500, .ok)],
      answered (.dip 1) 3 row := by decide +kernel

/-- A shop with S1 in HOLD, S2 in MELT, S3 in SUPERHEAT, S4 in HOLD. -/
def pouring : State :=
  withHeat (withHeat { atWork with pending := [] } 0 (bath 5000 14600)) 3 { bath 7000 14000 with grade := some 4 }

theorem witness_TransferMovesMetal :
    ∀ row ∈ [(pouring, [1, 1] ++ le 2 1, ReplyCode.badValue), (pouring, [3, 1] ++ le 2 1, .assigned), (pouring, [2, 1] ++ le 2 1, .wrongPhase),
        (pouring, [1, 2] ++ le 2 0, .badValue), (pouring, [1, 2] ++ le 2 5001, .badValue), (pouring, [1, 3] ++ le 2 1, .assigned),
        (lost pouring 1, [1, 2] ++ le 2 1, .wrongPhase), (pouring, [1, 4] ++ le 2 1, .gradeMismatch), (pouring, [1, 2] ++ le 2 4001, .badValue),
        (pouring, [1, 2] ++ le 2 4000, .ok), (withHeat floor 0 (bath 5000 14600), [1, 2] ++ le 2 5000, .ok),
        (withHeat (withHeat floor 0 (bath 5000 14600)) 3 (bath 7000 14000), [1, 4] ++ le 2 1000, .ok)],
      answered (.transfer 1) 4 row := by decide +kernel

/-- A HEAT LOAD of S1 with an image of a record. -/
def imageOf (r : HeatRec) : List Byte := 1 :: heatImage 0 r 0

theorem witness_HostEstablishesHeats :
    (∀ row ∈ [(floor, imageOf (charge 1 5999), ReplyCode.wrongPhase), (lost floor 0, imageOf (charge 1 5999), .ok),
        (lost floor 0, imageOf (bath 6000 11000), .ok), (lost floor 0, imageOf (bath 6001 11000), .imageInvalid),
        (lost floor 0, imageOf { bath 1 14000 with residual := -10000000001 }, .imageInvalid)], answered (.heatLoad 1) 49 row) ∧
    (∀ row ∈ [(floor, [1, 3] ++ le 2 0 ++ le 2 1 ++ le 2 11000, ReplyCode.wrongPhase), (lost floor 0, [1, 16] ++ le 2 0 ++ le 2 1 ++ le 2 11000, .badValue),
        (lost floor 0, [1, 15] ++ le 2 0 ++ le 2 6000 ++ le 2 16500, .ok), (lost floor 0, [1, 0] ++ le 2 1 ++ le 2 0 ++ le 2 0, .ok)],
      answered (.heatDeclare 1) 8 row) := by decide +kernel

theorem witness_HeatsAreEmptiedAndFlagsCleared :
    (∀ row ∈ [(lost floor 0, [(1 : Byte)], ReplyCode.ok), (floor, [4], .ok), (atWork, [2], .metalPresent)], answered (.heatEmpty 1) 1 row) ∧
    (let s := withHeat floor 0 { bath 5000 14200 with flags := 0x20 }
     u8At [1, 0x20] 0 = stationCode 0 ∧ (s.phase 0).running = true ∧
     ((s.record 0).flags.getLsbD 5 && ([1, 0x20].getD 1 0 : FlagSet).getLsbD 5) = true ∧
     ((s.record 0).flags.getLsbD 5 && ([1, 0xDF].getD 1 0 : FlagSet).getLsbD 5) = false ∧ admits s (.flagsClear 1 [1, 0x20]) [1, 0x20] 2 ∧
     admits floor (.flagsClear 1 [1, 0x20]) [1, 0x20] 2 ∧ (floor.phase 0).running = false ∧ floor.phase 0 ≠ .off) := by decide

/-- The last kilogram of S3 about to melt, a ladle waiting for it. -/
def lastSolid : State :=
  withQueue (withHeat (withUnit floor 1 { fed 2 3600 with measured := 3600 }) 2 (charge 1 5999)) [ladle 17 2000 14800 none none]

theorem witness_ModelStepMovesTheBath :
    atWork.resetHeld = false ∧ (atWork.phase 3).running = false ∧ (∀ st ∈ [(0 : Station), 1, 2], (atWork.phase st).running = true) ∧
    lastSolid.resetHeld = false ∧ (lastSolid.phase 2).running = true ∧ 0 < (lastSolid.record 2).solid ∧
    ((after (.modelStep 2) lastSolid).record 2).solid = 0 := by decide

theorem witness_ModelStepSetsFlagsAtCrossings :
    pouring.resetHeld = false ∧ (pouring.phase 3).running = true ∧ runs (.modelStep 3) pouring = true ∧
    (∀ e ∈ pouring.taps.entries, e.station ≠ some 3) ∧ pouring.taps.entries ≠ [] ∧ (pouring.record 3).solid = 0 ∧
    (∀ e ∈ lastSolid.taps.entries, e.station ≠ some 2) ∧ (after (.modelStep 2) lastSolid).phase 2 = .superheat ∧
    (after (.modelStep 2) (withQueue lastSolid [])).phase 2 = .hold := by decide

theorem witness_UnitModeIsSet :
    ∀ row ∈ [(floor, [(2 : Byte), 2], ReplyCode.badValue), (floor, [1, 0], .ok), (floor, [2, 1], .ok)], answered (.unitMode 1) 2 row := by decide

/-- Both units in MANUAL, S2's coil at its minimum flow. -/
def byHand : State :=
  { floor with
    cfg := { floor.cfg with units := Vector.replicate 2 { UnitRec.default with mode := .manual } }
    circuits := place floor.circuits 1 { look floor.circuits 1 with flow := some 300 } }

theorem witness_ChangeoverStartsRampDown :
    ∀ row ∈ [(byHand, [(1 : Byte), 3], ReplyCode.badValue), (floor, [1, 2], .wrongMode),
        (withUnit byHand 0 { fed 0 0 with state := .inhibited }, [1, 2], .inhibited),
        (withUnit byHand 0 { fed 0 0 with state := .settling 1 }, [1, 2], .busy), (byHand, [1, 1], .ok), (shut byHand 1, [1, 2], .barred),
        ({ byHand with circuits := place byHand.circuits 1 { look byHand.circuits 1 with flow := some 299 } }, [1, 2], .notReady),
        (byHand, [1, 2], .ok)],
      answered (.changeover 1) 2 row := by decide

theorem witness_TripResetRemovesWhatIsGone : admits (tripping swinging) (.tripReset 1 [2]) [2] 1 ∧ u8At [2] 0 = unitCode 1 := by decide

/-- U1 in a state, with or without the pump fault. -/
def judged (state : UnitState) (pump : Bool) : State :=
  withUnit floor 0 { fed 0 0 with state, causes := { Causes.clear with pump } }

/-- U1 in SETTLING at S2. -/
def settled : State := withUnit floor 0 { fed 1 0 with state := .settling 1, settleTimer := some 0 }

/-- U2 INHIBITED on its way to S4. -/
def strandedAway : State := withUnit swinging 1 { swinging.unit 1 with state := .inhibited }

theorem witness_UnitTimersEndRampAndTravel :
    UnitFits floor 0 ∧ UnitFits ramping 0 ∧ UnitFits swinging 1 ∧ UnitFits settled 0 ∧ UnitFits (judged .inhibited true) 0 ∧
    UnitFits strandedAway 1 ∧ (floor.unit 0).state = .feeding ∧ (swinging.unit 1).state = .switching 3 ∧ (settled.unit 0).state = .settling 1 ∧
    ((judged .inhibited true).unit 0).state = .inhibited ∧ ((judged .inhibited true).unit 0).travel = none ∧
    (strandedAway.unit 1).state = .inhibited ∧ (strandedAway.unit 1).travel = some { target := 3, timer := 5000 } := by
  refine ⟨?_, ?_, ?_, ?_, ?_, ?_, by decide⟩
  · exact ⟨by decide, by decide, by decide, by decide, by decide, by rintro v ⟨⟩, by decide, by decide, by decide, by decide, by decide⟩
  · exact ⟨by decide, by decide, by decide, by decide, by decide, by rintro v ⟨⟩, by decide, by decide, by decide, by decide, by decide⟩
  · exact ⟨by decide, by decide, by decide, by decide, by decide, by rintro v ⟨⟩; decide, by decide, by decide, by decide, by decide, by decide⟩
  · exact ⟨by decide, by decide, by decide, by decide, by decide, by rintro v ⟨⟩, by decide, by decide, by decide, by decide, by decide⟩
  · exact ⟨by decide, by decide, by decide, by decide, by decide, by rintro v ⟨⟩, by decide, by decide, by decide, by decide, by decide⟩
  · exact ⟨by decide, by decide, by decide, by decide, by decide, by rintro v ⟨⟩; decide, by decide, by decide, by decide, by decide, by decide⟩

theorem witness_UnitTimersEndRampAndTravel_events :
    ramping.resetHeld = false ∧ (ramping.unit 0).state = .rampDown 1 ∧ min 72 (ramping.rating 0 * 125 / 100) ≤ ramping.rating 0 * 2 / 100 ∧
    ramping.rating 0 * 2 / 100 < min 73 (ramping.rating 0 * 125 / 100) ∧ (∀ st, (floor.unit 0).state ≠ .rampDown st) ∧
    (floor.unit 0).travel = none ∧ (swinging.unit 1).travel ≠ none ∧ (swinging.unit 1).state ≠ .inhibited ∧
    (let s := withUnit swinging 1 { swinging.unit 1 with state := .inhibited }
     s.resetHeld = false ∧ (s.unit 1).travel ≠ none ∧ (s.unit 1).state = .inhibited) := by decide

theorem witness_ContactsGiveThePosition :
    State.reset.resetHeld = false ∧ State.reset.used 0 = false ∧ swinging.used 1 = true ∧
    (swinging.unit 1).travel = some { target := 3, timer := 5000 } ∧
    (if (false : Bool) && !true then (swinging.paired 1)[0]? else if true && !false then (swinging.paired 1)[1]? else none) = some 3 ∧
    (swinging.paired 1)[0]? ≠ some 3 ∧ (swinging.unit 1).state ≠ .inhibited ∧
    (let arrived := fun c : Causes => withUnit swinging 1 { fed 3 0 with state := .inhibited, causes := c }
     (arrived Causes.clear).tripsEmpty 1 = true ∧ (arrived { Causes.clear with pump := true }).tripsEmpty 1 = false) ∧
    floor.used 0 = true ∧ (floor.unit 0).travel = none := by decide

theorem witness_SettleAndDwellLetTheUnitFeed :
    (let s := withUnit floor 0 { fed 1 0 with state := .settling 1, settleTimer := some 0 }
     s.resetHeld = false ∧ (s.unit 0).state = .settling 1) ∧
    (∀ st, (floor.unit 0).state ≠ .settling st) ∧
    (let s := withUnit floor 0 { fed 0 0 with dwellDone := false }
     s.resetHeld = false ∧ (s.unit 0).state = .feeding ∧ (s.unit 0).dwellDone = false ∧
     s.cfg.shop.minDwell ≤ min 4294967295 ((s.unit 0).feedingMs / 1000)) ∧
    (let s := withUnit floor 0 { fed 0 0 with dwellDone := false, feedingMs := 59999 }
     min 4294967295 ((s.unit 0).feedingMs / 1000) < s.cfg.shop.minDwell) ∧
    (floor.unit 0).dwellDone = true := by decide

theorem witness_FaultLinesLatchTheirCauses : atWork.resetHeld = false := by decide

theorem witness_IntervalSyncRestartsTheInterval :
    (∀ row ∈ [(floor, ([] : List Byte), ReplyCode.wrongMode)], answered (.intervalSync 1) 0 row) ∧
    (∀ lost : Bool, let s := { floor with cfg := { floor.cfg with shop := { floor.cfg.shop with demandSync := true } }
                                          alloc := { floor.alloc with syncLost := lost } }
      admits s (.intervalSync 1 []) [] 0 ∧ s.cfg.shop.demandSync = true ∧ s.alloc.syncLost = lost) := by decide

/-- The shop of the worked demand case with the demand sync on and in force. -/
def synced (t : Nat) : State :=
  { floor with
    cfg := { floor.cfg with shop := { floor.cfg.shop with demandSync := true, contract := 5000, baseLoad := 300, holdReserve := 400 } }
    alloc := { floor.alloc with t := t }
    channels := place (place floor.channels 0 { reading := some 321, timer := some 1 }) 1 { reading := some 320, timer := some 1 } }

theorem witness_AllocationPassKeepsTheAccount :
    floor.resetHeld = false ∧ ¬ (floor.cfg.shop.demandSync = true ∧ floor.alloc.syncLost = false) ∧
    (let s := { floor with alloc := { floor.alloc with t := 899 } }
     s.cfg.shop.interval ≤ s.alloc.t + 1) ∧
    ((synced 959).cfg.shop.demandSync = true ∧ (synced 959).alloc.syncLost = false ∧ (synced 959).cfg.shop.interval + 60 ≤ (synced 959).alloc.t + 1 ∧
      ¬ (synced 958).cfg.shop.interval + 60 ≤ (synced 958).alloc.t + 1) ∧
    floor.cfg.shop.contract = 0 ∧ (synced 0).cfg.shop.contract ≠ 0 ∧ floor.supply = none ∧ (synced 0).supply = some 321 ∧
    (synced 0).cfg.shop.coolStart < (321 : Int) ∧ (321 : Int) < (synced 0).cfg.shop.coolStop := by decide

theorem witness_GrantsStayWithinTheShopLimit :
    (asking floor 0 420 .keep).heat 0 = { StationHeat.clear .empty with request := 420, need := .keep } ∧
    ((asking floor 0 420 .keep).unit 0).state = .feeding ∧ (asking floor 0 420 .keep).active 0 = some 0 ∧ floor.resetHeld = false ∧
    runs .allocationPass floor = true := by decide

theorem witness_ArrivalsAndPulsesAreTaken :
    floor.resetHeld = false ∧ (look floor.channels 0).timer ≠ some 0 ∧
    (let s := { floor with channels := place floor.channels 0 { reading := some 321, timer := some 0 } }
     s.resetHeld = false ∧ (look s.channels 0).timer = some 0) := by decide

theorem witness_GateMeasuresTheCircuit :
    floor.resetHeld = false ∧ 4 ≤ (4 : Circuit).val ∧ (1 : Station).val = (1 : Circuit).val ∧ floor.unitOf 1 = some 0 ∧ floor.active 0 ≠ some 1 ∧
    floor.unitOf 0 = some 0 ∧ floor.active 0 = some 0 ∧ State.reset.unitOf 0 = none := by decide

theorem witness_EmergencyWaterIsClosed :
    ∀ row ∈ [(atWork, [(2 : Byte), 2], ReplyCode.badValue), (atWork, [2, 1], .ok), (atWork, [2, 0], .ok), (floor, [1, 1], .ok),
        ({ atWork with lines := { atWork.lines with pumpFault := true } }, [2, 1], .stillActive)], answered (.ewClose 1) 2 row := by decide

/-- The manual's W3 with an emergency in place of the trip. -/
def emergencyW3 (s : State) (x : RunState) : State :=
  let s := withW3 s x (some 310)
  { s with cfg := { s.cfg with programs := place s.cfg.programs 2 { s.program 2 with onLow := .emergency } } }

theorem witness_EvaluationMovesTheProgram :
    (floor.resetHeld = false ∧ floor.live 2 = false) ∧
    (let s := withW3 floor (counting 1) none
     let s := { s with runs := place s.runs 2 { s.run 2 with periodTimer := some 1 } }
     s.resetHeld = false ∧ s.live 2 = true ∧ (s.run 2).periodTimer ≠ some 0) ∧
    (∀ x ∈ [RunState.off, counting 1, counting 2, { counting 0 with state := .active, applied := some (.trip, .low) },
        { counting 2 with state := .active, applied := some (.note, .low) },
        { counting 0 with state := .latched, latchedDir := some .low, applied := some (.trip, .low) },
        { RunState.off with state := .stale, applied := some (.trip, .stale) }, { RunState.off with state := .watch }],
      ∀ flow ∈ [none, some 310, some 400, some 450],
        (withW3 floor x flow).resetHeld = false ∧ (withW3 floor x flow).live 2 = true ∧
          ((withW3 floor x flow).run 2).periodTimer = some 0 ∧ runs (.programEvaluation 2) (withW3 floor x flow) = true) ∧
    (emergencyW3 atWork (counting 2)).live 2 = true ∧
    look (after (.programEvaluation 2) (emergencyW3 atWork (counting 2))).valves 2 = true := by decide +kernel

/-- A LADLE REQUEST of a ladle, G3, with mass and offset. -/
def ladleOf (id mass : Nat) (offset : Int) : List Byte := [byteOf id, 3] ++ le 2 mass ++ leSigned 2 offset

/-- A tap queue of `n` ladles without a station. -/
def queueOf (n : Nat) : State := withQueue floor ((List.range n).map (fun i => ladle (i + 1) 1000 14800 none none))

theorem witness_LadleJoinsTheQueue :
    ∀ row ∈ [(floor, ladleOf 0 100 0, ReplyCode.badValue), (floor, ladleOf 251 100 0, .badValue), (floor, ladleOf 250 99 0, .badValue),
        (floor, ladleOf 1 8001 0, .badValue), (floor, ladleOf 1 100 501, .badValue), (floor, ladleOf 1 100 (-501), .badValue),
        (queueOf 8, ladleOf 8 100 0, .duplicate), (queueOf 8, ladleOf 9 100 0, .full), (queueOf 7, ladleOf 250 8000 500, .ok),
        (queueOf 0, ladleOf 1 100 (-500), .clamped), (queueOf 0, ladleOf 1 100 (-32768), .ok)], answered (.ladleRequest 1) 6 row := by decide +kernel

/-- L17 at S2, between two others. -/
def amid (permit : Option Permit) : State :=
  withQueue (shop88Hot 14840 none) ([ladle 21 4800 14400 none none] ++ ladle 17 2000 14860 (some 1) permit :: [ladle 9 100 14800 none none])

theorem witness_PermitsStartAndExpire :
    (∀ row ∈ [(amid none, [(17 : Byte)], ReplyCode.ok), (amid (some { id := 7, leftMs := 1, started := true }), [17], .wrongPhase), (amid none, [8], .notFound)],
      answered (.ladleCancel 1) 1 row) ∧
    (∀ row ∈ [(amid (some { id := 7, leftMs := 1, started := false }), [(7 : Byte)], ReplyCode.ok), (amid (some { id := 7, leftMs := 1, started := true }), [7], .ok),
        (amid none, [7], .notFound)], answered (.tapStart 1) 1 row) ∧
    (∀ d ∈ [ladle 21 4800 14400 none none], d.ladle ≠ 17 ∧ d.permit.map Permit.id ≠ some 7) ∧
    (amid none).resetHeld = false ∧ 1 < (amid none).cfg.shop.expiryLimit ∧ (amid none).cfg.shop.expiryLimit ≤ 2 + 1 ∧
    (∀ d ∈ (amid none).taps.entries, ∀ q ∈ d.permit, q.id = 7 → q.started = true) ∧ floor.taps.entries = [] ∧
    (∀ row ∈ [(floor, [(17 : Byte)], ReplyCode.notFound)], answered (.ladleCancel 1) 1 row ∧ answered (.tapStart 1) 1 row) := by decide

/-- L17 pouring from S2 in TAPPING. -/
def tapping : State :=
  let s := amid (some { id := 7, leftMs := 80000, started := true })
  { s with heats := place s.heats 1 { s.heat 1 with record := { s.record 1 with phase := .tapping } } }

theorem witness_TapsPourIntoLadles :
    tapping.taps.entries = [ladle 21 4800 14400 none none] ++
      ladle 17 2000 14860 (some 1) (some { id := 7, leftMs := 80000, started := true }) :: [ladle 9 100 14800 none none] ∧
    (∀ d ∈ [ladle 21 4800 14400 none none], ∀ z ∈ d.permit, z.id = 7 → z.started = false) ∧
    (∀ row ∈ [(tapping, [7] ++ le 2 1 ++ le 2 9999, ReplyCode.badValue), (tapping, [7] ++ le 2 1 ++ le 2 17501, .badValue),
        (tapping, [7] ++ le 2 2499 ++ le 2 0, .ok), (tapping, [7] ++ le 2 2501 ++ le 2 10000, .clamped), (tapping, [7] ++ le 2 2499 ++ le 2 16500, .ok),
        (tapping, [7] ++ le 2 2499 ++ le 2 17500, .ok), (tapping, [8] ++ le 2 1 ++ le 2 0, .notFound)], answered (.tapDone 1) 5 row) ∧
    (∀ row ∈ [(floor, [(7 : Byte)] ++ le 2 1 ++ le 2 0, ReplyCode.notFound), (amid none, [7] ++ le 2 1 ++ le 2 0, .notFound)],
      answered (.tapDone 1) 5 row) ∧
    (∀ row ∈ [(floor, [(7 : Byte)] ++ le 2 1, ReplyCode.notFound)], answered (.tapAbort 1) 3 row) ∧
    (∀ row ∈ [(tapping, [7] ++ le 2 2000, ReplyCode.ok), (withHeat tapping 1 { bath 1000 14800 with phase := .tapping }, [7] ++ le 2 1000, .ok),
        (tapping, [7] ++ le 2 1999, .ok), (tapping, [8] ++ le 2 1, .notFound)], answered (.tapAbort 1) 3 row) := by decide +kernel

/-- U1 at S1 of class KEEP, S2 cooled and of a class. -/
def drawn (need : NeedClass) (ms : Nat) : State :=
  let s := asking (asking floor 0 100 .keep) 1 100 need
  withUnit s 0 { fed 0 300 with feedingMs := ms }

theorem witness_RequestsFollowTheBath :
    atWork.phase 1 = .melt ∧ atWork.phase 2 = .superheat ∧ atWork.phase 3 = .empty ∧ (∀ d ∈ [ladle 17 2000 14800 (some 0) none], d.station ≠ some 2) ∧
    atWork.objective 2 = some { temp := 14800, band := (atWork.gradeRec 3).tapWindow } ∧
    (∀ need ∈ [NeedClass.idle, .keep], (floor.heat 0).need = .idle ∧ ((asking floor 0 1 need).heat 0).need = need) ∧
    floor.unitOf 0 = some 0 ∧ State.reset.unitOf 0 = none ∧
    ((autoEvaluate 0 (drawn .melt 60000)).unit 0).state = .rampDown 1 ∧ ((autoEvaluate 0 (drawn .melt 59999)).unit 0).state = .feeding ∧
    ((autoEvaluate 0 (drawn .urgent 0)).unit 0).state = .rampDown 1 := by decide

theorem witness_QueueIsServedHeadFirst :
    (hush shop88).link.silent = true ∧ shop88.link.silent = false ∧
    (let s := withQueue shop88 [ladle 17 2500 14860 none none]
     s.taps.entries[1]? = none ∧ s.taps.entries[0]? = some (ladle 17 2500 14860 none none) ∧ (judgeEntry s 0).phase 1 = .superheat) ∧
    (let s := withQueue shop88 [ladle 17 4501 14860 none none]
     judgeEntry s 0 = s) ∧
    (amid none).taps.entries[1]? = some (ladle 17 2000 14860 (some 1) none) := by decide

/-- S2's bath at an estimate, its dip of an age. -/
def checked (tEst : Nat) (dip : Option Nat) : State :=
  let s := amid none
  { s with heats := place s.heats 1 { s.heat 1 with record := { s.record 1 with
      tEst, dipMark := dip.isSome, lastDip := dip.map (fun age => { temp := 14800, age }) } } }

theorem witness_AssignedStationsAreChecked :
    (∀ d ∈ floor.taps.entries, d.station ≠ some 1) ∧
    (amid none).taps.entries = [ladle 21 4800 14400 none none] ++ ladle 17 2000 14860 (some 1) none :: [ladle 9 100 14800 none none] ∧
    (∀ d ∈ [ladle 21 4800 14400 none none], d.station ≠ some 1) ∧
    -- released: the unit INHIBITED below the window, WATER, liquid that no longer covers the ladle
    (∀ s ∈ [withUnit (checked 14759 none) 0 { fed 1 0 with state := .inhibited },
        withHeat (amid none) 1 { bath 2500 14840 with phase := .superheat, flags := 0x20 },
        withHeat (amid none) 1 { bath 1999 14840 with phase := .superheat }], (releaseCheck 1 s).taps.entries[1]?.map QueueEntry.station ≠ some (some 1)) ∧
    (releaseCheck 1 (withUnit (checked 14760 none) 0 { fed 1 0 with state := .inhibited })).phase 1 = .superheat ∧
    -- called at the window, also for a dip past its age; not below it, not while the dip is fresh
    (∀ s ∈ [checked 14760 none, checked 14760 (some 601)], notices (dipWantedCheck 1 s) ≠ []) ∧
    (∀ s ∈ [checked 14759 none, checked 14760 (some 600)], notices (dipWantedCheck 1 s) = []) ∧
    -- ready on both ends of the window
    (∀ s ∈ [checked 14760 (some 600), checked 14960 (some 0)], (readinessCheck 1 s).permitIds = [7]) ∧
    (∀ s ∈ [checked 14759 (some 0), checked 14961 (some 0), hush (checked 14860 (some 0))], (readinessCheck 1 s).permitIds = []) := by decide +kernel

theorem witness_UnitsAreRejudged :
    (∀ x ∈ [UnitState.inhibited, .feeding, .switching 1, .settling 1, .rampDown 1],
      (judged x false).tripsEmpty 0 = true ∧ (judged x true).tripsEmpty 0 = false ∧ ((judged x true).unit 0).state = x) ∧
    ((judged .inhibited false).unit 0).travel = none ∧ ((judged .inhibited false).unit 0).position ≠ none ∧
    (shut (judged (.rampDown 1) false) 1).phase 1 = .off ∧ (judged (.rampDown 1) false).bars 1 = [] ∧
    (tripping floor).bars 2 ≠ [] ∧ floor.unitOf 2 = some 1 ∧ State.reset.unitOf 2 = none ∧
    (let s := withW3 (withUnit floor 1 (fed 3 0)) { RunState.off with state := .watch } none
     (rejudge 1 s).bars 2 = [] ∧ (rejudge 1 s).active 1 ≠ some 2) := by decide

theorem witness_FlagsAndValvesActOnce :
    (floor.phase 0).running = false ∧ (atWork.phase 0).running = true ∧ (atWork.phase 2).running = true ∧
    hasFlag (atWork.record 2).flags .water = false ∧
    (∃ e ∈ atWork.taps.entries, e.station = some 2 ∧ e.permit = none) ∧ (∃ e ∈ atWork.taps.entries, e.station = some 0 ∧ e.permit ≠ none) ∧
    (∀ d ∈ atWork.taps.entries, d.station ≠ some 1) ∧ look atWork.valves 1 = true ∧ look atWork.valves 0 = false ∧
    atWork.emergencyStands 0 = false ∧ { atWork with lines := { atWork.lines with pumpFault := true } }.emergencyStands 0 = true := by decide

end Sys2Proof.Tests
end

/-!
PROOFS. The checks of R5 on a request that names a station, a refusal as the dispatch leaves it, and RELINE (R13).
-/

namespace Sys2Proof.Machine

/-! ## The checks of R5 -/

/-- A station is named by its own code. -/
@[simp] theorem stationOf_stationCode (st : Station) : stationOf (stationCode st) = some st := by
  simp [stationOf, stationCode]

/-- A number outside S1 to S4 names no station. -/
theorem stationOf_outside {n : Nat} (h : n < 1 ∨ 4 < n) : stationOf n = none :=
  dif_neg (by omega)

/-- R5, step 1, of a request that names a station. -/
theorem namingStation_noLayout {s : State} (n : Nat) (body : Station → Answer) (h : s.cfg.layout.loaded = false) :
    namingStation s n body = refuse s .noLayout := by
  simp [namingStation, withLayout, h]

/-- R5, step 2, of a request that names no station of the range. -/
theorem namingStation_badValue {s : State} {n : Nat} (body : Station → Answer) (h : s.cfg.layout.loaded = true)
    (hn : n < 1 ∨ 4 < n) : namingStation s n body = refuse s .badValue := by
  simp [namingStation, withLayout, h, stationOf_outside hn]

/-- A request that passes both checks is judged for the station it names. -/
theorem namingStation_named {s : State} {n : Nat} {st : Station} (body : Station → Answer) (h : s.cfg.layout.loaded = true)
    (hn : n = stationCode st) : namingStation s n body = body st := by
  simp [namingStation, withLayout, h, hn]

/-! ## A refusal (R170) -/

/-- A request row that is taken and that its owner refuses sends the code alone. -/
theorem serveRequest_refused {i : Instr} {k : RequestKind} {tag : Byte} {payload : List Byte} {owner : State → Answer} {s : State}
    {code : ReplyCode} (hf : i.frame = some (k.code, tag, payload)) (h : s.takes i = true) (hl : k.fits payload = true)
    (ho : owner s.popped = refuse s.popped code) : serveRequest k tag payload owner s = .next (s.refused i code) := by
  obtain ⟨hheld, -, hrestart, -⟩ := takes_parts hf h
  have ha : (owner s.popped).state.resetHeld = false := by rw [ho]; exact hheld
  have hd : (owner s.popped).state.link.restart ≠ .due := by simp [ho, refuse, hrestart]
  rw [serveRequest_taken k tag payload owner s hf h hl ha hd, ho, refuse_replied]

/-! ## RELINE (R13) -/

@[simp] theorem popped_phase (s : State) (st : Station) : s.popped.phase st = s.phase st := rfl

/-- With its count at 0 a lining is not spent, whatever its limit. -/
@[simp] theorem relined_spent (l : LiningRec) : l.relined.spent = false := by
  by_cases h : l.limit = 0 <;> simp [LiningRec.relined, LiningRec.zero, LiningRec.spent, h]

section
variable {s : State} {p : List Byte} {st : Station}

theorem relineOwner_off (hl : s.cfg.layout.loaded = true) (hp : u8At p 0 = stationCode st) (h : s.phase st = .off) :
    relineOwner p s =
      { state := { s with linings := place s.linings st (look s.linings st).relined }, code := .ok, data := [] } := by
  simp [relineOwner, namingStation_named _ hl hp, h]

theorem relineOwner_wrongPhase (hl : s.cfg.layout.loaded = true) (hp : u8At p 0 = stationCode st)
    (h : s.phase st = .unknown ∨ s.phase st = .empty) : relineOwner p s = refuse s .wrongPhase := by
  rcases h with h | h <;> simp [relineOwner, namingStation_named _ hl hp, h]

theorem relineOwner_metalPresent (hl : s.cfg.layout.loaded = true) (hp : u8At p 0 = stationCode st)
    (h : (s.phase st).running = true) : relineOwner p s = refuse s .metalPresent := by
  rw [relineOwner, namingStation_named _ hl hp]
  cases hph : s.phase st <;> simp_all [Phase.running]

end

theorem reline_fits {p : List Byte} (h : p.length = 1) : RequestKind.reline.fits p = true := by
  simp [RequestKind.fits, RequestKind.length, h]

section
variable {s : State} {tag : Byte} {p : List Byte}

/-- A RELINE that is taken and refused by its owner sends the code alone. -/
theorem exec_reline_refused {code : ReplyCode} (ht : s.takes (.reline tag p) = true) (hlen : p.length = 1)
    (ho : relineOwner p s.popped = refuse s.popped code) : exec (.reline tag p) s = .next (s.refused (.reline tag p) code) :=
  serveRequest_refused (i := .reline tag p) rfl ht (reline_fits hlen) ho

/-- A RELINE of an OFF station: its lining is relined and OK is sent. -/
theorem exec_reline_off {st : Station} (ht : s.takes (.reline tag p) = true) (hlen : p.length = 1)
    (hl : s.cfg.layout.loaded = true) (hp : u8At p 0 = stationCode st) (h : s.phase st = .off) :
    exec (.reline tag p) s = .next (State.replied
      { s.popped with linings := place s.linings st (look s.linings st).relined } (.reline tag p) .ok []) := by
  have ho := relineOwner_off (s := s.popped) hl hp h
  obtain ⟨hheld, -, hrestart, -⟩ := takes_parts (i := .reline tag p) rfl ht
  have hd : (relineOwner p s.popped).state.link.restart ≠ .due := by simp [ho, hrestart]
  have key := serveRequest_taken (i := .reline tag p) .reline tag p (relineOwner p) s rfl ht (reline_fits hlen)
    (by rw [ho]; exact hheld) hd
  rw [ho] at key
  exact key

end

/-- Settles O31: the two checks of R5, then the station's phase decides. -/
theorem relineClearsTheLining : Obligations.RelineClearsTheLining := by
  intro s tag p c ht hlen
  refine ⟨fun hl => ?noLayout, fun hl hn => ?badValue, fun hl st hp => ⟨fun h => ?off, fun h => ?wrongPhase, fun h => ?metal⟩⟩
  case noLayout => exact exec_reline_refused ht hlen (namingStation_noLayout _ _ hl)
  case badValue => exact exec_reline_refused ht hlen (namingStation_badValue _ hl hn)
  case off => exact ⟨(look s.linings st).relined, rfl, relined_spent _, exec_reline_off ht hlen hl hp h⟩
  case wrongPhase => exact exec_reline_refused ht hlen (relineOwner_wrongPhase hl hp h)
  case metal => exact exec_reline_refused ht hlen (relineOwner_metalPresent hl hp h)

end Sys2Proof.Machine

/-!
PROOFS. A request of a station as its dispatch leaves it: refused, or answered by its owner's work; then DIP (R48 to R53), HEAT LOAD and
HEAT DECLARE (R60 to R62).
-/

namespace Sys2Proof.Machine

/-! ## Requests of a station that is not OFF (R5, R7, R170) -/

section
variable {s : State} {i : Instr} {k : RequestKind} {tag : Byte} {p : List Byte} {n : Nat} {st : Station} {owner : State → Answer}
  {code : ReplyCode} {data : List Byte}

/-- A request that passes the checks of R5 and R7 is judged for the station it names. -/
theorem forStation_named (body : Station → Answer) (hl : s.cfg.layout.loaded = true) (hn : n = stationCode st)
    (hoff : s.phase st ≠ .off) : forStation s n body = body st := by
  rw [forStation, namingStation_named _ hl hn, if_neg hoff]

/-- A payload of the length its kind requires passes the length check (R170). -/
theorem fits_of_length (h : p.length = k.length) : k.fits p = true := by
  unfold RequestKind.fits
  split
  · exact decide_eq_true (Nat.le_of_eq h.symm)
  · exact beq_iff_eq.mpr h

/-- A request that reaches its owner and is refused there sends the code alone. -/
theorem Admitted.refused (h : Admitted s i p k.length) (hf : i.frame = some (k.code, tag, p))
    (ho : owner s.popped = refuse s.popped code) : serveRequest k tag p owner s = .next (s.refused i code) :=
  serveRequest_refused hf h.taken (fits_of_length h.length) ho

/-- A request that reaches its owner leaves the owner's state with the reply placed, unless the owner holds the part or restarts it. -/
theorem Admitted.answered {t : State} (h : Admitted s i p k.length) (hf : i.frame = some (k.code, tag, p))
    (ho : owner s.popped = { state := t, code, data })
    (hopen : t.resetHeld = s.resetHeld ∧ t.link.restart = s.link.restart) :
    serveRequest k tag p owner s = .next (t.replied i code data) := by
  obtain ⟨hheld, -, hrestart, -⟩ := takes_parts hf h.taken
  have key := serveRequest_taken k tag p owner s hf h.taken (fits_of_length h.length)
    (by rw [ho]; exact hopen.1.trans hheld) (by simp [ho, hopen.2, hrestart])
  rw [key, ho]

end

/-! ## The drift judgement (R53) -/

/-- An occurrence of a flag other than WATER leaves every dip history. -/
theorem raise_history {f : HeatFlag} (hf : f ≠ .water) (st o : Station) (s : State) :
    ((raise f st s).heat o).history = (s.heat o).history := by
  have hmark : ((s.onRecord st (fun r => { r with flags := setFlag r.flags f })).heat o).history = (s.heat o).history := by
    rw [State.onRecord_heat]
    split
    · next h => rw [h]
    · rfl
  have hcond : ¬ (f = .water ∧ hasFlag (s.record st).flags .water = false) := fun h => hf h.1
  simp only [raise, if_neg hcond]
  split
  · split
    · exact hmark
    · rw [← hmark]; rfl
  · rfl

theorem drifts_iff (tol : Nat) (h : List DipEntry) : drifts tol h = true ↔
    ((modelEntries h).drop ((modelEntries h).length - 3)).length = 3 ∧
      ((∀ e ∈ (modelEntries h).drop ((modelEntries h).length - 3), (tol : Int) < e.residual) ∨
        ∀ e ∈ (modelEntries h).drop ((modelEntries h).length - 3), e.residual < -(tol : Int)) := by
  simp only [drifts, Bool.and_eq_true, Bool.or_eq_true, List.all_eq_true, decide_eq_true_eq]

/-! ## A reading taken (R49, R50, R162) -/

section
variable (st : Station) (temp : Nat) (s : State)

/-- A reading stands in the history with the estimate it replaces. -/
theorem applyReading_history (origin : DipOrigin) (mark : Bool) :
    ((applyReading st temp origin mark s).heat st).history = addDip (s.heat st).history (s.dipEntry st temp origin) := by
  unfold applyReading
  simp only
  split
  · rw [raise_history (by decide), State.onHeat_heat, if_pos rfl]
  · rw [State.onHeat_heat, if_pos rfl]

theorem applyReading_internal (origin : DipOrigin) (mark : Bool) : Internal s (applyReading st temp origin mark s) := by
  unfold applyReading
  simp only
  split
  · exact (onHeat_internal s st _).trans (raise_internal _ .clamped st)
  · exact onHeat_internal s st _

/-- The bath once a reading has entered it and the history it stands in has been judged for drift (R50, R53). -/
def driftJudged : State :=
  if drifts s.cfg.shop.driftTol (addDip (s.heat st).history (s.dipEntry st temp .lance)) then
    raise .drift st (applyReading st temp .lance true s)
  else applyReading st temp .lance true s

/-- A DIP of the bath: the reading and its drift, then the request and the readiness (R50). -/
theorem takeDip_eq : takeDip st temp s = readinessCheck st (recompute st (driftJudged st temp s)) := by
  rw [driftJudged, ← applyReading_history st temp s .lance true]
  rfl

theorem driftJudged_internal : Internal s (driftJudged st temp s) := by
  have hread := applyReading_internal st temp s .lance true
  unfold driftJudged
  split
  · exact hread.trans (raise_internal _ .drift st)
  · exact hread

theorem takeDip_internal : Internal s (takeDip st temp s) := by
  rw [takeDip_eq]
  exact ((driftJudged_internal st temp s).trans (recompute_internal _ st)).trans (readinessCheck_internal _ st)

end

/-! ## DIP (R48 to R50) -/

section
variable {s : State} {p : List Byte} {st : Station}

theorem dipOwner_wrongPhase (hl : s.cfg.layout.loaded = true) (hp : u8At p 0 = stationCode st)
    (h : s.phase st = .unknown ∨ s.phase st = .empty ∨ s.phase st = .tapping) : dipOwner p s = refuse s .wrongPhase := by
  rcases h with h | h | h <;> simp [dipOwner, forStation_named _ hl hp, h]

theorem dipOwner_badValue (hl : s.cfg.layout.loaded = true) (hp : u8At p 0 = stationCode st)
    (h : s.phase st = .melt ∨ s.phase st = .hold ∨ s.phase st = .superheat) (ht : u16At p 1 < 10000 ∨ 17500 < u16At p 1) :
    dipOwner p s = refuse s .badValue := by
  rcases h with h | h | h <;> simp [dipOwner, forStation_named _ hl hp, h, ht]

/-- In MELT a reading enters the history and does nothing else (R49). -/
theorem dipOwner_melt (hl : s.cfg.layout.loaded = true) (hp : u8At p 0 = stationCode st) (h : s.phase st = .melt)
    (ht : ¬ (u16At p 1 < 10000 ∨ 17500 < u16At p 1)) :
    dipOwner p s =
      { state := s.onHeat st (fun h => { h with history := addDip h.history (s.dipEntry st (u16At p 1) .lance) })
        code := .ok, data := [] } := by
  simp only [dipOwner, forStation_named _ hl hp (by rw [h]; decide), h, if_neg ht]

theorem dipOwner_bath (hl : s.cfg.layout.loaded = true) (hp : u8At p 0 = stationCode st)
    (h : s.phase st = .hold ∨ s.phase st = .superheat) (ht : ¬ (u16At p 1 < 10000 ∨ 17500 < u16At p 1)) :
    dipOwner p s = { state := takeDip st (u16At p 1) s, code := .ok, data := [] } := by
  rcases h with h | h <;> simp only [dipOwner, forStation_named _ hl hp (by rw [h]; decide), h, if_neg ht]

end

/-- Settles O33: the phase decides, then the reading's range; in HOLD and SUPERHEAT the steps of `takeDip` are those named. -/
theorem dipReplacesTheEstimate : Obligations.DipReplacesTheEstimate := by
  intro s tag p st c r temp entry longer history ha hp hoff
  have hl : s.popped.cfg.layout.loaded = true := ha.loaded
  refine ⟨fun h => ?wrongPhase, fun h ht => ?badValue, fun hlo hhi => ?taken⟩
  case wrongPhase => exact ha.refused (k := .dip) rfl (dipOwner_wrongPhase hl hp h)
  case badValue => exact ha.refused (k := .dip) rfl (dipOwner_badValue hl hp h ht)
  case taken =>
    have ht : ¬ (temp < 10000 ∨ 17500 < temp) := by omega
    refine ⟨fun h => ?melt, fun h => ?bath⟩
    case melt => exact ha.answered (k := .dip) rfl (dipOwner_melt hl hp h ht) ⟨rfl, rfl⟩
    case bath =>
      have hexec := ha.answered (k := .dip) (t := takeDip st temp s.popped) rfl (dipOwner_bath hl hp h ht)
        (takeDip_internal st temp s.popped).open
      rw [takeDip_eq] at hexec
      exact ⟨driftJudged st temp s.popped, fun hd => if_pos ((drifts_iff _ _).mpr hd),
        fun hd => if_neg (mt (drifts_iff _ _).mp hd), hexec⟩

/-! ## Heats the host establishes (R60 to R62) -/

theorem gradeOf_of_lt {n : Nat} (h : n < 16) : gradeOf n = some ⟨n, h⟩ := dif_pos h

/-- A heat established by the host neither holds the part nor restarts it. -/
theorem establish_open (st : Station) (r : HeatRec) (history : List DipEntry) (s : State) :
    (establish st r history s).resetHeld = s.resetHeld ∧ (establish st r history s).link.restart = s.link.restart :=
  (recompute_internal _ st).reexamined.open

/-! ### HEAT LOAD (R60, R61) -/

/-- What a valid image says (R60). -/
theorem imageInvalid_eq_false_iff (number capacity : Nat) (im : List Byte) : imageInvalid number capacity im = false ↔
    u8At im 0 = 1 ∧ u8At im 1 = number ∧ (∀ x ∈ im.drop 40, x = 0) ∧ 3 ≤ u8At im 2 ∧ u8At im 2 ≤ 6 ∧
      u8At im 3 ≤ 15 ∧ u16At im 4 ≠ 0 ∧ 0 < u32At im 8 + u32At im 12 ∧ u32At im 8 + u32At im 12 ≤ capacity ∧
      11000 ≤ u16At im 16 ∧ u16At im 16 ≤ 16500 ∧
      (u16At im 18 = 0 ∨ 10000 ≤ u16At im 18 ∧ u16At im 18 ≤ 17500) ∧
      -10000000000 ≤ s64At im 28 ∧ s64At im 28 ≤ 10000000000 := by
  have hresidual : (s64At im 28).natAbs ≤ 10000000000 ↔ -10000000000 ≤ s64At im 28 ∧ s64At im 28 ≤ 10000000000 := by omega
  simp only [imageInvalid, Bool.or_eq_false_iff, Bool.and_eq_false_iff, decide_eq_false_iff_not, not_not, List.any_eq_false,
    bne_iff_ne, and_assoc, not_lt, ne_eq, ← Nat.pos_iff_ne_zero, Nat.le_zero, hresidual]
  simp only [Config.tLow, Config.tHigh]

section
variable {s : State} {p : List Byte} {st : Station}

theorem heatLoadOwner_wrongPhase (hl : s.cfg.layout.loaded = true) (hp : u8At p 0 = stationCode st) (hoff : s.phase st ≠ .off)
    (h : s.phase st ≠ .unknown) : heatLoadOwner p s = refuse s .wrongPhase := by
  rw [heatLoadOwner, forStation_named _ hl hp hoff]
  exact if_pos h

theorem heatLoadOwner_imageInvalid (hl : s.cfg.layout.loaded = true) (hp : u8At p 0 = stationCode st) (h : s.phase st = .unknown)
    (him : imageInvalid (stationCode st) (s.capacity st) (p.drop 1) = true) : heatLoadOwner p s = refuse s .imageInvalid := by
  rw [heatLoadOwner, forStation_named _ hl hp (by rw [h]; decide), hp]
  simp only [h, him, ne_eq, not_true_eq_false, if_true, if_false]

theorem heatLoadOwner_established (hl : s.cfg.layout.loaded = true) (hp : u8At p 0 = stationCode st) (h : s.phase st = .unknown)
    (him : imageInvalid (stationCode st) (s.capacity st) (p.drop 1) = false) :
    heatLoadOwner p s = { state := establish st (loadedRecord s.cfg.shop.tMelt (p.drop 1)) [] s, code := .ok, data := [] } := by
  rw [heatLoadOwner, forStation_named _ hl hp (by rw [h]; decide), hp]
  simp only [h, him, ne_eq, not_true_eq_false, Bool.false_eq_true, if_false]

end

/-! ### HEAT DECLARE (R62) -/

/-- A declared heat with solid melts at T_melt; one without is held at the declared temperature, its last dip. -/
theorem declaredRecord_eq (tMelt heatNo : Nat) (grade : Option Grade) (solid liquid temp : Nat) :
    declaredRecord tMelt heatNo grade solid liquid temp =
      { phase := if 0 < solid then .melt else .hold, grade, heatNo, chargeNo := 0, solid, liquid
        tEst := if 0 < solid then tMelt else temp, residual := 0
        lastDip := if 0 < solid then none else some { temp, age := 0 }, dipMark := false
        liquidAge := if 0 < solid then none else some 0, flags := 0, energy := 0 } := by
  unfold declaredRecord HeatRec.clear
  by_cases h : 0 < solid
  · simp only [h, if_true]
  · have hsolid : solid = 0 := Nat.eq_zero_of_not_pos h
    simp only [hsolid, lt_irrefl, if_false]

/-- Why a HEAT DECLARE of an UNKNOWN station is BAD_VALUE: its grade, its mass, or the temperature of a heat without solid (R62). -/
def declareBad (p : List Byte) (s : State) (st : Station) : Prop :=
  15 < u8At p 1 ∨ u16At p 2 + u16At p 4 = 0 ∨ s.capacity st < u16At p 2 + u16At p 4 ∨
    (u16At p 2 = 0 ∧ (u16At p 6 < 11000 ∨ 16500 < u16At p 6))

section
variable {s : State} {p : List Byte} {st : Station}

theorem heatDeclareOwner_wrongPhase (hl : s.cfg.layout.loaded = true) (hp : u8At p 0 = stationCode st) (hoff : s.phase st ≠ .off)
    (h : s.phase st ≠ .unknown) : heatDeclareOwner p s = refuse s .wrongPhase := by
  rw [heatDeclareOwner, forStation_named _ hl hp hoff]
  exact if_pos h

theorem heatDeclareOwner_badValue (hl : s.cfg.layout.loaded = true) (hp : u8At p 0 = stationCode st) (h : s.phase st = .unknown)
    (hbad : declareBad p s st) : heatDeclareOwner p s = refuse s .badValue := by
  rw [heatDeclareOwner, forStation_named _ hl hp (by rw [h]; decide)]
  simp only [h, ne_eq, not_true_eq_false, if_false]
  split
  · rfl
  · next hmass =>
    rw [if_pos]
    unfold declareBad at hbad
    tauto

theorem heatDeclareOwner_established (hl : s.cfg.layout.loaded = true) (hp : u8At p 0 = stationCode st) (h : s.phase st = .unknown)
    (hgood : ¬ declareBad p s st) :
    heatDeclareOwner p s =
      { state := establish st
          (declaredRecord s.cfg.shop.tMelt s.heatCounter (gradeOf (u8At p 1)) (u16At p 2) (u16At p 4) (u16At p 6))
          (declaredHistory (u16At p 2) (u16At p 6) s.partTime) (advanceHeatNo s)
        code := .ok, data := [] } := by
  rw [heatDeclareOwner, forStation_named _ hl hp (by rw [h]; decide)]
  simp only [h, ne_eq, not_true_eq_false, if_false]
  unfold declareBad at hgood
  rw [if_neg (fun hm => hgood (by tauto)), if_neg (fun ht => hgood (by tauto))]

end

/-- Settles O35: the phase decides, then the validity of what the host gives; what is established is `establish` of the record named. -/
theorem hostEstablishesHeats : Obligations.HostEstablishesHeats := by
  intro s tag p st hp begun
  refine ⟨fun ha hoff => ?load, fun ha hoff => ?declare⟩
  case load =>
    intro c im solid liquid valid
    have hl : s.popped.cfg.layout.loaded = true := ha.loaded
    have hvalid := imageInvalid_eq_false_iff (stationCode st) (s.capacity st) im
    refine ⟨fun h => ?wrongPhase, fun h hn => ?invalid, fun h hv => ?established⟩
    case wrongPhase => exact ha.refused (k := .heatLoad) rfl (heatLoadOwner_wrongPhase hl hp hoff h)
    case invalid =>
      have him := Bool.eq_true_of_not_eq_false (mt hvalid.mp hn)
      exact ha.refused (k := .heatLoad) rfl (heatLoadOwner_imageInvalid hl hp h him)
    case established =>
      have hg : u8At im 3 < 16 := by
        obtain ⟨-, -, -, -, -, hgrade, -⟩ := hv
        omega
      have hexec := ha.answered (k := .heatLoad) (t := establish st (loadedRecord s.cfg.shop.tMelt im) [] s.popped) rfl
        (heatLoadOwner_established hl hp h (hvalid.mpr hv)) (establish_open _ _ _ _)
      rw [loadedRecord, gradeOf_of_lt hg] at hexec
      exact ⟨⟨u8At im 3, hg⟩, rfl, hexec⟩
  case declare =>
    intro c solid liquid temp bad
    have hl : s.popped.cfg.layout.loaded = true := ha.loaded
    refine ⟨fun h => ?wrongPhase, fun h hb => ?badValue, fun h hgood => ?established⟩
    case wrongPhase => exact ha.refused (k := .heatDeclare) rfl (heatDeclareOwner_wrongPhase hl hp hoff h)
    case badValue => exact ha.refused (k := .heatDeclare) rfl (heatDeclareOwner_badValue hl hp h hb)
    case established =>
      have hg : u8At p 1 < 16 := by
        have := mt Or.inl hgood
        omega
      have hexec := ha.answered (k := .heatDeclare) rfl (heatDeclareOwner_established hl hp h hgood) (establish_open _ _ _ _)
      rw [gradeOf_of_lt hg, declaredRecord_eq] at hexec
      exact ⟨⟨u8At p 1, hg⟩, rfl, hexec⟩

end Sys2Proof.Machine

/-!
PROOFS. The checks of R5 on a request that names a unit, and CHANGEOVER (R88).
-/

namespace Sys2Proof.Machine

/-! ## The checks of R5 on a unit -/

/-- A unit is named by its own code. -/
@[simp] theorem unitNumber_unitCode (u : UnitId) : unitNumber (unitCode u) = some u := by
  have hrange : 1 ≤ unitCode u ∧ unitCode u ≤ 2 := ⟨Nat.succ_pos _, u.isLt⟩
  exact dif_pos hrange

/-- A request that passes both checks is judged for the unit it names. -/
theorem namingUnit_named {s : State} {n : Nat} {u : UnitId} (body : UnitId → Answer) (h : s.cfg.layout.loaded = true)
    (hn : n = unitCode u) : namingUnit s n body = body u := by
  simp [namingUnit, withLayout, h, hn]

/-! ## What CHANGEOVER asks of the layout and of the coil flow -/

theorem mem_allStations : ∀ st : Station, st ∈ allStations := by decide

/-- The stations paired with a unit are the present ones that the layout gives it (1.1). -/
theorem mem_paired_iff {s : State} {u : UnitId} {st : Station} :
    st ∈ s.paired u ↔ (s.layoutOf st).present = true ∧ (s.layoutOf st).unit = some u := by
  simp [State.paired, mem_allStations]

theorem flowSuffices_iff {s : State} {st : Station} :
    s.flowSuffices st = true ↔ ∃ f, s.coilFlow st = some f ∧ (s.stationRec st).coilMinFlow ≤ f := by
  unfold State.flowSuffices
  cases s.coilFlow st <;> simp

/-! ## The order of R88 -/

/-- The first condition of R88 that is met: the code that a CHANGEOVER of `u` to `st` is answered with, and nothing else done. -/
def State.changeoverStop (s : State) (u : UnitId) (st : Station) : Option ReplyCode :=
  if ¬ ((s.layoutOf st).present = true ∧ (s.layoutOf st).unit = some u) then some .badValue
  else if (s.unitRec u).mode = .auto then some .wrongMode
  else if (s.unit u).state = .inhibited then some .inhibited
  else if (s.unit u).state ≠ .feeding then some .busy
  else if s.active u = some st then some .ok
  else if s.phase st = .off ∨ s.barred st = true then some .barred
  else if ¬ ∃ f, s.coilFlow st = some f ∧ (s.stationRec st).coilMinFlow ≤ f then some .notReady
  else none

/-- Of a unit in FEEDING, the station decides (R88, orders 5 to 8). -/
theorem changeoverTo_feeding {s : State} {u : UnitId} {st : Station} (hp : st ∈ s.paired u) (hm : (s.unitRec u).mode ≠ .auto)
    (hf : (s.unit u).state = .feeding) :
    changeoverTo u st s =
      if s.active u = some st then refuse s .ok
      else if s.phase st = .off ∨ s.barred st = true then refuse s .barred
      else if ¬ s.flowSuffices st = true then refuse s .notReady
      else { state := startChangeover u st s, code := .ok, data := [] } := by
  simp [changeoverTo, hp, hm, hf, refuse]

/-- A CHANGEOVER is answered with the first condition of R88 that is met, and starts when none is. -/
theorem changeoverTo_eq (s : State) (u : UnitId) (st : Station) :
    changeoverTo u st s =
      match s.changeoverStop u st with
      | some code => refuse s code
      | none => { state := startChangeover u st s, code := .ok, data := [] } := by
  simp only [State.changeoverStop, ← mem_paired_iff, ← flowSuffices_iff]
  by_cases hp : st ∈ s.paired u
  case neg => simp [changeoverTo, hp]
  by_cases hm : (s.unitRec u).mode = .auto
  case pos => simp [changeoverTo, hp, hm]
  cases hst : (s.unit u).state with
  | feeding =>
    rw [changeoverTo_feeding hp hm hst]
    simp only [hp, hm, not_true_eq_false, if_false, reduceCtorEq, ne_eq]
    split_ifs <;> rfl
  | inhibited => simp [changeoverTo, hp, hm, hst]
  | rampDown | switching | settling => simp [changeoverTo, hp, hm, hst]

section
variable {s : State} {p : List Byte} {u : UnitId} {st : Station}

theorem changeoverOwner_named (hl : s.cfg.layout.loaded = true) (hu : u8At p 0 = unitCode u) (hst : u8At p 1 = stationCode st) :
    changeoverOwner p s = changeoverTo u st s := by
  rw [changeoverOwner, namingUnit_named _ hl hu, namingStation_named _ hl hst]

theorem changeoverOwner_stopped {code : ReplyCode} (hl : s.cfg.layout.loaded = true) (hu : u8At p 0 = unitCode u)
    (hst : u8At p 1 = stationCode st) (h : s.changeoverStop u st = some code) : changeoverOwner p s = refuse s code := by
  rw [changeoverOwner_named hl hu hst, changeoverTo_eq, h]

theorem changeoverOwner_started (hl : s.cfg.layout.loaded = true) (hu : u8At p 0 = unitCode u)
    (hst : u8At p 1 = stationCode st) (h : s.changeoverStop u st = none) :
    changeoverOwner p s = { state := startChangeover u st s, code := .ok, data := [] } := by
  rw [changeoverOwner_named hl hu hst, changeoverTo_eq, h]

end

/-- Settles O40: the first condition of R88 met decides, and what is started when none is met is `startChangeover`. -/
theorem changeoverStartsRampDown : Obligations.ChangeoverStartsRampDown := by
  intro s tag p u st c refusal ha hu hst
  have hl : s.popped.cfg.layout.loaded = true := ha.loaded
  refine ⟨fun code h => ?stopped, fun h => ?started⟩
  case stopped => exact ha.refused (k := .changeover) rfl (changeoverOwner_stopped hl hu hst h)
  case started =>
    exact ha.answered (k := .changeover) rfl (changeoverOwner_started hl hu hst h) (startChangeover_internal s.popped u st).open

end Sys2Proof.Machine

/-!
PROOFS. The allocation pass: what a unit asks for and receives of the shop limit (R93, R94), and the grants a pass hands over (R95, R96).
-/

namespace Sys2Proof.Machine

/-! ## The foldback cap (R93) -/

/-- The cap that a foldback percent puts on a rating (R93). -/
def percentCap (rating percent : Nat) : Nat := tens (rating * percent / 100)

theorem percentCap_mono (rating : Nat) : Monotone (percentCap rating) := by
  intro a b h
  unfold percentCap tens
  gcongr

/-- The least percent caps as all percents in turn do: rounding down keeps the order. -/
theorem foldl_min_percentCap (s : State) (rating : Nat) (ps : List Program) (base : Nat) :
    (ps.map (fun w => percentCap rating (s.program w).percent)).foldl min base =
      ((s.leastPercent ps).map (percentCap rating)).elim base (min base) := by
  induction ps generalizing base with
  | nil => rfl
  | cons p rest ih =>
    rw [List.map_cons, List.foldl_cons, ih, State.leastPercent]
    cases s.leastPercent rest with
    | none => rfl
    | some m => simp [(percentCap_mono rating).map_min, min_assoc]

/-- A capped request: the request, the rating, the ramp cap and each foldback in force, whichever is least (R93). -/
theorem capped_eq (s : State) (u : UnitId) (a : Station) : s.capped u a =
    ((s.foldbacks (.unit u) ++ s.foldbacks (.station a)).map (fun w => percentCap (s.rating u) (s.program w).percent)).foldl min
      (min (s.heat a).request (min (s.rating u) (s.rampCap u))) := by
  rw [foldl_min_percentCap]
  unfold State.capped State.foldbackCap
  cases s.leastPercent (s.foldbacks (.unit u) ++ s.foldbacks (.station a)) <;> rfl

theorem capped_le_rating (s : State) (u : UnitId) (a : Station) : s.capped u a ≤ s.rating u := by
  have hbase : min (s.heat a).request (min (s.rating u) (s.rampCap u)) ≤ s.rating u :=
    (min_le_right _ _).trans (min_le_left _ _)
  unfold State.capped
  split
  · exact (min_le_left _ _).trans hbase
  · exact hbase

/-! ## Claims and levels (R94) -/

section
variable (s : State)

/-- The class a unit is served in: that of the station it feeds. -/
def State.needOf (u : UnitId) : NeedClass :=
  if (s.unit u).state = .feeding then
    match s.active u with
    | some a => (s.heat a).need
    | none => .idle
  else .idle

/-- The capped request of a unit for its active station. -/
def State.asks (u : UnitId) : Nat :=
  match s.active u with
  | some a => s.capped u a
  | none => 0

/-- A unit claims what it asks for in the level of its class, and nothing without a class. -/
theorem claim_eq (u : UnitId) : s.claim u = if s.needOf u = .idle then (0, 0) else ((s.needOf u).level, s.asks u) := by
  unfold State.claim State.needOf State.asks
  by_cases hf : (s.unit u).state = .feeding
  case neg => simp [hf]
  cases s.active u with
  | none => simp [hf]
  | some a => by_cases hn : (s.heat a).need = .idle <;> simp [hf, hn, NeedClass.level]

theorem level_ne_zero {k : NeedClass} (h : k ≠ .idle) : k.level ≠ 0 := by
  cases k <;> simp_all [NeedClass.level]

theorem level_le_three (k : NeedClass) : k.level ≤ 3 := by
  cases k <;> simp [NeedClass.level]

theorem claim_level_le_three (u : UnitId) : (s.claim u).1 ≤ 3 := by
  rw [claim_eq]
  split
  · exact Nat.zero_le 3
  · exact level_le_three _

theorem claim_le_rating (u : UnitId) : (s.claim u).2 ≤ s.rating u := by
  rw [claim_eq]
  split
  · exact Nat.zero_le _
  · unfold State.asks
    split
    · exact capped_le_rating s u _
    · exact Nat.zero_le _

/-- What a unit claims in one level. -/
def State.claimIn (level : Nat) (u : UnitId) : Nat := if (s.claim u).1 = level then (s.claim u).2 else 0

theorem claimIn_eq (level : Nat) (u : UnitId) :
    s.claimIn level u = if s.needOf u ≠ .idle ∧ (s.needOf u).level = level then s.asks u else 0 := by
  rw [State.claimIn, claim_eq]
  by_cases h : s.needOf u = .idle <;> simp [h]

theorem levelSum_eq (level : Nat) : s.levelSum level = s.claimIn level 0 + s.claimIn level 1 := by
  simp [State.levelSum, State.claimIn, allUnits]

/-- No unit claims in the level that is not served. -/
theorem levelSum_zero : s.levelSum 0 = 0 := by
  have hnone : ∀ u, s.claimIn 0 u = 0 := fun u => by
    rw [claimIn_eq, if_neg fun h => level_ne_zero h.1 h.2]
  rw [levelSum_eq, hnone, hnone]

/-- The remainder of a level is the limit less what the levels before it ask for. -/
theorem remainder_level (limit : Nat) (k : NeedClass) :
    s.remainder limit k.level = limit - ((List.range k.level).map s.levelSum).sum := by
  cases k <;> simp [NeedClass.level, State.remainder, List.range_succ, levelSum_zero, Nat.sub_sub]

/-! ## Shares (R94) -/

/-- What a claim receives in a level: all of it where the level fits its remainder, a proportional part where it does not. -/
def State.portion (limit level claimed : Nat) : Nat :=
  if s.levelSum level ≤ s.remainder limit level then claimed
  else s.remainder limit level * claimed / s.levelSum level

theorem portion_zero (limit level : Nat) : s.portion limit level 0 = 0 := by simp [State.portion]

theorem portion_le (limit level claimed : Nat) : s.portion limit level claimed ≤ claimed := by
  unfold State.portion
  split
  · exact Nat.le_refl _
  · next h => exact Nat.div_le_of_le_mul (Nat.mul_le_mul_right _ (by omega))

theorem share_eq (limit : Nat) (u : UnitId) : s.share limit u =
    if (s.claim u).1 = 0 then 0 else s.portion limit (s.claim u).1 (s.claim u).2 := rfl

theorem share_of_need {limit : Nat} {u : UnitId} (h : s.needOf u ≠ .idle) :
    s.share limit u = s.portion limit (s.needOf u).level (s.asks u) := by
  rw [share_eq, claim_eq, if_neg h, if_neg (level_ne_zero h)]

theorem share_idle {limit : Nat} {u : UnitId} (h : s.needOf u = .idle) : s.share limit u = 0 := by
  rw [share_eq, claim_eq, if_pos h, if_pos rfl]

theorem share_le_rating (limit : Nat) (u : UnitId) : s.share limit u ≤ s.rating u := by
  rw [share_eq]
  split
  · exact Nat.zero_le _
  · exact (portion_le s limit _ _).trans (claim_le_rating s u)

/-- A unit receives its portions of the three levels, of which at most one is not 0. -/
theorem share_eq_portions (limit : Nat) (u : UnitId) : s.share limit u =
    s.portion limit 1 (s.claimIn 1 u) + s.portion limit 2 (s.claimIn 2 u) + s.portion limit 3 (s.claimIn 3 u) := by
  have hlevel : (s.claim u).1 = 0 ∨ (s.claim u).1 = 1 ∨ (s.claim u).1 = 2 ∨ (s.claim u).1 = 3 := by
    have := claim_level_le_three s u
    omega
  rcases hlevel with h | h | h | h <;> simp [share_eq, State.claimIn, h, portion_zero]

/-- A level hands out no more than its remainder and no more than its units ask for. -/
theorem portions_le (limit level : Nat) :
    s.portion limit level (s.claimIn level 0) + s.portion limit level (s.claimIn level 1) ≤
      min (s.remainder limit level) (s.levelSum level) := by
  refine le_min ?remainder ?sum
  case sum =>
    rw [levelSum_eq]
    exact Nat.add_le_add (portion_le s _ _ _) (portion_le s _ _ _)
  case remainder =>
    unfold State.portion
    split
    · next hfits => rwa [levelSum_eq] at hfits
    · calc s.remainder limit level * s.claimIn level 0 / s.levelSum level +
            s.remainder limit level * s.claimIn level 1 / s.levelSum level
          ≤ (s.remainder limit level * s.claimIn level 0 + s.remainder limit level * s.claimIn level 1) / s.levelSum level :=
            Nat.div_add_div_le_add_div
        _ = s.remainder limit level * s.levelSum level / s.levelSum level := by rw [levelSum_eq, Nat.mul_add]
        _ ≤ s.remainder limit level := Nat.div_le_of_le_mul (Nat.mul_comm _ _).le

/-- Each level is served from what the levels before it have left, so the units together receive at most the limit. -/
theorem shares_le_limit (limit : Nat) : s.share limit 0 + s.share limit 1 ≤ limit := by
  have h1 := portions_le s limit 1
  have h2 := portions_le s limit 2
  have h3 := portions_le s limit 3
  simp only [State.remainder] at h1 h2 h3
  rw [share_eq_portions, share_eq_portions]
  omega

/-! ## Finished grants (R95) -/

theorem grantOf_le_share (limit : Nat) (u : UnitId) : s.grantOf limit u ≤ s.share limit u := by
  unfold State.grantOf tens
  split
  · exact Nat.zero_le _
  · exact Nat.div_mul_le_self _ _

/-- A finished grant is 0, or a multiple of 10 kW that no flush takes away. -/
theorem grantOf_cases (limit : Nat) (u : UnitId) :
    s.grantOf limit u = 0 ∨ (s.grantOf limit u % 10 = 0 ∧ s.pMin u ≤ s.grantOf limit u) := by
  unfold State.grantOf State.flushes
  by_cases hflush : 0 < tens (s.share limit u) ∧ tens (s.share limit u) < s.pMin u
  case pos => simp [hflush]
  case neg =>
    have hmult : tens (s.share limit u) % 10 = 0 := Nat.mul_mod_left _ _
    rw [if_neg (by simpa using hflush)]
    omega

end

/-! ## The pass (R91) -/

/-- Any occurrence but WATER's leaves the units. -/
theorem raise_units {f : HeatFlag} (hf : f ≠ .water) (st : Station) (s : State) : (raise f st s).units = s.units := by
  have hcond : ¬ (f = .water ∧ hasFlag (s.record st).flags .water = false) := fun h => hf h.1
  simp only [raise, if_neg hcond]
  split
  · split <;> rfl
  · rfl

section
variable (limit : Nat) (basis s : State)

/-- Stage 5 of one unit writes, of the allocator, that unit's flush mark. -/
theorem flushStage_alloc (u : UnitId) : (flushStage limit basis s u).alloc =
    { s.alloc with flushMark := place s.alloc.flushMark u (basis.flushes limit u) } := by
  unfold flushStage
  simp only
  split
  · split
    · exact (raise_internal _ .underrun _).rest.alloc
    · rfl
  · rfl

theorem flushStage_units (u : UnitId) : (flushStage limit basis s u).units = s.units := by
  unfold flushStage
  simp only
  split
  · split
    · exact raise_units (by decide) _ _
    · rfl
  · rfl

/-- Stage 6 hands each unit its own grant (R96). -/
theorem foldl_handGrant_unit (u : UnitId) : (allUnits.foldl (handGrant limit basis) s).unit u =
    { s.unit u with grant := if (s.unit u).state = .feeding then basis.grantOf limit u else 0 } := by
  have hone : ∀ t v w, (handGrant limit basis t v).unit w = if v = w then
      { t.unit v with grant := if (t.unit v).state = .feeding then basis.grantOf limit v else 0 } else t.unit w :=
    fun t v w => State.onUnit_unit t v w _
  revert u
  simp only [allUnits, List.foldl_cons, List.foldl_nil, hone]
  exact Fin.forall_fin_two.mpr ⟨rfl, rfl⟩

@[simp] theorem accountStage_cfg : (accountStage s).cfg = s.cfg := by
  unfold accountStage
  simp only
  split
  · split <;> rfl
  · split <;> rfl

/-- The state the caps, levels and grants of a pass are computed from: the account taken, the limits written. -/
def passBasis : State :=
  let counted := accountStage s
  { counted with alloc := { counted.alloc with
      pDem := demandLimit counted.cfg.shop counted.alloc.eUsed counted.alloc.t
      pCool := coolingLimit counted.cfg.shop counted.supply } }

@[simp] theorem passBasis_rating (u : UnitId) : (passBasis s).rating u = s.rating u :=
  congrArg (fun c : Settings => look c.layout.ratings u) (accountStage_cfg s)

@[simp] theorem passBasis_pMin (u : UnitId) : (passBasis s).pMin u = s.pMin u :=
  congrArg (fun c : Settings => look c.layout.ratings u * (look c.units u).minPower / 1000) (accountStage_cfg s)

theorem allocationPass_eq : allocationPass s =
    allUnits.foldl (handGrant (accountStage s).shopLimit (passBasis s))
      (allUnits.foldl (flushStage (accountStage s).shopLimit (passBasis s)) (passBasis s)) := rfl

/-- A pass shows the demand limit and the cooling limit it has worked with (R92). -/
theorem allocationPass_limits : (accountStage s).shopLimit =
    min s.cfg.shop.lInst (min (allocationPass s).alloc.pDem (allocationPass s).alloc.pCool) := by
  have hgrants : ∀ t u, (handGrant (accountStage s).shopLimit (passBasis s) t u).alloc = t.alloc := fun _ _ => rfl
  simp only [allocationPass_eq, allUnits, List.foldl_cons, List.foldl_nil, hgrants, flushStage_alloc, ← accountStage_cfg s]
  rfl

/-- A pass writes, of a unit, its grant: the finished grant in FEEDING, 0 elsewhere (R96). -/
theorem allocationPass_unit (u : UnitId) : (allocationPass s).unit u = { (passBasis s).unit u with
    grant := if ((passBasis s).unit u).state = .feeding then (passBasis s).grantOf (accountStage s).shopLimit u else 0 } := by
  have hflushed : (allUnits.foldl (flushStage (accountStage s).shopLimit (passBasis s)) (passBasis s)).unit u =
      (passBasis s).unit u := by
    simp only [State.unit, allUnits, List.foldl_cons, List.foldl_nil, flushStage_units]
  rw [allocationPass_eq, foldl_handGrant_unit, hflushed]

theorem allocationPass_grant_cases (u : UnitId) : ((allocationPass s).unit u).grant = 0 ∨
    ((allocationPass s).unit u).grant = (passBasis s).grantOf (accountStage s).shopLimit u := by
  rw [allocationPass_unit]
  by_cases hf : ((passBasis s).unit u).state = .feeding
  · exact .inr (if_pos hf)
  · exact .inl (if_neg hf)

/-- The two grants of a pass stay within its shop limit. -/
theorem allocationPass_grants_le :
    ((allocationPass s).unit 0).grant + ((allocationPass s).unit 1).grant ≤ (accountStage s).shopLimit := by
  have hshares := shares_le_limit (passBasis s) (accountStage s).shopLimit
  have hle : ∀ u, ((allocationPass s).unit u).grant ≤ (passBasis s).share (accountStage s).shopLimit u := fun u => by
    have hshare := grantOf_le_share (passBasis s) (accountStage s).shopLimit u
    rcases allocationPass_grant_cases s u with h | h <;> omega
  exact (Nat.add_le_add (hle 0) (hle 1)).trans hshares

/-- Each grant of a pass is 0 or a multiple of 10 kW from P_min to the rating. -/
theorem allocationPass_grant_fits (u : UnitId) : ((allocationPass s).unit u).grant = 0 ∨
    (((allocationPass s).unit u).grant % 10 = 0 ∧ s.pMin u ≤ ((allocationPass s).unit u).grant ∧
      ((allocationPass s).unit u).grant ≤ s.rating u) := by
  rcases allocationPass_grant_cases s u with h | h <;> rw [h]
  · exact .inl rfl
  · have hrating := (grantOf_le_share (passBasis s) (accountStage s).shopLimit u).trans (share_le_rating (passBasis s) _ u)
    refine (grantOf_cases (passBasis s) (accountStage s).shopLimit u).imp_right fun ⟨hmult, hmin⟩ => ?_
    rw [passBasis_rating] at hrating
    rw [passBasis_pMin] at hmin
    exact ⟨hmult, hmin, hrating⟩

/-- While the part runs, ALLOCATION_PASS is the pass and the transmitter's choice. -/
theorem exec_allocationPass (h : s.resetHeld = false) : exec .allocationPass s = .next (nextFrame (allocationPass s)) :=
  whileRunning_taken allocationPass s h

end

/-- Settles O48: the statement's own terms are `needOf`, `asks`, `levelSum` and `remainder`, in which a share is its portion of the level; the
grants are the rounded shares of a pass, and the shares are served level by level from what is left. -/
theorem grantsStayWithinTheShopLimit : Obligations.GrantsStayWithinTheShopLimit := by
  refine ⟨fun s limit u => ?received, fun s t hrun hexec => ?granted⟩
  case received =>
    intro level need asks sum before left
    have hlevel : level = NeedClass.level := rfl
    have hneed : need = s.needOf := rfl
    have hasks : asks = s.asks := by
      funext v
      simp only [asks, State.asks, capped_eq]
      rfl
    have hsum : sum = s.levelSum := by
      funext l
      simp only [sum, hneed, hasks, hlevel, levelSum_eq, claimIn_eq]
      rfl
    have hleft : left = s.remainder limit (s.needOf u).level := by
      rw [remainder_level, ← hsum, ← hneed, ← hlevel]
    rw [hleft, hsum, hasks, hneed, hlevel]
    refine ⟨fun h => share_idle s h, fun h hfits => ?full, fun h hshort => ?part⟩
    case full => rw [share_of_need s h, State.portion, if_pos hfits]
    case part => rw [share_of_need s h, State.portion, if_neg (Nat.not_le.mpr hshort)]
  case granted =>
    obtain rfl : nextFrame (allocationPass s) = t := by
      rw [exec_allocationPass s hrun] at hexec
      exact Host.Outcome.next.inj hexec
    have hunit : ∀ u, (nextFrame (allocationPass s)).unit u = (allocationPass s).unit u := fun u => by
      simp only [State.unit, nextFrame_units]
    rw [(nextFrame_untouched (allocationPass s)).alloc, ← allocationPass_limits, hunit, hunit]
    refine ⟨allocationPass_grants_le s, fun u => ?_⟩
    rw [hunit]
    exact allocationPass_grant_fits s u

end Sys2Proof.Machine

/-!
PROOFS. The circuit gate: the quantities it takes (R115 to R117), the reservoir account it feeds (R126, R127), and the evaluation it hands to
the unit (R118).
-/

namespace Sys2Proof.Machine

/-! ## The station a circuit cools -/

theorem coilStation_coil {c : Circuit} {st : Station} (h : st.val = c.val) : coilStation c = some st := by
  have hlt : c.val < 4 := h ▸ st.isLt
  have hst : (⟨c.val, hlt⟩ : Station) = st := Fin.ext h.symm
  rw [coilStation, dif_pos hlt, hst]

theorem coilStation_other {c : Circuit} (h : 4 ≤ c.val) : coilStation c = none := dif_neg (Nat.not_lt.mpr h)

/-! ## The quantities of a gate (R112, R115 to R117) -/

section
variable (s : State) (c : Circuit)

/-- Only a coil circuit's return has a backup channel (R112). -/
theorem rawReturn_eq : s.rawReturn c = if h : c.val < 4
    then combined (s.reading ⟨c.val + 2, by omega⟩) (s.reading ⟨c.val + 12, by omega⟩) else s.reading ⟨c.val + 2, by omega⟩ := by
  unfold State.rawReturn coilStation
  split_ifs <;> rfl

/-- The excess of a circuit that carries `heat`: a coil circuit has one, with the power its station takes (R117). -/
def State.excessOf (heat : Option Nat) : Option Int :=
  if h : c.val < 4 then gateExcess heat (s.stationPower ⟨c.val, h⟩) (s.stationRec ⟨c.val, h⟩).eta else none

theorem gated_evaluated (h : (look s.circuits c).evaluated = true) :
    s.gated c =
      { pulses := 0, gateTimer := 2000, evaluated := true
        flow := gateFlow (look s.circuits c).pulses (look s.cfg.circuits c)
        delta := gateDelta (s.rawReturn c) s.supply
        heat := gateHeat (gateFlow (look s.circuits c).pulses (look s.cfg.circuits c)) (gateDelta (s.rawReturn c) s.supply)
        excess := s.excessOf c
          (gateHeat (gateFlow (look s.circuits c).pulses (look s.cfg.circuits c)) (gateDelta (s.rawReturn c) s.supply)) } := by
  unfold State.gated State.excessOf coilStation
  rw [if_pos h, h]
  split_ifs <;> rfl

theorem gated_unevaluated (h : (look s.circuits c).evaluated = false) :
    s.gated c =
      { pulses := 0, gateTimer := 2000, evaluated := false, flow := none, delta := none, heat := none, excess := none } := by
  unfold State.gated
  rw [if_neg (by rw [h]; decide), h]
  rfl

end

/-! ## The two levels of the reservoir (R127) -/

/-- A level mark stands once its level is reached, and stays. -/
def Reservoir.marked (r : Reservoir) (volume : Nat) : Reservoir :=
  { r with
    lowMark := r.lowMark || decide (volume * 8 ≤ r.drawn)
    exhaustedMark := r.exhaustedMark || decide (volume * 10 ≤ r.drawn) }

/-- LOW (0) or EXHAUSTED (1), reported when its level is first reached. -/
def State.reportLevel (s : State) (code drawn volume : Nat) (reached : Prop) [Decidable reached] (mark : Bool) : State :=
  if reached ∧ mark = false then s.notify .reservoir 0 (nat code) (nat drawn) (nat volume) else s

@[simp] theorem reportLevel_cfg (s : State) (code drawn volume : Nat) (reached : Prop) [Decidable reached] (mark : Bool) :
    (s.reportLevel code drawn volume reached mark).cfg = s.cfg := by
  unfold State.reportLevel
  split_ifs <;> rfl

@[simp] theorem reportLevel_units (s : State) (code drawn volume : Nat) (reached : Prop) [Decidable reached] (mark : Bool) :
    (s.reportLevel code drawn volume reached mark).units = s.units := by
  unfold State.reportLevel
  split_ifs <;> rfl

/-- Judging the levels sets the marks, then reports each level whose mark is new: LOW before EXHAUSTED. -/
theorem judgeLevels_eq (s : State) :
    judgeLevels s =
      (({ s with reservoir := s.reservoir.marked s.cfg.shop.reservoir }.reportLevel 0 s.reservoir.drawn s.cfg.shop.reservoir
        (s.cfg.shop.reservoir * 8 ≤ s.reservoir.drawn) s.reservoir.lowMark).reportLevel 1 s.reservoir.drawn s.cfg.shop.reservoir
        (s.cfg.shop.reservoir * 10 ≤ s.reservoir.drawn) s.reservoir.exhaustedMark) := by
  unfold judgeLevels State.reportLevel Reservoir.marked
  have hmark : ∀ (p : Prop) [Decidable p] (m : Bool), (m || decide p) = if p ∧ m = false then true else m := by
    intro p _ m
    cases m <;> simp
  simp only [hmark]
  split_ifs <;> rfl

/-! ## The evaluation of the unit (R118) -/

section
variable {s t : State} {st : Station}

/-- The layout and the units decide whether a station's unit evaluates: it does where the station is its other one. -/
theorem evaluateIfOther_other {u : UnitId} (hcfg : t.cfg = s.cfg) (hunits : t.units = s.units) (hu : s.unitOf st = some u)
    (ha : s.active u ≠ some st) : evaluateIfOther st t = autoEvaluate u t := by
  have hunit : t.unitOf st = some u := by rw [← hu, State.unitOf, State.unitOf, State.layoutOf, State.layoutOf, hcfg]
  have hactive : t.active u ≠ some st := by rwa [State.active, State.unit, hunits]
  simp only [evaluateIfOther, hunit, if_neg hactive]

/-- A station without a unit, or its unit's active one, asks for no evaluation. -/
theorem evaluateIfOther_still (hcfg : t.cfg = s.cfg) (hunits : t.units = s.units)
    (h : s.unitOf st = none ∨ ∃ u, s.unitOf st = some u ∧ s.active u = some st) : evaluateIfOther st t = t := by
  have hunit : t.unitOf st = s.unitOf st := by rw [State.unitOf, State.unitOf, State.layoutOf, State.layoutOf, hcfg]
  rcases h with hu | ⟨u, hu, ha⟩
  · simp only [evaluateIfOther, hunit, hu]
  · have hactive : t.active u = some st := by rwa [State.active, State.unit, hunits]
    simp only [evaluateIfOther, hunit, hu, if_pos hactive]

end

/-! ## CIRCUIT GATE (R114) -/

section
variable {s : State} {c : Circuit}

/-- The part with a gate's quantities taken, and nothing else done. -/
def State.measured (s : State) (c : Circuit) : State := { s with circuits := place s.circuits c (s.gated c) }

/-- The part after the reservoir has given what a coil's open valve drew (R126). -/
def State.watered (s : State) (c : Circuit) (st : Station) : State :=
  if look s.valves st then addDraw (gateDraw (s.gated c).flow (look s.cfg.circuits c)) (s.measured c) else s.measured c

theorem circuitGate_coil {st : Station} (h : st.val = c.val) : circuitGate c s = evaluateIfOther st (s.watered c st) := by
  rw [circuitGate, coilStation_coil h]
  rfl

theorem circuitGate_other (h : 4 ≤ c.val) : circuitGate c s = s.measured c := by
  rw [circuitGate, coilStation_other h]
  rfl

theorem watered_cfg (st : Station) : (s.watered c st).cfg = s.cfg := by
  unfold State.watered
  split_ifs
  · simp [addDraw, judgeLevels_eq, State.measured]
  · rfl

theorem watered_units (st : Station) : (s.watered c st).units = s.units := by
  unfold State.watered
  split_ifs
  · simp [addDraw, judgeLevels_eq, State.measured]
  · rfl

theorem exec_circuitGate (h : s.resetHeld = false) : exec (.circuitGate c) s = .next (nextFrame (circuitGate c s)) :=
  whileRunning_taken (circuitGate c) s h

end

/-- Settles O50: the statement's own terms are the gate's quantities and the account with its levels judged; then the circuit's kind and the
station's place at its unit decide who evaluates. -/
theorem gateMeasuresTheCircuit : Obligations.GateMeasuresTheCircuit := by
  intro s k hrun x rate flow returned delta heat power excess gated measured draw drawn volume isLow isEmpty account warned done
  have hdelta : delta = gateDelta (s.rawReturn k) s.supply := by
    rw [rawReturn_eq]
    rfl
  have hgated : gated = s.gated k := by
    cases hx : x.evaluated with
    | true =>
      rw [gated_evaluated s k hx, ← hdelta]
      exact if_pos hx
    | false =>
      rw [gated_unevaluated s k hx]
      exact if_neg (by rw [hx]; decide)
  have hmeasured : measured = s.measured k := by
    rw [State.measured, ← hgated]
  have hwatered : ∀ st, (if look s.valves st then done else measured) = s.watered k st := by
    intro st
    rw [State.watered, addDraw, judgeLevels_eq, ← hmeasured, ← hgated]
    rfl
  rw [exec_circuitGate hrun]
  refine ⟨fun h => ?other, fun st h => ⟨fun u hu ha => ?evaluates, fun hstill => ?still⟩⟩
  case other => rw [circuitGate_other h, hmeasured]
  case evaluates =>
    rw [circuitGate_coil h, hwatered, evaluateIfOther_other (watered_cfg st) (watered_units st) hu ha]
  case still =>
    rw [circuitGate_coil h, hwatered, evaluateIfOther_still (watered_cfg st) (watered_units st) hstill]

end Sys2Proof.Machine

/-!
PROOFS. The re-examination of the queue: eligibility and the station of oldest liquid (R152), and what an assignment leaves (R153).
-/

namespace Sys2Proof.Machine

section
variable {s : State} {e : QueueEntry} {st : Station}

/-! ## Eligibility (R152) -/

theorem entryOf_eq_none_iff : s.entryOf st = none ↔ ∀ d ∈ s.taps.entries, d.station ≠ some st := by
  simp [State.entryOf]

theorem barred_eq_false_iff : s.barred st = false ↔ s.bars st = [] := by
  simp [State.barred]

theorem unitInhibited_eq_false_iff :
    s.unitInhibited st = false ↔ ∀ u, s.unitOf st = some u → (s.unit u).state ≠ .inhibited := by
  unfold State.unitInhibited
  cases s.unitOf st <;> simp

/-- A station is eligible exactly when each condition of R152 holds. -/
theorem eligible_iff : s.eligible e st = true ↔
    (s.record st).phase = .hold ∧ (s.record st).solid = 0 ∧ (s.record st).grade = some e.grade ∧
      e.mass + (s.stationRec st).heelMin ≤ (s.record st).liquid ∧ (∀ d ∈ s.taps.entries, d.station ≠ some st) ∧
      s.bars st = [] ∧ (∀ u, s.unitOf st = some u → (s.unit u).state ≠ .inhibited) ∧
      hasFlag (s.record st).flags .water = false := by
  simp only [State.eligible, State.holdsAbove, Bool.and_eq_true, decide_eq_true_eq, Option.isNone_iff_eq_none, Bool.not_eq_true',
    entryOf_eq_none_iff, barred_eq_false_iff, unitInhibited_eq_false_iff, and_assoc]

/-! ## The station of oldest liquid (R152) -/

/-- The order in which eligible stations are preferred: the older liquid first, the lower number on a tie. -/
def State.preferred (s : State) (st o : Station) : Prop :=
  ageRank (s.record o).liquidAge < ageRank (s.record st).liquidAge ∨
    (ageRank (s.record o).liquidAge = ageRank (s.record st).liquidAge ∧ st < o)

/-- Of stations in station order, the one preferred to every other is the oldest: it displaces any choice made behind it, and no station
before it displaces it. -/
theorem oldest_eq_of_preferred {xs : List Station} (hsorted : xs.Pairwise (· < ·)) (hmem : st ∈ xs)
    (hpref : ∀ o ∈ xs, o ≠ st → s.preferred st o) : s.oldest xs = some st := by
  induction xs with
  | nil => exact absurd hmem List.not_mem_nil
  | cons x xs ih =>
    obtain ⟨hfirst, hrest⟩ := List.pairwise_cons.mp hsorted
    unfold State.oldest
    rcases List.mem_cons.mp hmem with rfl | hmem
    · cases hb : s.oldest xs with
      | none => rfl
      | some b =>
        have hbmem := oldest_mem s hb
        have hage : ageRank (s.record b).liquidAge ≤ ageRank (s.record st).liquidAge :=
          (hpref b (List.mem_cons_of_mem _ hbmem) (hfirst b hbmem).ne').elim Nat.le_of_lt fun h => h.1.le
        exact if_neg (Nat.not_lt.mpr hage)
    · have hlt := hfirst st hmem
      have hage : ageRank (s.record x).liquidAge < ageRank (s.record st).liquidAge :=
        (hpref x List.mem_cons_self hlt.ne).resolve_right fun h => hlt.asymm h.2
      rw [ih hrest hmem fun o ho => hpref o (List.mem_cons_of_mem _ ho)]
      exact if_pos hage

theorem allStations_pairwise_lt : allStations.Pairwise (· < ·) := by decide

/-- Without an eligible station an entry takes none. -/
theorem choice_eq_none (h : ∀ st, ¬ s.eligible e st = true) : s.choice e = none := by
  rw [State.choice, List.filter_eq_nil_iff.mpr fun st _ => h st, State.oldest]

/-- An entry takes the eligible station preferred to every other eligible one. -/
theorem choice_eq_of_preferred (h : s.eligible e st = true) (hpref : ∀ o, s.eligible e o = true → o ≠ st → s.preferred st o) :
    s.choice e = some st :=
  oldest_eq_of_preferred (allStations_pairwise_lt.filter _) (List.mem_filter.mpr ⟨mem_allStations st, h⟩)
    fun o ho => hpref o (List.mem_filter.mp ho).2

/-! ## One entry judged (R151, R153) -/

/-- What an assignment of the entry in its place leaves (R153). -/
theorem assign_eq {i : Nat} (he : s.taps.entries[i]? = some e) : assign i e st s =
    (recompute st { s with
      heats := place s.heats st { s.heat st with record := { s.record st with phase := .superheat, dipMark := false } }
      taps := { s.taps with entries := s.taps.entries.set i { e with station := some st } } }).notify
        .stationAssigned (stationCode st) (some 0) (some e.ladle) (some e.target) := by
  have hset : s.taps.entries.modify i (fun e => { e with station := some st }) =
      s.taps.entries.set i { e with station := some st } := by
    rw [List.modify_eq_set_getElem?, he]
    rfl
  rw [← hset]
  rfl

theorem judgeEntry_none {i : Nat} (h : s.taps.entries[i]? = none) : judgeEntry s i = s := by
  simp only [judgeEntry, h]

theorem judgeEntry_assigned {i : Nat} (he : s.taps.entries[i]? = some e) (h : e.station ≠ none) : judgeEntry s i = s := by
  simp only [judgeEntry, he]
  exact if_neg (mt Option.isNone_iff_eq_none.mp h)

/-- An unassigned entry is judged by the station it takes. -/
theorem judgeEntry_unassigned {i : Nat} (he : s.taps.entries[i]? = some e) (h : e.station = none) :
    judgeEntry s i = (s.choice e).elim s (assign i e · s) := by
  simp only [judgeEntry, he, h, Option.isNone_none, if_true]
  cases s.choice e <;> rfl

end

/-- While the link is not silent a re-examination judges each entry of the queue once, head first. -/
theorem reexamine_talking {s : State} (h : s.link.silent = false) :
    reexamine s = (List.range s.taps.entries.length).foldl judgeEntry s :=
  if_neg (by rw [h]; decide)

/-- Settles O57: the statement's `fit` is eligibility and its `age` the rank of an age, so the station it singles out is the entry's choice. -/
theorem queueIsServedHeadFirst : Obligations.QueueIsServedHeadFirst := by
  refine ⟨fun s => ⟨reexamine_silent s, reexamine_talking⟩,
    fun s i => ⟨judgeEntry_none, fun e he => ⟨judgeEntry_assigned he, fun hfree => ?_⟩⟩⟩
  intro fit age
  have hfit : ∀ st, fit st ↔ s.eligible e st = true := fun st => eligible_iff.symm
  have hage : ∀ st, age st = ageRank (s.record st).liquidAge := fun st => by
    simp only [age]
    cases (s.record st).liquidAge <;> rfl
  rw [judgeEntry_unassigned he hfree]
  simp only [hfit, hage]
  refine ⟨fun h => ?nobody, fun st h hpref => ?taken⟩
  case nobody => rw [choice_eq_none h, Option.elim_none]
  case taken => rw [choice_eq_of_preferred h hpref, Option.elim_some, assign_eq he]

end Sys2Proof.Machine

/-!
PROOFS. SHOP STATUS and RESTART: two requests that no layout is needed for.
-/

namespace Sys2Proof.Machine

/-- The status record, written out (R173). -/
theorem statusRecord_eq (s : State) : s.statusRecord =
    [1, byteOf (yesNo s.cfg.layout.loaded),
      byteOf (s.unit 0).state.code, byteOf (stationOrNone (s.unit 0).position),
      byteOf (s.unit 1).state.code, byteOf (stationOrNone (s.unit 1).position),
      byteOf (s.phase 0).code, byteOf (s.phase 1).code, byteOf (s.phase 2).code, byteOf (s.phase 3).code] ++
     le 2 s.cfg.shop.lInst ++ le 2 s.alloc.pDem ++ le 2 s.alloc.pCool ++
     [byteOf (yesNo s.alloc.syncLost), byteOf (yesNo s.link.silenceMark)] ++ le 2 s.link.discarded ++
     [byteOf (yesNo s.link.noticesLost)] ++ le 8 s.inflow ++ le 8 s.outflow ++ le 4 (s.clockMs / 1000) := rfl

/-- The record says nothing of the receive queue. -/
theorem popped_statusRecord (s : State) : s.popped.statusRecord = s.statusRecord := rfl

/-- Settles O25: each owner answers OK, and neither makes a restart due. -/
theorem statusAndRestartAreAnswered : Obligations.StatusAndRestartAreAnswered := by
  refine fun s tag => ⟨fun ht => ?status, fun ht => ?restart⟩
  case status =>
    obtain ⟨hheld, -, hrestart, -⟩ := takes_parts (i := .shopStatus tag []) rfl ht
    have hd : (shopStatusOwner s.popped).state.link.restart ≠ .due := by simp [shopStatusOwner, hrestart]
    rw [← statusRecord_eq, ← popped_statusRecord]
    exact serveRequest_taken (i := .shopStatus tag []) .shopStatus tag [] shopStatusOwner s rfl ht rfl hheld hd
  case restart =>
    obtain ⟨hheld, -, -, -⟩ := takes_parts (i := .restart tag []) rfl ht
    have hd : (restartOwner s.popped).state.link.restart ≠ .due := by simp [restartOwner]
    exact serveRequest_taken (i := .restart tag []) .restart tag [] restartOwner s rfl ht rfl hheld hd

end Sys2Proof.Machine

/-!
PROOFS. The receiver byte by byte: what it makes of the bytes of a frame that has begun, of a LEN that it does not accept and of a low line,
and the frames it abandons.
-/

namespace Sys2Proof.Machine

/-! ## The receiver (R166, R168) -/

/-- The state with a frame in progress. -/
def State.receiving (s : State) (taken : List Byte) : State := s.onLink (fun l => { l with receiver := .inFrame taken })

/-- The state with the receiver hunting for SYNC. -/
def State.hunting (s : State) : State := s.onLink (fun l => { l with receiver := .hunt })

section
variable {s : State}

theorem hunting_of_hunt (h : s.link.receiver = .hunt) : s.hunting = s := by
  unfold State.hunting
  rw [← h]
  rfl

/-- No byte is taken from a low line. -/
theorem rxBytes_low (h : s.link.lineLow = true) (bytes : List Byte) : rxBytes bytes s = s := by
  have hbyte : ∀ b, rxByte s b = s := fun b => by simp [rxByte, h]
  induction bytes with
  | nil => rfl
  | cons b bytes ih => exact (congrArg (rxBytes bytes) (hbyte b)).trans ih

/-- A hunting receiver begins a frame at SYNC. -/
theorem rxByte_sync (hlow : s.link.lineLow = false) (h : s.link.receiver = .hunt) :
    rxByte s Config.syncByte = s.receiving [Config.syncByte] := by
  simp [rxByte, hlow, h, State.receiving]

/-- After SYNC a LEN of 1 to 250 is taken. -/
theorem rxByte_len {len : Byte} (hlow : s.link.lineLow = false) (h1 : 1 ≤ len.toNat) (h2 : len.toNat ≤ Config.maxLen) (sync : Byte) :
    rxByte (s.receiving [sync]) len = s.receiving [sync, len] := by
  have hlen : ¬ (len.toNat = 0 ∨ Config.maxLen < len.toNat) := by omega
  exact (if_neg (by simp [State.receiving, hlow])).trans (if_neg hlen)

/-- After SYNC any other LEN ends the frame, which is counted. -/
theorem rxByte_badLen {len : Byte} (hlow : s.link.lineLow = false) (h : len.toNat = 0 ∨ Config.maxLen < len.toNat) (sync : Byte) :
    rxByte (s.receiving [sync]) len = countDiscard s.hunting := by
  exact (if_neg (by simp [State.receiving, hlow])).trans (if_pos h)

/-- A byte of the body or the CRC that does not complete the frame is taken. -/
theorem rxByte_body {sync len : Byte} {taken : List Byte} (hlow : s.link.lineLow = false) (h : taken.length < len.toNat + 2) (b : Byte) :
    rxByte (s.receiving (sync :: len :: taken)) b = s.receiving (sync :: len :: (taken ++ [b])) := by
  have hlen : ¬ (sync :: len :: (taken ++ [b])).length = len.toNat + 5 := by simp; omega
  exact (if_neg (by simp [State.receiving, hlow])).trans (if_neg hlen)

/-- Bytes that do not complete the frame are taken. -/
theorem rxBytes_body {sync len : Byte} (hlow : s.link.lineLow = false) (rest : List Byte) {taken : List Byte}
    (h : taken.length + rest.length < len.toNat + 3) :
    rxBytes rest (s.receiving (sync :: len :: taken)) = s.receiving (sync :: len :: (taken ++ rest)) := by
  induction rest generalizing taken with
  | nil => simp [rxBytes]
  | cons b rest ih =>
    simp only [List.length_cons] at h
    have hb : rxByte (s.receiving (sync :: len :: taken)) b = s.receiving (sync :: len :: (taken ++ [b])) :=
      rxByte_body hlow (by omega) b
    have hrest := ih (taken := taken ++ [b]) (by simp; omega)
    rw [List.append_cons]
    exact (congrArg (rxBytes rest) hb).trans hrest

/-- The bytes of a frame that has begun leave a hunting receiver in that frame. -/
theorem rxBytes_part {bytes : List Byte} (hlow : s.link.lineLow = false) (hr : s.link.receiver = .hunt)
    (h : isPartFrame bytes = true) : rxBytes bytes s = s.receiving bytes := by
  rcases bytes with _ | ⟨sync, _ | ⟨len, rest⟩⟩
  · cases h
  · rw [eq_of_beq h]
    exact rxByte_sync hlow hr
  · simp only [isPartFrame, Bool.and_eq_true, beq_iff_eq, decide_eq_true_eq] at h
    obtain ⟨⟨⟨rfl, h1⟩, h2⟩, hrest⟩ := h
    calc rxBytes (Config.syncByte :: len :: rest) s
      _ = rxBytes rest (rxByte (rxByte s Config.syncByte) len) := rfl
      _ = rxBytes rest (s.receiving [Config.syncByte, len]) := by rw [rxByte_sync hlow hr, rxByte_len hlow h1 h2]
      _ = s.receiving (Config.syncByte :: len :: rest) := rxBytes_body hlow rest (by simpa using hrest)

/-! ## Frames abandoned (R166, R168) -/

theorem abandonFrame_hunt (h : s.link.receiver = .hunt) : abandonFrame s = s := by
  simp only [abandonFrame, h]

theorem abandonFrame_inFrame {taken : List Byte} (h : s.link.receiver = .inFrame taken) :
    abandonFrame s = countDiscard s.hunting := by
  simp only [abandonFrame, h, State.hunting]

/-- The bytes of a frame that has begun, cut off: the frame is counted. -/
theorem abandonFrame_part {bytes : List Byte} (hlow : s.link.lineLow = false) (hr : s.link.receiver = .hunt)
    (h : isPartFrame bytes = true) : abandonFrame (rxBytes bytes s) = countDiscard s := by
  rw [rxBytes_part hlow hr h, abandonFrame_inFrame (taken := bytes) rfl]
  exact congrArg countDiscard (hunting_of_hunt hr)

/-- A LEN that is not accepted, after its SYNC. -/
theorem rxBytes_badLen {len : Byte} (hlow : s.link.lineLow = false) (hr : s.link.receiver = .hunt)
    (h : len.toNat = 0 ∨ Config.maxLen < len.toNat) : rxBytes (s.lenBytes len) s = countDiscard s := by
  have hbytes : s.lenBytes len = [Config.syncByte, len] := by simp only [State.lenBytes, hr]
  calc rxBytes (s.lenBytes len) s
    _ = rxByte (rxByte s Config.syncByte) len := by rw [hbytes]; rfl
    _ = countDiscard s.hunting := by rw [rxByte_sync hlow hr, rxByte_badLen hlow h]
    _ = countDiscard s := by rw [hunting_of_hunt hr]

/-! ## The events of the receive line while the part runs (R14) -/

theorem exec_interByteGap (hheld : s.resetHeld = false) (bytes : List Byte) :
    exec (.interByteGap bytes) s = .next (nextFrame (abandonFrame (rxBytes bytes s))) :=
  whileRunning_taken (fun s => abandonFrame (rxBytes bytes s)) s hheld

theorem exec_frameLenAbandoned (hheld : s.resetHeld = false) (len : Byte) :
    exec (.frameLenAbandoned len) s = .next (nextFrame (rxBytes (s.lenBytes len) s)) :=
  whileRunning_taken _ s hheld

theorem exec_lineBreak (hheld : s.resetHeld = false) (bytes : List Byte) :
    exec (.lineBreak bytes) s = .next (nextFrame (lineLevel true (abandonFrame (rxBytes bytes s)))) :=
  if_neg (by simp [hheld])

theorem exec_frameReceived (hheld : s.resetHeld = false) (bytes : List Byte) :
    exec (.frameReceived bytes) s = .next (nextFrame (rxBytes bytes s)) :=
  whileRunning_taken _ s hheld

theorem exec_breakEnd (hheld : s.resetHeld = false) :
    exec .breakEnd s = .next (nextFrame (lineLevel false s).hunting) :=
  whileRunning_taken State.hunting (lineLevel false s) hheld

end

/-- Settles O20: what the bytes before the event leave, then what the event does to it. -/
theorem abandonedFramesAreCounted : Obligations.AbandonedFramesAreCounted := by
  intro s hheld counted
  refine ⟨fun hlow hr => ⟨fun bytes h => ?gap, fun len h => ?len, fun bytes h => ?brk, ?quiet⟩,
    fun taken hr => ⟨?gapInFrame, ?breakInFrame⟩, fun hlow bytes => ?low, exec_breakEnd hheld⟩
  case gap => rw [exec_interByteGap hheld, abandonFrame_part hlow hr h]; rfl
  case len => rw [exec_frameLenAbandoned hheld, rxBytes_badLen hlow hr h]; rfl
  case brk => rw [exec_lineBreak hheld, abandonFrame_part hlow hr h]; rfl
  case quiet =>
    have hnone : abandonFrame (rxBytes [] s) = s := abandonFrame_hunt hr
    rw [exec_lineBreak hheld, hnone]
    rfl
  case gapInFrame =>
    have hcut : abandonFrame (rxBytes [] s) = countDiscard s.hunting := abandonFrame_inFrame hr
    rw [exec_interByteGap hheld, hcut]
    rfl
  case breakInFrame =>
    have hcut : abandonFrame (rxBytes [] s) = countDiscard s.hunting := abandonFrame_inFrame hr
    rw [exec_lineBreak hheld, hcut]
    rfl
  case low => rw [exec_frameReceived hheld, rxBytes_low hlow]

end Sys2Proof.Machine

/-!
PROOFS. The bytes of the link: numbers, the CRC, the frame and what a receiver reads from it, replies, notices, sets.
-/

namespace Sys2Proof.Machine

/-! ## Numbers, low byte first (00_scope.md 6.3) -/

/-- A number in bytes, cut after the low ones. -/
theorem le_add (v w n : Nat) : le (v + w) n = le v n ++ le w (n / 256 ^ v) := by
  induction v generalizing n with
  | zero => simp [le]
  | succ v ih => rw [Nat.succ_add, le, ih, le, Nat.div_div_eq_div_mul, pow_succ']; rfl

/-- Two's complement: the lower half of the range stands for itself. -/
theorem asSigned_succ (b n : Nat) : asSigned (b + 1) n = if 2 * n < 2 ^ (b + 1) then (n : Int) else (n : Int) - (2 ^ (b + 1) : Nat) := by
  have hhalf : n < 2 ^ b ↔ 2 * n < 2 ^ (b + 1) := by omega
  simp [asSigned, hhalf]

/-! ## The CRC (R166) -/

/-- A check value in bytes: its low half, then its high half. -/
theorem crcBytes_eq (v : BitVec 16) : crcBytes v = [v.setWidth 8, (v >>> 8).setWidth 8] := by
  have hlow : BitVec.ofNat 8 v.toNat = v.setWidth 8 := BitVec.eq_of_toNat_eq (by simp)
  have hhigh : BitVec.ofNat 8 (v.toNat / 256) = (v >>> 8).setWidth 8 :=
    BitVec.eq_of_toNat_eq (by simp [Nat.shiftRight_eq_div_pow])
  simp only [crcBytes, le, hlow, hhigh]

@[simp] theorem crcBytes_length (v : BitVec 16) : (crcBytes v).length = 2 := le_length 2 _

/-! ## The frame (9.1.1, R166) -/

section
variable (kind tag : Byte) {payload : List Byte}

/-- The LEN of a frame that holds its payload. -/
theorem len_toNat (h : payload.length ≤ 249) : (byteOf (payload.length + 1)).toNat = payload.length + 1 := by
  simp [byteOf]; omega

theorem isWholeFrame_frameBytes (h : payload.length ≤ 249) : isWholeFrame (frameBytes kind tag payload) = true := by
  simp [isWholeFrame, frameBytes, len_toNat h, Config.maxLen]
  omega

/-- A receiver reads from a frame what it was made of: LEN says where the payload ends, and the bytes after it are the CRC. -/
theorem frameOf_frameBytes (h : payload.length ≤ 249) : frameOf (frameBytes kind tag payload) = some { kind, tag, payload } := by
  simp [frameOf, frameBytes, len_toNat h]

end

/-! ## Replies and notices (R170, 9.5) -/

theorem replyKind_eq (kind : Byte) : replyKind kind = BitVec.ofNat 8 (kind.toNat + 128) :=
  BitVec.eq_of_toNat_eq (by simp [replyKind])

theorem classByte_eq (k : NoticeKind) : byteOf (if k.classA then 0 else 1) = if k.classA then 0 else 1 := by
  cases k.classA <;> rfl

/-- The bit of an absent value. -/
theorem bitIf_isNone (v : Option Int) (k : Nat) : bitIf v.isNone k = if v = none then 2 ^ k else 0 := by
  cases v <;> rfl

theorem record_length (n : Notice) : n.record.length = 20 := by
  simp [Notice.record, noticeValue, leSigned]

/-! ## Sets -/

/-- A set of programs in bits: the sum over all of a list's programs, those outside the set counting nothing. -/
theorem programBits_filter (f : Program → Bool) (ps : List Program) :
    programBits (ps.filter f) = (ps.map (fun w => if f w then 2 ^ w.val else 0)).sum := by
  induction ps with
  | nil => rfl
  | cons p ps ih =>
    cases hp : f p <;> simp_all [programBits]

/-- Settles O17: the frame reads back by its LEN and its CRC, a number is cut by `le_add`, and the codes are those of the definitions. -/
theorem framesReadBack : Obligations.FramesReadBack := by
  refine ⟨fun bytes => ?crc, crcBytes_eq, fun kind tag payload => rfl,
    fun kind tag payload h => ⟨isWholeFrame_frameBytes kind tag h, frameOf_frameBytes kind tag h⟩, fun r h => ?reply, fun n => ?notice,
    fun n => ⟨rfl, le_add 2 2 n, le_add 4 4 n⟩, fun v => ⟨rfl, rfl⟩, fun p i => ?read,
    rfl, fun st => rfl, rfl, rfl, rfl, rfl, rfl, rfl, rfl, rfl, rfl, rfl, rfl, rfl, rfl, rfl, rfl, rfl, fun c => rfl,
    fun f => programBits_filter f allPrograms, rfl, rfl, rfl, rfl⟩
  case crc =>
    intro bit bits
    rw [List.foldl_flatMap]
    rfl
  case reply =>
    have hlen : (byteOf r.code.code :: r.data).length ≤ 249 := Nat.succ_le_succ h
    rw [← replyKind_eq]
    exact ⟨isWholeFrame_frameBytes _ _ hlen, frameOf_frameBytes _ _ hlen⟩
  case notice =>
    intro absent value
    have hlen : n.record.length ≤ 249 := by simp [record_length]
    refine ⟨isWholeFrame_frameBytes _ _ hlen, record_length n, frameOf_frameBytes _ _ hlen, ?_⟩
    rw [Notice.record, classByte_eq, bitIf_isNone, bitIf_isNone, bitIf_isNone]
    rfl
  case read => exact ⟨rfl, rfl, rfl, asSigned_succ 15 _, asSigned_succ 63 _⟩

end Sys2Proof.Machine

/-!
PROOFS. What a notice does to the queue and to the mark of a lost notice, and who leaves that mark alone: all that the blocks do for one
another, every event but a reset, and every request but SHOP STATUS.
-/

namespace Sys2Proof.Machine

/-! ## Placing a notice (R176) -/

section
variable {q : List Notice} {n : Notice}

theorem placeNotice_room (h : q.length < 32) : placeNotice q n = (q ++ [n], false) := if_pos h

/-- At a full queue the oldest notice of class B gives way. -/
theorem placeNotice_classB {older newer : List Notice} {m : Notice} (hfull : 32 ≤ q.length) (hq : q = older ++ m :: newer)
    (holder : ∀ x ∈ older, x.kind.classA = true) (hm : m.kind.classA = false) : placeNotice q n = (older ++ newer ++ [n], true) := by
  have hany : q.any (fun x => !x.classA) = true := by simp [hq, Notice.classA, hm]
  have herase : q.eraseP (fun x => !x.classA) = older ++ newer := by
    rw [hq, List.eraseP_append_right _ (by simpa [Notice.classA] using holder), List.eraseP_cons_of_pos (by simp [Notice.classA, hm])]
  simp [placeNotice, Config.noticeDepth, Nat.not_lt.mpr hfull, hany, herase]

/-- At a full queue of class A alone, the class of the new notice decides. -/
theorem placeNotice_classA (hfull : 32 ≤ q.length) (hq : ∀ x ∈ q, x.kind.classA = true) :
    placeNotice q n = if n.kind.classA then (q.tail ++ [n], true) else (q, true) := by
  have hany : q.any (fun x => !x.classA) = false := by simpa [Notice.classA] using hq
  rw [placeNotice, if_neg (show ¬ q.length < Config.noticeDepth from Nat.not_lt.mpr hfull), if_neg (by simp [hany])]
  rfl

end

/-! ## The mark of a lost notice: the notice queue and the transmitter -/

/-- The mark that notices were lost stands. -/
def Marked (s : State) : Prop := s.link.noticesLost = true

section
variable {s : State} {st : Station} {u : UnitId} {i : Nat} {e : QueueEntry}

theorem notify_marked {kind : NoticeKind} {subject : Nat} {v1 v2 v3 : Option Int} (h : Marked s) :
    Marked (s.notify kind subject v1 v2 v3) := by
  have hmark : s.link.noticesLost = true := h
  simp [Marked, State.notify, hmark]

theorem nextFrame_marked (h : Marked s) : Marked (nextFrame s) := by
  rcases nextFrame_cases s with e | ⟨r, -, -, e⟩ | ⟨n, rest, -, -, -, e⟩ <;> rw [e] <;> exact h

/-- A fold keeps the mark if each of its steps does. -/
theorem foldl_marked {α : Type} {f : State → α → State} (hf : ∀ x a, Marked x → Marked (f x a)) (xs : List α) (h : Marked s) :
    Marked (xs.foldl f s) := List.foldlRecOn xs f h (fun x hx a _ => hf x a hx)

/-- A branch keeps the mark if both of its ways do. -/
theorem ite_marked {c : Prop} [Decidable c] {a b : State} (ha : Marked a) (hb : Marked b) : Marked (if c then a else b) := by
  split
  · exact ha
  · exact hb

/-! ## AUTO scheduling, recomputation and the tap queue -/

theorem autoEvaluate_marked (h : Marked s) : Marked (autoEvaluate u s) := by
  rw [Marked, autoEvaluate_link]; exact h

theorem recompute_marked (h : Marked s) : Marked (recompute st s) := by
  rw [Marked, recompute_link]; exact h

theorem assign_marked (h : Marked s) : Marked (assign i e st s) := notify_marked (recompute_marked h)

theorem reexamine_marked (h : Marked s) : Marked (reexamine s) :=
  reexamine_keeps s Marked (fun _ _ _ _ hx _ _ _ => assign_marked hx) h

theorem toHold_marked (h : Marked s) : Marked (toHold st s) := recompute_marked h

theorem release_marked {why : ReleaseReason} (h : Marked s) : Marked (release i e st why s) :=
  reexamine_marked (notify_marked (toHold_marked h))

theorem releaseCheck_marked (h : Marked s) : Marked (releaseCheck st s) := by
  unfold releaseCheck
  split
  · split
    · exact release_marked h
    · exact h
  · exact h

theorem waterRelease_marked (h : Marked s) : Marked (waterRelease st s) := by
  unfold waterRelease
  split
  · exact release_marked h
  · exact h

theorem dipWantedCheck_marked (h : Marked s) : Marked (dipWantedCheck st s) := by
  unfold dipWantedCheck
  split
  · split
    · exact ite_marked (ite_marked (notify_marked h) h) h
    · exact h
  · exact h

theorem readinessCheck_marked (h : Marked s) : Marked (readinessCheck st s) := by
  unfold readinessCheck
  split
  · split
    · exact ite_marked (notify_marked h) h
    · exact h
  · exact h

theorem stationChecks_marked (h : Marked s) : Marked (stationChecks st s) :=
  readinessCheck_marked (dipWantedCheck_marked (releaseCheck_marked h))

/-! ## Valves, heat flags and units -/

theorem openValve_marked {cause : Nat} (h : Marked s) : Marked (openValve cause s st) := ite_marked h (notify_marked h)

theorem closeValve_marked {cause : Nat} (h : Marked s) : Marked (closeValve cause s st) := ite_marked (notify_marked h) h

theorem openIfMetal_marked {cause : Nat} (h : Marked s) : Marked (openIfMetal cause s st) := ite_marked (openValve_marked h) h

theorem beginMetal_marked (h : Marked s) : Marked (beginMetal st s) := ite_marked (openValve_marked h) h

theorem raise_marked {f : HeatFlag} (h : Marked s) : Marked (raise f st s) :=
  ite_marked (ite_marked (waterRelease_marked (reexamine_marked (ite_marked h (notify_marked h)))) (ite_marked h (notify_marked h))) h

theorem enterEmpty_marked (h : Marked s) : Marked (enterEmpty st s) := recompute_marked (closeValve_marked h)

theorem noticeChangeover_marked {how : ChangeoverEnd} (h : Marked s) : Marked (noticeChangeover u how s) := notify_marked h

theorem enterInhibited_marked {ended : Option ChangeoverEnd} (h : Marked s) : Marked (enterInhibited u ended s) := by
  refine reexamine_marked ?_
  cases ended with
  | none => exact notify_marked h
  | some how => exact noticeChangeover_marked (notify_marked h)

theorem leaveInhibited_marked (h : Marked s) : Marked (leaveInhibited u s) :=
  reexamine_marked (autoEvaluate_marked (notify_marked h))

theorem abandonRamp_marked (h : Marked s) : Marked (abandonRamp u s) := autoEvaluate_marked (notify_marked h)

theorem rejudge_marked (h : Marked s) : Marked (rejudge u s) := by
  rcases rejudge_cases s u with e | ⟨-, -, ended, e⟩ | ⟨-, -, -, -, e⟩ | ⟨-, t, -, -, e⟩ <;> rw [e]
  · exact h
  · exact enterInhibited_marked h
  · exact leaveInhibited_marked h
  · exact abandonRamp_marked h

theorem evaluateIfOther_marked (h : Marked s) : Marked (evaluateIfOther st s) := by
  unfold evaluateIfOther
  split
  · exact ite_marked h (autoEvaluate_marked h)
  · exact h

theorem handSetChange_marked {t : Target} {wasBarred : Bool} (h : Marked s) : Marked (handSetChange t wasBarred s) := by
  unfold handSetChange
  split
  · exact rejudge_marked h
  · refine reexamine_marked ?_
    split
    · exact ite_marked (evaluateIfOther_marked (rejudge_marked h)) (rejudge_marked h)
    · exact ite_marked (evaluateIfOther_marked h) h

end

/-! ## The mark of a lost notice: events -/

section
variable {s : State} {st : Station} {u : UnitId} {i : Nat} {e : QueueEntry} {p : Program}

/-! ### The allocation pass and the model step (R24, R91) -/

theorem accountStage_marked (h : Marked s) : Marked (accountStage s) :=
  ite_marked (ite_marked (notify_marked h) h) (ite_marked h h)

theorem flushStage_marked {limit : Nat} {basis : State} (h : Marked s) : Marked (flushStage limit basis s u) := by
  unfold flushStage
  refine ite_marked ?_ h
  split
  · exact raise_marked h
  · exact h

theorem allocationPass_marked (h : Marked s) : Marked (allocationPass s) :=
  foldl_marked (f := handGrant _ _) (fun _ _ hx => hx) _ (foldl_marked (fun _ _ hx => flushStage_marked hx) _ (accountStage_marked h))

theorem liningEdge_marked {before : LiningRec} (h : Marked s) : Marked (liningEdge st before s) := ite_marked (notify_marked h) h

theorem storeBathStep_marked (h : Marked s) : Marked (storeBathStep st s) := by
  have raised : ∀ (c : Bool) (f : HeatFlag) {x : State}, Marked x → Marked (if c then raise f st x else x) :=
    fun _ _ _ hx => ite_marked (raise_marked hx) hx
  refine ite_marked (notify_marked ?_) ?_ <;> exact raised _ _ (raised _ _ (liningEdge_marked (raised _ _ h)))

theorem modelStep_marked (h : Marked s) : Marked (modelStep st s) :=
  have hstored := recompute_marked (storeBathStep_marked h)
  stationChecks_marked (ite_marked (reexamine_marked hstored) hstored)

/-! ### Units and the pump (R25, R70 to R85) -/

theorem takePower_marked {kw : Nat} (h : Marked s) : Marked (takePower u kw s) := by
  unfold takePower
  split
  · exact ite_marked (rejudge_marked h) h
  · exact h

theorem decayExpired_marked (h : Marked s) : Marked (decayExpired u s) := by
  unfold decayExpired
  split
  · exact enterInhibited_marked h
  · exact h

theorem endTravel_marked (h : Marked s) : Marked (endTravel u st s) := by
  unfold endTravel
  split
  · exact ite_marked (reexamine_marked (notify_marked h)) (notify_marked h)
  · exact h

theorem takeContacts_marked (h : Marked s) : Marked (takeContacts u s) := by
  unfold takeContacts
  split
  · exact ite_marked (endTravel_marked h) h
  · exact rejudge_marked h

theorem travelExpired_marked (h : Marked s) : Marked (travelExpired u s) := by
  unfold travelExpired
  split
  · exact ite_marked (noticeChangeover_marked h) (enterInhibited_marked h)
  · exact h

theorem settled_marked (h : Marked s) : Marked (settled u s) := by
  unfold settled
  split
  · exact autoEvaluate_marked (noticeChangeover_marked h)
  · exact h

theorem dwellReached_marked (h : Marked s) : Marked (dwellReached u s) := ite_marked (autoEvaluate_marked h) h

theorem onCauses_marked {f : Causes → Causes} (h : Marked s) : Marked (onCauses u f s) := h

theorem pumpFails_marked (h : Marked s) : Marked (pumpFails s) :=
  foldl_marked (fun _ _ hx => openIfMetal_marked hx) _ (foldl_marked (fun _ _ hx => rejudge_marked hx) _
    (foldl_marked (fun _ _ hx => onCauses_marked hx) _ h))

/-! ### Cooling water (R109 to R127) -/

theorem judgeLevels_marked (h : Marked s) : Marked (judgeLevels s) :=
  ite_marked (notify_marked (ite_marked (notify_marked h) h)) (ite_marked (notify_marked h) h)

theorem circuitGate_marked {c : Circuit} (h : Marked s) : Marked (circuitGate c s) := by
  unfold circuitGate
  split
  · exact evaluateIfOther_marked (ite_marked (judgeLevels_marked h) h)
  · exact h

/-! ### Watch programs (R131 to R146) -/

theorem handMembership_marked {t : Target} {before after : Action} {wasBarred : Bool} (h : Marked s) :
    Marked (handMembership t before after wasBarred s) := ite_marked h (handSetChange_marked h)

theorem handEntry_marked {event : Nat} {a : Action} {v : Option Int} (h : Marked s) : Marked (handEntry p event a v s) := by
  have hopened := ite_marked (c := a = .emergency)
    (foldl_marked (f := openIfMetal (causeProgram p)) (fun _ _ hx => openIfMetal_marked hx) (s.reached (s.program p).target) h) h
  have hwatered := ite_marked (c := a.trips = true)
    (foldl_marked (f := fun x st => if (x.phase st).holdsMetal then raise .water st x else x)
      (fun _ _ hx => ite_marked (raise_marked hx) hx) (s.reached (s.program p).target) hopened) hopened
  exact ite_marked hwatered (notify_marked hwatered)

theorem handOn_marked {v : Option Int} {x : Handed} (h : Marked s) : Marked (handOn p v x s) := by
  obtain ⟨run, _ | cleared, _ | ⟨event, action⟩⟩ := x
  · exact handMembership_marked h
  · exact handEntry_marked (handMembership_marked h)
  · exact handMembership_marked (notify_marked h)
  · exact handEntry_marked (handMembership_marked (notify_marked h))

theorem withdrawInto_marked {x : RunState} (h : Marked s) : Marked (withdrawInto p x s) := handMembership_marked h

/-! ### Permits and silence (R158, R178, R179) -/

theorem freeStation_marked (h : Marked s) : Marked (freeStation e s) := by
  unfold freeStation
  split
  · exact toHold_marked h
  · exact h

theorem expirePermit_marked {id : Nat} (h : Marked s) : Marked (expirePermit i e id s) :=
  ite_marked (reexamine_marked (notify_marked (freeStation_marked h))) (notify_marked h)

theorem recomputeMelting_marked (h : Marked s) : Marked (recomputeMelting s) :=
  foldl_marked (fun _ _ hx => ite_marked (recompute_marked hx) hx) _ h

theorem enterSilence_marked (h : Marked s) : Marked (enterSilence s) := recomputeMelting_marked h

theorem validFrame_marked (h : Marked s) : Marked (validFrame s) :=
  ite_marked (reexamine_marked (recomputeMelting_marked (notify_marked h))) h

/-! ### The part resumes (R14) -/

theorem resume_marked (h : Marked s) : Marked (resume s) := by
  have hread : Marked (allUnits.foldl rereadUnit { s with resetHeld := false, clockMs := 0 }) :=
    foldl_marked (f := rereadUnit) (fun _ _ hx => hx) _ h
  exact ite_marked (foldl_marked (fun _ _ hx => openIfMetal_marked hx) _ hread) hread

end

/-! ## The mark of a lost notice: requests (R170) -/

section
variable {s : State} {st a b : Station} {u : UnitId} {i : Nat} {p : List Byte}

/-! ### The checks of R5 -/

/-- An answer that depends on a condition keeps the mark if both of its ways do. -/
theorem answer_marked {c : Prop} [Decidable c] {x y : Answer} (hx : Marked x.state) (hy : Marked y.state) :
    Marked (if c then x else y).state := by
  split
  · exact hx
  · exact hy

/-- An answer made of a state that has the mark. -/
theorem answered_marked {code : ReplyCode} {data : List Byte} (h : Marked s) : Marked (Answer.mk s code data).state := h

theorem withLayout_marked {body : Answer} (h : Marked s) (hb : Marked body.state) : Marked (withLayout s body).state :=
  answer_marked hb h

theorem namingStation_marked {n : Nat} {body : Station → Answer} (h : Marked s) (hb : ∀ st, Marked (body st).state) :
    Marked (namingStation s n body).state := by
  refine withLayout_marked h ?_
  split
  · exact hb _
  · exact h

theorem forStation_marked {n : Nat} {body : Station → Answer} (h : Marked s) (hb : ∀ st, Marked (body st).state) :
    Marked (forStation s n body).state :=
  namingStation_marked h (fun st => answer_marked h (hb st))

theorem namingUnit_marked {n : Nat} {body : UnitId → Answer} (h : Marked s) (hb : ∀ u, Marked (body u).state) :
    Marked (namingUnit s n body).state := by
  refine withLayout_marked h ?_
  split
  · exact hb _
  · exact h

/-! ### Layout, stations, linings (1.1 to 1.3) -/

theorem startPrograms_marked {which : Target → Bool} (h : Marked s) : Marked (startPrograms which s) := h

theorem markStation_marked {on : Bool} (h : Marked s) : Marked (markStation st on s) := h

theorem markEvaluated_marked (h : Marked s) : Marked (markEvaluated s) :=
  foldl_marked (f := fun x c => x.onCircuit c (fun k => { k with evaluated := s.shouldEvaluate c })) (fun _ _ hx => hx) _ h

theorem takeLayout_marked {l : Layout} (h : Marked s) : Marked (takeLayout l s) :=
  reexamine_marked (startPrograms_marked (markEvaluated_marked (foldl_marked (f := adoptUnit) (fun _ _ hx => ite_marked hx hx) _
    (foldl_marked (f := adoptStation) (fun _ _ hx => ite_marked hx hx) _ h))))

theorem layoutOwner_marked (h : Marked s) : Marked (layoutOwner p s).state := by
  refine answer_marked h ?_
  split
  · exact h
  · exact answer_marked h (answered_marked (takeLayout_marked h))

theorem enableStation_marked (h : Marked s) : Marked (enableStation st s) :=
  reexamine_marked (startPrograms_marked (markStation_marked h))

theorem stationEnableOwner_marked (h : Marked s) : Marked (stationEnableOwner p s).state :=
  namingStation_marked h (fun _ => answer_marked h (answer_marked h (answered_marked (enableStation_marked h))))

theorem tellOff_marked (h : Marked s) : Marked (tellOff st s) := by
  unfold tellOff
  split
  · split
    · exact ite_marked (rejudge_marked h) h
    · exact h
  · exact h

theorem suspendPrograms_marked (h : Marked s) : Marked (suspendPrograms st s) :=
  foldl_marked (fun _ _ hx => ite_marked (withdrawInto_marked hx) hx) _ h

theorem disableStation_marked (h : Marked s) : Marked (disableStation st s) :=
  reexamine_marked (tellOff_marked (markStation_marked (suspendPrograms_marked (recompute_marked h))))

theorem stationDisableOwner_marked (h : Marked s) : Marked (stationDisableOwner p s).state := by
  refine forStation_marked h (fun st => ?_)
  split
  · exact answered_marked (disableStation_marked h)
  · exact h
  · exact h

theorem relineOwner_marked (h : Marked s) : Marked (relineOwner p s).state := by
  refine namingStation_marked h (fun st => ?_)
  split <;> exact h

/-! ### Tables (R171, R172) -/

theorem tableReadOwner_marked (h : Marked s) : Marked (tableReadOwner p s).state := by
  unfold tableReadOwner
  split <;> exact h

theorem withRecords_marked {α : Type} {records : Option (List α)} {body : List α → Answer} (h : Marked s)
    (hb : ∀ xs, Marked (body xs).state) : Marked (withRecords s records body).state := by
  unfold withRecords
  split
  · exact hb _
  · exact h

theorem takeShop_marked {r : ShopRec} (h : Marked s) : Marked (takeShop r s) := by
  refine foldl_marked (fun _ _ hx => autoEvaluate_marked hx) _ ?_
  have hmelt : Marked (if r.tMelt = s.cfg.shop.tMelt then s.onCfg (fun c => { c with shop := r })
      else { s.onCfg (fun c => { c with shop := r }) with heats := overAll (moveMelting r.tMelt) s.heats }) := ite_marked h h
  exact hmelt

theorem writeTable_marked {c : Covered} (h : Marked s) : Marked (writeTable c p s).state := by
  unfold writeTable
  split
  case h_1 => exact h
  case h_2 => exact withRecords_marked h (fun _ => foldl_marked (fun _ _ hx => takeShop_marked hx) _ h)
  case h_3 => exact withRecords_marked h (fun _ => reexamine_marked h)
  case h_4 => exact withRecords_marked h (fun _ => foldl_marked (fun _ _ hx => autoEvaluate_marked hx) _ h)
  case h_5 => exact withRecords_marked h (fun _ => h)
  case h_6 => exact withRecords_marked h (fun _ => answer_marked h (foldl_marked (f := rewriteRun) (fun _ _ hx => hx) _ h))
  case h_7 => exact withRecords_marked h (fun _ => answer_marked h h)
  case h_8 => exact withRecords_marked h (fun _ => answer_marked (foldl_marked (fun _ _ hx => liningEdge_marked hx) _ h) h)

theorem tableWriteOwner_marked (h : Marked s) : Marked (tableWriteOwner p s).state := by
  unfold tableWriteOwner
  split
  · exact answer_marked h (answer_marked h (writeTable_marked h))
  · exact h

/-! ### Heats (chapters 2 and 3) -/

theorem chargeRecord_marked {number mass : Nat} {grade : Option Grade} (h : Marked s) :
    Marked (chargeRecord st number mass grade s) := ite_marked (beginMetal_marked h) h

theorem takeCharge_marked {number mass : Nat} {grade : Option Grade} (h : Marked s) : Marked (takeCharge st number mass grade s) := by
  have hrecord : Marked (chargeRecord st number (min mass (s.room st)) grade s) := chargeRecord_marked h
  have hfilled : Marked (if s.room st < mass then raise .overfill st (chargeRecord st number (min mass (s.room st)) grade s)
      else chargeRecord st number (min mass (s.room st)) grade s) := ite_marked (raise_marked hrecord) hrecord
  refine ite_marked ?_ (reexamine_marked ?_) <;> exact recompute_marked hfilled

theorem chargeOwner_marked (h : Marked s) : Marked (chargeOwner p s).state := by
  refine forStation_marked h (fun st => ?_)
  dsimp only
  split
  · exact h
  · exact answered_marked (takeCharge_marked h)

theorem applyReading_marked {temp : Nat} {origin : DipOrigin} {mark : Bool} (h : Marked s) :
    Marked (applyReading st temp origin mark s) := ite_marked (raise_marked h) h

theorem takeDip_marked {temp : Nat} (h : Marked s) : Marked (takeDip st temp s) := by
  rw [takeDip_eq]
  exact readinessCheck_marked (recompute_marked (ite_marked (raise_marked (applyReading_marked h)) (applyReading_marked h)))

theorem dipOwner_marked (h : Marked s) : Marked (dipOwner p s).state := by
  refine forStation_marked h (fun st => ?_)
  dsimp only
  split
  · exact h
  · exact h
  · exact h
  · exact h
  · exact answer_marked h h
  · exact answer_marked h (answered_marked (takeDip_marked h))
  · exact answer_marked h (answered_marked (takeDip_marked h))

theorem receive_marked {mass tIn : Nat} {src : HeatRec} (h : Marked s) : Marked (receive b mass tIn src s) :=
  ite_marked (beginMetal_marked h) h

theorem takeTransfer_marked {mass : Nat} (h : Marked s) : Marked (takeTransfer a b mass s) :=
  reexamine_marked (recompute_marked (raise_marked (receive_marked (ite_marked (recompute_marked h) (enterEmpty_marked h)))))

theorem transferOwner_marked (h : Marked s) : Marked (transferOwner p s).state := by
  refine namingStation_marked h (fun a => namingStation_marked h (fun b => answer_marked h ?_))
  split
  · exact h
  · exact answered_marked (takeTransfer_marked h)

theorem heatReadOwner_marked (h : Marked s) : Marked (heatReadOwner p s).state := forStation_marked h (fun _ => h)

theorem establish_marked {r : HeatRec} {history : List DipEntry} (h : Marked s) : Marked (establish st r history s) :=
  reexamine_marked (recompute_marked h)

theorem heatLoadOwner_marked (h : Marked s) : Marked (heatLoadOwner p s).state :=
  forStation_marked h (fun _ => answer_marked h (answer_marked h (answered_marked (establish_marked h))))

theorem heatDeclareOwner_marked (h : Marked s) : Marked (heatDeclareOwner p s).state :=
  forStation_marked h (fun _ => answer_marked h (answer_marked h (answer_marked h (answered_marked (establish_marked h)))))

theorem heatEmptyOwner_marked (h : Marked s) : Marked (heatEmptyOwner p s).state := by
  refine forStation_marked h (fun st => ?_)
  split
  · exact answered_marked (reexamine_marked (enterEmpty_marked h))
  · exact h
  · exact h

theorem flagsClearOwner_marked (h : Marked s) : Marked (flagsClearOwner p s).state :=
  forStation_marked h (fun _ => answer_marked (answered_marked (ite_marked (reexamine_marked h) h)) h)

theorem dipHistoryOwner_marked (h : Marked s) : Marked (dipHistoryOwner p s).state := forStation_marked h (fun _ => h)

/-! ### Units, the allocator, the watch engine and the valves (4.8, R102, R124, R143) -/

theorem unitModeOwner_marked (h : Marked s) : Marked (unitModeOwner p s).state := by
  refine namingUnit_marked h (fun u => ?_)
  split
  · exact answered_marked (ite_marked (autoEvaluate_marked h) h)
  · exact h

theorem changeoverTo_marked (h : Marked s) : Marked (changeoverTo u st s).state := by
  rw [changeoverTo_eq]
  split <;> exact h

theorem changeoverOwner_marked (h : Marked s) : Marked (changeoverOwner p s).state :=
  namingUnit_marked h (fun _ => namingStation_marked h (fun _ => changeoverTo_marked h))

theorem releasePrograms_marked (h : Marked s) : Marked (releasePrograms u s) :=
  foldl_marked (fun _ _ hx => ite_marked (withdrawInto_marked hx) hx) _ h

theorem tripReset_marked (h : Marked s) : Marked (tripReset u s) := rejudge_marked (releasePrograms_marked (onCauses_marked h))

theorem tripResetOwner_marked (h : Marked s) : Marked (tripResetOwner p s).state :=
  namingUnit_marked h (fun _ => answered_marked (tripReset_marked h))

theorem intervalSyncOwner_marked (h : Marked s) : Marked (intervalSyncOwner s).state :=
  withLayout_marked h (answer_marked (answered_marked (ite_marked (notify_marked h) h)) h)

theorem watchStatusOwner_marked (h : Marked s) : Marked (watchStatusOwner s).state := withLayout_marked h h

theorem ewCloseOwner_marked (h : Marked s) : Marked (ewCloseOwner p s).state := by
  refine forStation_marked h (fun st => ?_)
  split
  · exact h
  · exact answer_marked h (answered_marked (ite_marked (closeValve_marked h) (closeValve_marked h)))

/-! ### Ladles (chapter 8) -/

theorem ladleRequestOwner_marked (h : Marked s) : Marked (ladleRequestOwner p s).state := by
  refine withLayout_marked h ?_
  dsimp only
  split
  · exact h
  · exact answer_marked h (answer_marked h (answer_marked h (answered_marked (reexamine_marked h))))

theorem ladleCancelOwner_marked (h : Marked s) : Marked (ladleCancelOwner p s).state := by
  refine withLayout_marked h ?_
  split
  · exact h
  · split
    · exact h
    · exact answer_marked h (answered_marked (reexamine_marked (freeStation_marked h)))

theorem startTap_marked {e : QueueEntry} (h : Marked s) : Marked (startTap i e s) := by
  unfold startTap
  split
  · exact reexamine_marked (recompute_marked h)
  · exact h

theorem tapStartOwner_marked (h : Marked s) : Marked (tapStartOwner p s).state := by
  refine withLayout_marked h ?_
  split
  · exact h
  · exact answered_marked (ite_marked h (startTap_marked h))

theorem endTap_marked (h : Marked s) : Marked (endTap st s) := ite_marked (enterEmpty_marked h) (toHold_marked h)

theorem dropEntry_marked (h : Marked s) : Marked (s.dropEntry i) := h

theorem takeTapDone_marked {poured temp : Nat} (h : Marked s) : Marked (takeTapDone i st poured temp s) :=
  reexamine_marked (endTap_marked (dropEntry_marked (ite_marked (applyReading_marked h) h)))

theorem tapDoneOwner_marked (h : Marked s) : Marked (tapDoneOwner p s).state := by
  refine withLayout_marked h ?_
  dsimp only
  split
  · split
    · exact answer_marked h (answered_marked (takeTapDone_marked h))
    · exact h
  · exact h

theorem settleAbort_marked {massLeft : Nat} (h : Marked s) : Marked (settleAbort i st massLeft s) :=
  ite_marked (endTap_marked h) (ite_marked (enterEmpty_marked h) (recompute_marked h))

theorem tapAbortOwner_marked (h : Marked s) : Marked (tapAbortOwner p s).state := by
  refine withLayout_marked h ?_
  split
  · split
    · exact answered_marked (reexamine_marked (settleAbort_marked h))
    · exact h
  · exact h

theorem queueReadOwner_marked (h : Marked s) : Marked (queueReadOwner s).state := withLayout_marked h h

end

/-! ## The mark of a lost notice: the receiver while no frame may be dispatched (R166 to R169) -/

/-- The mark stands and no frame may be dispatched, so that no SHOP STATUS can come to its owner. -/
def MarkedClosed (s : State) : Prop := Marked s ∧ s.dispatchOpen = false

/-- Internal work leaves as it is whether a frame may be dispatched. -/
theorem Internal.dispatchOpen {s t : State} (h : Internal s t) : t.dispatchOpen = s.dispatchOpen := by
  obtain ⟨hheld, hrestart⟩ := h.open
  have hbare := congrArg Link.pendingReply h.link
  have hpending : t.link.pendingReply = s.link.pendingReply := hbare
  simp only [State.dispatchOpen, hheld, hrestart, hpending]

section
variable {s : State}

theorem validFrame_dispatchOpen : (validFrame s).dispatchOpen = s.dispatchOpen := by
  unfold validFrame
  split
  · exact (((notify_internal _ _ _ _ _ _).trans (recomputeMelting_internal _)).reexamined).dispatchOpen
  · rfl

theorem acceptFrame_markedClosed {f : Frame} (h : MarkedClosed s) : MarkedClosed (acceptFrame f s) := by
  have hvalid : MarkedClosed (validFrame s) := ⟨validFrame_marked h.1, validFrame_dispatchOpen.trans h.2⟩
  unfold acceptFrame
  dsimp only
  split
  · rw [dispatchWaiting_closed]
    · exact hvalid
    · exact hvalid.2
  · exact hvalid

theorem rxByte_markedClosed {b : Byte} (h : MarkedClosed s) : MarkedClosed (rxByte s b) := by
  have hcomplete : ∀ bytes, MarkedClosed (completeFrame bytes s.hunting) := by
    intro bytes
    unfold completeFrame
    split
    · exact acceptFrame_markedClosed h
    · exact h
  unfold rxByte
  dsimp only
  split
  · exact h
  · split
    · split <;> exact h
    · split
      · split
        · exact hcomplete _
        · exact h
      · split <;> exact h

theorem rxBytes_markedClosed {bytes : List Byte} (h : MarkedClosed s) : MarkedClosed (rxBytes bytes s) :=
  List.foldlRecOn bytes rxByte h (fun _ hx _ _ => rxByte_markedClosed hx)

theorem lineLevel_marked {low : Bool} (h : Marked s) : Marked (lineLevel low s) := h

theorem abandonFrame_marked (h : Marked s) : Marked (abandonFrame s) := by
  unfold abandonFrame
  split <;> exact h

end

/-! ## The mark of a lost notice: the commands -/

section
variable {s t : State}

theorem whileRunning_marked {f : State → State} (he : whileRunning f s = .next t) (h : Marked s) (hf : Marked (f s)) : Marked t := by
  rcases whileRunning_cases f s with ⟨-, e⟩ | ⟨-, e⟩ <;> cases e.symm.trans he
  · exact h
  · exact nextFrame_marked hf

theorem takeHead_marked {f : Frame} (h : Marked s) (he : s.takeHead f = some t) : Marked t := by
  unfold State.takeHead at he
  split at he
  · cases he; exact h
  · split at he <;> cases he
    exact h

theorem serve_marked {kind tag : Byte} {payload : List Byte} {judge : State → Answer} (he : serve kind tag payload judge s = .next t)
    (h : Marked s) (hj : ∀ x, Marked x → Marked (judge x).state) : Marked t := by
  unfold serve at he
  split at he
  · split at he <;> cases he
    case h_1 x hx => exact nextFrame_marked (hj x (takeHead_marked h hx))
    case h_2 => exact h
  · cases he; exact h

theorem serveRequest_marked {k : RequestKind} {tag : Byte} {payload : List Byte} {owner : State → Answer}
    (he : serveRequest k tag payload owner s = .next t) (h : Marked s) (ho : ∀ x, Marked x → Marked (owner x).state) : Marked t :=
  serve_marked he h (fun x hx => answer_marked (ho x hx) hx)

theorem restartOwner_marked (h : Marked s) : Marked (restartOwner s).state := h

/-! ### The events that are more than one function of the state -/

theorem resetLineReleased_marked (h : Marked s) (he : exec .resetLineReleased s = .next t) : Marked t := by
  change execResetLineReleased s = .next t at he
  unfold execResetLineReleased at he
  split at he <;> cases he
  · exact nextFrame_marked (resume_marked h)
  · exact h

theorem lineBreak_marked {bytes : List Byte} (h : MarkedClosed s) (he : exec (.lineBreak bytes) s = .next t) : Marked t := by
  change execLineBreak bytes s = .next t at he
  unfold execLineBreak at he
  split at he <;> cases he
  · exact h.1
  · exact nextFrame_marked (lineLevel_marked (abandonFrame_marked (rxBytes_markedClosed h).1))

theorem endTransmission_marked (h : Marked s) : Marked (endTransmission s) := by
  unfold endTransmission
  split <;> exact h

theorem endTransmission_rx : (endTransmission s).link.rx = s.link.rx := by
  unfold endTransmission
  split <;> rfl

theorem nextFrame_rx : (nextFrame s).link.rx = s.link.rx := by
  rcases nextFrame_cases s with e | ⟨r, -, -, e⟩ | ⟨n, rest, -, -, -, e⟩ <;> rw [e] <;> rfl

/-- At the end of a frame, with none waiting, nothing is dispatched. -/
theorem transmitFrameEnd_marked (h : Marked s) (hrx : s.link.rx = []) (he : exec .transmitFrameEnd s = .next t) : Marked t := by
  change execTransmitFrameEnd s = .next t at he
  unfold execTransmitFrameEnd at he
  split at he <;> cases he
  · exact h
  · rw [dispatchWaiting_empty _ (nextFrame_rx.trans (endTransmission_rx.trans hrx))]
    exact nextFrame_marked (endTransmission_marked h)

theorem permitExpiry_marked {id : Nat} (h : Marked s) (he : exec (.permitExpiry id) s = .next t) : Marked t := by
  refine whileRunning_marked (show execPermitExpiry id s = .next t from he) h ?_
  split
  · exact expirePermit_marked h
  · exact h

theorem unknownKind_marked {kind tag : Byte} {payload : List Byte} (h : Marked s) (he : exec (.unknownKind kind tag payload) s = .next t) :
    Marked t := by
  change execUnknownKind kind tag payload s = _ at he
  unfold execUnknownKind at he
  split at he
  · cases he; exact h
  · exact serve_marked he h (fun _ hx => hx)

/-- Once placed, the mark of a lost notice stands until SHOP STATUS or a reset. -/
theorem exec_marked {c : Instr} (h : Marked s) (hclosed : s.mayDispatch c = false) (hstatus : ∀ tag p, c ≠ .shopStatus tag p)
    (hpower : c ≠ .powerOn) (hreset : c ≠ .resetLineActive) (hrestart : c ≠ .restartTakesEffect) (he : exec c s = .next t) : Marked t := by
  cases c with
  | powerOn => exact absurd rfl hpower
  | resetLineActive => exact absurd rfl hreset
  | resetLineReleased => exact resetLineReleased_marked h he
  | restartTakesEffect => exact absurd rfl hrestart
  | frameReceived bytes => exact whileRunning_marked he h (rxBytes_markedClosed ⟨h, hclosed⟩).1
  | interByteGap bytes =>
    exact whileRunning_marked (show execInterByteGap bytes s = .next t from he) h (abandonFrame_marked (rxBytes_markedClosed ⟨h, hclosed⟩).1)
  | lineBreak bytes => exact lineBreak_marked ⟨h, hclosed⟩ he
  | silenceTimerExpiry => exact whileRunning_marked (show execSilenceTimerExpiry s = .next t from he) h (ite_marked h (enterSilence_marked h))
  | transmitFrameEnd => exact transmitFrameEnd_marked h (by simpa [State.mayDispatch] using hclosed) he
  | unknownKind kind tag payload => exact unknownKind_marked h he
  | shopStatus tag p => exact absurd rfl (hstatus tag p)
  | layout tag p => exact serveRequest_marked he h (fun _ hx => layoutOwner_marked hx)
  | tableRead tag p => exact serveRequest_marked he h (fun _ hx => tableReadOwner_marked hx)
  | tableWrite tag p => exact serveRequest_marked he h (fun _ hx => tableWriteOwner_marked hx)
  | restart tag p => exact serveRequest_marked he h (fun _ hx => restartOwner_marked hx)
  | stationEnable tag p => exact serveRequest_marked he h (fun _ hx => stationEnableOwner_marked hx)
  | stationDisable tag p => exact serveRequest_marked he h (fun _ hx => stationDisableOwner_marked hx)
  | reline tag p => exact serveRequest_marked he h (fun _ hx => relineOwner_marked hx)
  | charge tag p => exact serveRequest_marked he h (fun _ hx => chargeOwner_marked hx)
  | dip tag p => exact serveRequest_marked he h (fun _ hx => dipOwner_marked hx)
  | transfer tag p => exact serveRequest_marked he h (fun _ hx => transferOwner_marked hx)
  | heatRead tag p => exact serveRequest_marked he h (fun _ hx => heatReadOwner_marked hx)
  | heatLoad tag p => exact serveRequest_marked he h (fun _ hx => heatLoadOwner_marked hx)
  | heatDeclare tag p => exact serveRequest_marked he h (fun _ hx => heatDeclareOwner_marked hx)
  | heatEmpty tag p => exact serveRequest_marked he h (fun _ hx => heatEmptyOwner_marked hx)
  | flagsClear tag p => exact serveRequest_marked he h (fun _ hx => flagsClearOwner_marked hx)
  | dipHistory tag p => exact serveRequest_marked he h (fun _ hx => dipHistoryOwner_marked hx)
  | unitMode tag p => exact serveRequest_marked he h (fun _ hx => unitModeOwner_marked hx)
  | changeover tag p => exact serveRequest_marked he h (fun _ hx => changeoverOwner_marked hx)
  | tripReset tag p => exact serveRequest_marked he h (fun _ hx => tripResetOwner_marked hx)
  | intervalSync tag p => exact serveRequest_marked he h (fun _ hx => intervalSyncOwner_marked hx)
  | watchStatus tag p => exact serveRequest_marked he h (fun _ hx => watchStatusOwner_marked hx)
  | ewClose tag p => exact serveRequest_marked he h (fun _ hx => ewCloseOwner_marked hx)
  | ladleRequest tag p => exact serveRequest_marked he h (fun _ hx => ladleRequestOwner_marked hx)
  | ladleCancel tag p => exact serveRequest_marked he h (fun _ hx => ladleCancelOwner_marked hx)
  | tapStart tag p => exact serveRequest_marked he h (fun _ hx => tapStartOwner_marked hx)
  | tapDone tag p => exact serveRequest_marked he h (fun _ hx => tapDoneOwner_marked hx)
  | tapAbort tag p => exact serveRequest_marked he h (fun _ hx => tapAbortOwner_marked hx)
  | queueRead tag p => exact serveRequest_marked he h (fun _ hx => queueReadOwner_marked hx)
  | modelStep st => exact whileRunning_marked (show execModelStep st s = .next t from he) h (ite_marked (modelStep_marked h) h)
  | measuredPower u kw => exact whileRunning_marked he h (takePower_marked h)
  | decayTimeout u => exact whileRunning_marked he h (decayExpired_marked h)
  | switchContacts u a b => exact whileRunning_marked (show execSwitchContacts u a b s = .next t from he) h (ite_marked (takeContacts_marked h) h)
  | travelTimeout u => exact whileRunning_marked he h (travelExpired_marked h)
  | settleExpiry u => exact whileRunning_marked he h (settled_marked h)
  | dwellExpiry u => exact whileRunning_marked he h (dwellReached_marked h)
  | unitFaultActive u => exact whileRunning_marked (show execUnitFaultActive u s = .next t from he) h (rejudge_marked h)
  | unitFaultInactive u => exact whileRunning_marked (show execUnitFaultInactive u s = .next t from he) h h
  | pumpFaultActive => exact whileRunning_marked he h (pumpFails_marked h)
  | pumpFaultInactive => exact whileRunning_marked (show execPumpFaultInactive s = .next t from he) h h
  | allocationPass => exact whileRunning_marked he h (allocationPass_marked h)
  | channelArrival c reading => exact whileRunning_marked (show execChannelArrival c reading s = .next t from he) h h
  | channelTimeout c => exact whileRunning_marked (show execChannelTimeout c s = .next t from he) h (ite_marked h h)
  | flowPulse c => exact whileRunning_marked (show execFlowPulse c s = .next t from he) h h
  | circuitGate c => exact whileRunning_marked he h (circuitGate_marked h)
  | programEvaluation p => exact whileRunning_marked (show execProgramEvaluation p s = .next t from he) h (ite_marked (handOn_marked h) h)
  | permitExpiry id => exact permitExpiry_marked h he
  | frameLenAbandoned len =>
    exact whileRunning_marked (show execFrameLenAbandoned len s = .next t from he) h (rxBytes_markedClosed ⟨h, hclosed⟩).1
  | breakEnd => exact whileRunning_marked (show execBreakEnd s = .next t from he) h h

end

/-! ## The notice queue (R175, R176) -/

/-- Queuing a notice stores the queue that its placing leaves, and keeps account of a loss. -/
theorem notify_eq_of_placeNotice {s : State} {kind : NoticeKind} {subject : Nat} {v1 v2 v3 : Option Int} {ns : List Notice} {lost : Bool}
    (h : placeNotice s.link.notices (s.notice kind subject v1 v2 v3) = (ns, lost)) : s.notify kind subject v1 v2 v3 =
      { s with link := { s.link with notices := ns, noticesLost := s.link.noticesLost || lost } } := by
  have hplaced : s.notify kind subject v1 v2 v3 = s.onLink (fun l =>
      { l with notices := (placeNotice s.link.notices (s.notice kind subject v1 v2 v3)).1
               noticesLost := l.noticesLost || (placeNotice s.link.notices (s.notice kind subject v1 v2 v3)).2 }) := rfl
  rw [hplaced, h]
  rfl

/-- The four kinds of class A (9.5). -/
theorem classA_iff (k : NoticeKind) : k.classA = true ↔ k ∈ [NoticeKind.trip, .tripClear, .emergencyWater, .reservoir] := by
  cases k <;> decide

/-- Settles O15: the four ways to place a notice, and the mark, which every command but SHOP STATUS and the resets leaves standing. -/
theorem noticeQueueKeepsClassA : Obligations.NoticeQueueKeepsClassA := by
  refine ⟨fun s kind subject v1 v2 v3 => ⟨fun hroom => ?room, fun older m newer hfull hq holder hm => ?givesWay,
    fun hfull hq hkind => ?oldest, fun hfull hq hkind => ?lost⟩, classA_iff,
    fun c s t he h hclosed hstatus hpower hreset hrestart => exec_marked h hclosed hstatus hpower hreset hrestart he⟩
  case room => exact notify_eq_of_placeNotice (placeNotice_room hroom)
  case givesWay => exact notify_eq_of_placeNotice (placeNotice_classB hfull hq holder hm)
  case oldest => exact notify_eq_of_placeNotice ((placeNotice_classA hfull hq).trans (if_pos hkind))
  case lost => exact notify_eq_of_placeNotice ((placeNotice_classA hfull hq).trans (if_neg (by simp [State.notice, hkind])))

end Sys2Proof.Machine

/-!
PROOFS. The work that blocks do for one another, cut into its smallest pieces: every shared operation is a run of `SharedStep`s, so what each
piece keeps, all of them keep.
-/

namespace Sys2Proof.Machine

/-! ## The pieces -/

/-- An entry takes a station (R153), before the station's request is recomputed. -/
def State.assigned (s : State) (i : Nat) (st : Station) : State :=
  (s.onEntry i (fun e => { e with station := some st })).onRecord st (fun r => { r with phase := .superheat, dipMark := false })

/-- An entry gives its station back (R155), before the station's request is recomputed. -/
def State.released (s : State) (i : Nat) (st : Station) : State :=
  (s.onEntry i (fun e => { e with station := none, dipCall := none })).onRecord st (fun r => { r with phase := .hold })

/-- The id that the next permit takes (R157). -/
def State.nextId (s : State) : Nat := freePermit s.permitIds s.permitIds.length s.taps.permitCounter

/-- A permit is issued to an entry (R157), before its notice. -/
def State.permitted (s : State) (i : Nat) : State :=
  let s1 := s.onEntry i (fun e =>
    { e with permit := some { id := s.nextId, leftMs := s.cfg.shop.permitTime * 1000, started := false } })
  { s1 with taps := { s1.taps with permitCounter := nextPermit s.nextId } }

/-- A unit record on entry into INHIBITED (R71, R81). -/
def PowerUnit.inhibit (p : PowerUnit) : PowerUnit :=
  { p with state := .inhibited, grant := 0, decayTimer := none, settleTimer := none, inhibitedMs := 0 }

/-- A unit may enter FEEDING: nothing stands against it, and it is INHIBITED at a position or its RAMP_DOWN is abandoned (R74, R82). -/
def State.mayFeed (s : State) (u : UnitId) : Prop :=
  s.tripsEmpty u = true ∧
    (((s.unit u).state = .inhibited ∧ (s.unit u).travel = none ∧ (s.unit u).position.isSome = true) ∨
      ∃ t, (s.unit u).state = .rampDown t)

/-- One piece of shared work. -/
inductive SharedStep (s : State) : State → Prop where
  | notice (kind : NoticeKind) (subject : Nat) (v1 v2 v3 : Option Int) : SharedStep s (s.notify kind subject v1 v2 v3)
  | request (st : Station) : SharedStep s (s.demanded st)
  | changeover {u : UnitId} {t : Station} (h : s.autoTarget u = some t) : SharedStep s (startChangeover u t s)
  | assign {i : Nat} {e : QueueEntry} {st : Station} (hlink : s.link.silent = false) (he : s.taps.entries[i]? = some e)
      (hfree : e.station = none) (hchoice : s.choice e = some st) : SharedStep s (s.assigned i st)
  | release {i : Nat} {e : QueueEntry} {st : Station} (he : s.taps.entries[i]? = some e) (hst : e.station = some st)
      (hpermit : e.permit = none) : SharedStep s (s.released i st)
  | call (i : Nat) (time : Option Nat) : SharedStep s (s.onEntry i (fun e => { e with dipCall := time }))
  | permit {i : Nat} {e : QueueEntry} {st : Station} (he : s.taps.entries[i]? = some e) (hst : e.station = some st)
      (hready : s.ready e st = true) : SharedStep s (s.permitted i)
  | openValve {st : Station} (h : (s.phase st).holdsMetal = true) : SharedStep s { s with valves := place s.valves st true }
  | closeValve (st : Station) : SharedStep s { s with valves := place s.valves st false }
  | flag (f : HeatFlag) {st : Station} (h : (s.phase st).running = true) :
      SharedStep s (s.onRecord st (fun r => { r with flags := setFlag r.flags f }))
  | inhibit (u : UnitId) : SharedStep s (s.onUnit u PowerUnit.inhibit)
  | feed {u : UnitId} (h : s.mayFeed u) : SharedStep s (s.onUnit u (PowerUnit.feed s.cfg.shop.minDwell))

/-- Shared work: any run of its pieces. -/
abbrev Shared : State → State → Prop := Relation.ReflTransGen SharedStep

theorem SharedStep.shared {s t : State} (h : SharedStep s t) : Shared s t := .single h

/-- A property kept by every piece of shared work is kept by shared work. -/
theorem Shared.keeps {P : State → Prop} (hstep : ∀ s t, SharedStep s t → P s → P t) {s t : State} (h : Shared s t) (hs : P s) : P t := by
  induction h with
  | refl => exact hs
  | tail _ hbit ih => exact hstep _ _ hbit ih

/-- A relation that holds of every piece of shared work and is a preorder holds of shared work. -/
theorem Shared.lift {R : State → State → Prop} (hrefl : ∀ s, R s s) (htrans : ∀ {a b c}, R a b → R b c → R a c)
    (hstep : ∀ s t, SharedStep s t → R s t) {s t : State} (h : Shared s t) : R s t :=
  h.keeps (P := R s) (fun a b hab hs => htrans hs (hstep a b hab)) (hrefl s)

theorem Shared.foldl {α : Type} {f : State → α → State} (h : ∀ s a, Shared s (f s a)) (xs : List α) (s : State) :
    Shared s (xs.foldl f s) := by
  induction xs generalizing s with
  | nil => exact .refl
  | cons x xs ih => exact (h s x).trans (ih _)

/-! ## Which place of the queue a station's entry has -/

theorem entryIndex_entry {s : State} {st : Station} {i : Nat} {e : QueueEntry} (hi : s.entryIndex st = some i)
    (he : s.taps.entries[i]? = some e) : e.station = some st := by
  obtain ⟨hlt, hp, -⟩ := List.findIdx?_eq_some_iff_getElem.mp hi
  rw [List.getElem?_eq_getElem hlt] at he
  cases he
  simpa using hp

/-- What an assigned entry without a permit is. -/
theorem unpermitted_parts {s : State} {st : Station} {i : Nat} {e : QueueEntry} (h : s.unpermitted st = some (i, e)) :
    s.taps.entries[i]? = some e ∧ e.station = some st ∧ e.permit = none := by
  unfold State.unpermitted at h
  split at h
  · next j hj =>
    split at h
    · next d hd =>
      split at h
      · next hp =>
        cases h
        exact ⟨hd, entryIndex_entry hj hd, by simpa using hp⟩
      · cases h
    · cases h
  · cases h

/-! ## The shared operations -/

variable (s : State)

theorem notify_shared (kind : NoticeKind) (subject : Nat) (v1 v2 v3 : Option Int) : Shared s (s.notify kind subject v1 v2 v3) :=
  (SharedStep.notice kind subject v1 v2 v3).shared

/-- Shared work that ends with a notice. -/
theorem Shared.notified {a b : State} (h : Shared a b) (kind : NoticeKind) (subject : Nat) (v1 v2 v3 : Option Int) :
    Shared a (b.notify kind subject v1 v2 v3) := h.trans (notify_shared b kind subject v1 v2 v3)

theorem autoEvaluate_shared (u : UnitId) : Shared s (autoEvaluate u s) := by
  rcases autoEvaluate_cases s u with ⟨-, h⟩ | ⟨t, ht, h⟩
  · rw [h]
  · exact h ▸ (SharedStep.changeover ht).shared

theorem recompute_shared (st : Station) : Shared s (recompute st s) := by
  have hdemand := (SharedStep.request (s := s) st).shared
  rcases recompute_cases s st with h | ⟨u, t, -, ht, h⟩ <;> rw [h]
  · exact hdemand
  · exact hdemand.trans (SharedStep.changeover ht).shared

theorem Shared.recomputed {a b : State} (h : Shared a b) (st : Station) : Shared a (recompute st b) :=
  h.trans (recompute_shared b st)

theorem judgeEntry_shared (hlink : s.link.silent = false) (i : Nat) : Shared s (judgeEntry s i) := by
  rcases judgeEntry_cases s i with h | ⟨e, st, he, hfree, hchoice, h⟩
  · rw [h]
  · exact h ▸ ((SharedStep.assign hlink he hfree hchoice).shared.recomputed st).notified ..

/-- What a re-examination keeps of the link lets it judge every entry. -/
theorem Internal.silent {s t : State} (h : Internal s t) : t.link.silent = s.link.silent := by
  have hbare := congrArg Link.silent h.link
  exact hbare

theorem reexamine_shared : Shared s (reexamine s) := by
  cases hlink : s.link.silent
  · rw [reexamine_talking hlink]
    generalize List.range s.taps.entries.length = xs
    induction xs generalizing s with
    | nil => exact .refl
    | cons i xs ih =>
      exact (judgeEntry_shared s hlink i).trans (ih _ ((judgeEntry_internal s i).silent.trans hlink))
  · rw [reexamine_silent s hlink]

theorem Shared.reexamined {a b : State} (h : Shared a b) : Shared a (reexamine b) := h.trans (reexamine_shared b)

theorem release_shared {i : Nat} {e : QueueEntry} {st : Station} (why : ReleaseReason) (he : s.taps.entries[i]? = some e)
    (hst : e.station = some st) (hpermit : e.permit = none) : Shared s (release i e st why s) :=
  (((SharedStep.release he hst hpermit).shared.recomputed st).notified ..).reexamined

theorem releaseCheck_shared (st : Station) : Shared s (releaseCheck st s) := by
  unfold releaseCheck
  split
  · next i e h =>
    obtain ⟨he, hst, hpermit⟩ := unpermitted_parts h
    split
    · exact release_shared s _ he hst hpermit
    · exact .refl
  · exact .refl

theorem waterRelease_shared (st : Station) : Shared s (waterRelease st s) := by
  unfold waterRelease
  split
  · next i e h =>
    obtain ⟨he, hst, hpermit⟩ := unpermitted_parts h
    exact release_shared s _ he hst hpermit
  · exact .refl

theorem dipWantedCheck_shared (st : Station) : Shared s (dipWantedCheck st s) := by
  unfold dipWantedCheck
  split
  · split
    · split
      · split
        · exact ((SharedStep.call _ _).shared).notified ..
        · exact .refl
      · exact (SharedStep.call _ _).shared
    · exact .refl
  · exact .refl

theorem readinessCheck_shared (st : Station) : Shared s (readinessCheck st s) := by
  unfold readinessCheck
  split
  · next i hi =>
    split
    · next e he =>
      split
      · next hready => exact (SharedStep.permit he (entryIndex_entry hi he) hready).shared.notified ..
      · exact .refl
    · exact .refl
  · exact .refl

theorem stationChecks_shared (st : Station) : Shared s (stationChecks st s) :=
  ((releaseCheck_shared s st).trans (dipWantedCheck_shared _ st)).trans (readinessCheck_shared _ st)

theorem openValve_shared (cause : Nat) {st : Station} (h : (s.phase st).holdsMetal = true) : Shared s (openValve cause s st) := by
  rcases openValve_cases s cause st with ⟨-, e⟩ | ⟨-, e⟩
  · rw [e]
  · exact e ▸ (SharedStep.openValve h).shared.notified ..

theorem closeValve_shared (cause : Nat) (st : Station) : Shared s (closeValve cause s st) := by
  rcases closeValve_cases s cause st with ⟨-, e⟩ | ⟨-, e⟩
  · rw [e]
  · exact e ▸ (SharedStep.closeValve st).shared.notified ..

theorem openIfMetal_shared (cause : Nat) (st : Station) : Shared s (openIfMetal cause s st) := by
  unfold openIfMetal
  split
  · next h => exact openValve_shared s cause h
  · exact .refl

theorem holdsMetal_of_running {p : Phase} (h : p.running = true) : p.holdsMetal = true := by
  cases p <;> simp_all [Phase.holdsMetal, Phase.running]

theorem beginMetal_shared {st : Station} (h : (s.phase st).running = true) : Shared s (beginMetal st s) := by
  unfold beginMetal
  split
  · exact openValve_shared s _ (holdsMetal_of_running h)
  · exact .refl

theorem raise_shared (f : HeatFlag) (st : Station) : Shared s (raise f st s) := by
  unfold raise
  simp only
  split
  · next hrun =>
    have hflag : Shared s (s.onRecord st (fun r => { r with flags := setFlag r.flags f })) := (SharedStep.flag f hrun).shared
    have hnotice := hflag.notified .heatFlag (stationCode st) (nat f.bit) (nat (s.record st).heatNo) (nat (s.record st).tEst)
    split <;> split
    · exact hflag.reexamined.trans (waterRelease_shared _ st)
    · exact hnotice.reexamined.trans (waterRelease_shared _ st)
    · exact hflag
    · exact hnotice
  · exact .refl

theorem enterInhibited_shared (u : UnitId) (ended : Option ChangeoverEnd) : Shared s (enterInhibited u ended s) := by
  have htrip := (SharedStep.inhibit (s := s) u).shared.notified .trip (unitCode u) (nat (s.unit u).causes.bits)
    (nat (programBits (s.tripPrograms u))) (nat (stationOrNone (s.unit u).position))
  unfold enterInhibited
  apply Shared.reexamined
  cases ended with
  | none => exact htrip
  | some how => exact htrip.notified ..

theorem leaveInhibited_shared {u : UnitId} (h : s.mayFeed u) : Shared s (leaveInhibited u s) :=
  Shared.reexamined (((SharedStep.feed h).shared.notified ..).trans (autoEvaluate_shared _ u))

theorem abandonRamp_shared {u : UnitId} (h : s.mayFeed u) : Shared s (abandonRamp u s) :=
  ((SharedStep.feed h).shared.notified ..).trans (autoEvaluate_shared _ u)

theorem rejudge_shared (u : UnitId) : Shared s (rejudge u s) := by
  rcases rejudge_cases s u with h | ⟨-, -, ended, h⟩ | ⟨htrip, hstate, htravel, hpos, h⟩ | ⟨htrip, t, ht, -, h⟩
  · rw [h]
  · exact h ▸ enterInhibited_shared s u ended
  · exact h ▸ leaveInhibited_shared s ⟨htrip, .inl ⟨hstate, htravel, hpos⟩⟩
  · exact h ▸ abandonRamp_shared s ⟨htrip, .inr ⟨t, ht⟩⟩

theorem Shared.rejudged {a b : State} (h : Shared a b) (u : UnitId) : Shared a (rejudge u b) := h.trans (rejudge_shared b u)

theorem evaluateIfOther_shared (st : Station) : Shared s (evaluateIfOther st s) := by
  unfold evaluateIfOther
  split
  · split
    · exact .refl
    · exact autoEvaluate_shared s _
  · exact .refl

/-- What follows the re-judging in a change of a station's bar set: an emptied set lets the unit evaluate, then the queue is re-examined. -/
theorem barChange_shared (st : Station) (wasBarred : Bool) :
    Shared s (reexamine (if (wasBarred && !s.barred st) = true then evaluateIfOther st s else s)) := by
  apply Shared.reexamined
  split
  · exact evaluateIfOther_shared s st
  · exact .refl

theorem handSetChange_shared (t : Target) (wasBarred : Bool) : Shared s (handSetChange t wasBarred s) := by
  cases t with
  | unit u => exact rejudge_shared s u
  | station st =>
    unfold handSetChange
    simp only
    cases s.unitOf st with
    | none => exact barChange_shared s st wasBarred
    | some u => exact (rejudge_shared s u).trans (barChange_shared _ st wasBarred)

theorem handMembership_shared (t : Target) (before after : Action) (wasBarred : Bool) :
    Shared s (handMembership t before after wasBarred s) := by
  unfold handMembership
  split
  · exact .refl
  · exact handSetChange_shared s t wasBarred

theorem handEntry_shared (p : Program) (event : Nat) (a : Action) (v : Option Int) : Shared s (handEntry p event a v s) := by
  have hvalves : ∀ (xs : List Station) s, Shared s (if a = .emergency then xs.foldl (openIfMetal (causeProgram p)) s else s) := by
    intro xs s
    split
    · exact Shared.foldl (fun s st => openIfMetal_shared s _ st) xs s
    · exact .refl
  have hwater : ∀ (xs : List Station) s, Shared s
      (if a.trips then xs.foldl (fun s st => if (s.phase st).holdsMetal then raise .water st s else s) s else s) := by
    intro xs s
    split
    · refine Shared.foldl (fun s st => ?_) xs s
      split
      · exact raise_shared s _ st
      · exact .refl
    · exact .refl
  unfold handEntry
  simp only
  split
  · exact (hvalves _ s).trans (hwater _ _)
  · exact Shared.notified ((hvalves _ s).trans (hwater _ _)) ..

theorem recomputeMelting_shared : Shared s (recomputeMelting s) := by
  refine Shared.foldl (fun s st => ?_) _ s
  split
  · exact recompute_shared s st
  · exact .refl

theorem liningEdge_shared (st : Station) (before : LiningRec) : Shared s (liningEdge st before s) := by
  unfold liningEdge
  split
  · exact notify_shared s ..
  · exact .refl

/-! ## What shared work leaves alone -/

theorem SharedStep.internal {s t : State} (h : SharedStep s t) : Internal s t := by
  cases h with
  | notice => exact notify_internal ..
  | request => exact onHeat_internal ..
  | changeover => exact startChangeover_internal ..
  | assign => exact (onEntry_internal ..).trans (onRecord_internal ..)
  | release => exact (onEntry_internal ..).trans (onRecord_internal ..)
  | call => exact onEntry_internal ..
  | permit => exact ⟨by constructor <;> rfl, rfl⟩
  | openValve => exact ⟨by constructor <;> rfl, rfl⟩
  | closeValve => exact ⟨by constructor <;> rfl, rfl⟩
  | flag => exact onRecord_internal ..
  | inhibit => exact onUnit_internal ..
  | feed => exact onUnit_internal ..

theorem Shared.internal {s t : State} (h : Shared s t) : Internal s t :=
  h.lift Internal.refl Internal.trans (fun _ _ => SharedStep.internal)

end Sys2Proof.Machine

/-!
PROOFS. What a request's owner can leave, and what an event can do: one case for each, with what the checks before it have found. A property
that every case keeps is kept by every command.
-/

namespace Sys2Proof.Machine

/-! ## The owners of the requests -/

/-- The STATION table after a write (R172): each record within its ranges for the station it is stored for. -/
def State.writtenStations (s : State) (first count : Nat) (xs : List StationRec) : Bank StationRec 4 :=
  storeFrom s.cfg.stations first (List.zipWith (fun st r => r.clamped (s.capacity st)) (coveredStations first count) xs)

/-- The state that an owner which does not refuse leaves, by the kind of the request. -/
inductive Served (s : State) : RequestKind → State → Prop where
  | shopStatus : Served s .shopStatus (s.onLink (fun l => { l with noticesLost := false, silenceMark := false }))
  | restart : Served s .restart (s.onLink (fun l => { l with restart := .replying }))
  | layout {p : List Byte} {es : List LayoutStation} (hblank : s.cfg.layout.loaded = false) (hes : layoutEntries p = some es)
      (hfit : layoutRefused p es = false) : Served s .layout (takeLayout (layoutRecord p es) s)
  | writeShop (r : ShopRec) : Served s .tableWrite (takeShop r.clamped s)
  | writeStation {first count : Nat} {b : List Byte} {xs : List StationRec} (hfirst : first + count ≤ 4)
      (hxs : recordsOf stationRecOf 9 count b = some xs) :
      Served s .tableWrite (reexamine (s.onCfg (fun c => { c with stations := s.writtenStations first count xs })))
  | writeUnit {first count : Nat} {b : List Byte} {xs : List UnitRec} (hxs : recordsOf unitRecOf 5 count b = some xs) :
      Served s .tableWrite ((coveredUnits first count).foldl (fun s u => autoEvaluate u s)
        (s.onCfg (fun c => { c with units := storeFrom c.units first (xs.map UnitRec.clamped) })))
  | writeCircuit (first : Nat) (xs : List Nat) :
      Served s .tableWrite (s.onCfg (fun c => { c with circuits := storeFrom c.circuits first (xs.map pulsesClamped) }))
  | writeProgram {first count : Nat} {b : List Byte} {xs : List ProgramRec} (hfirst : first + count ≤ 16)
      (hxs : recordsOf programRecOf 19 count b = some xs)
      (hheld : ∀ p ∈ coveredPrograms first count, (s.held p).trips = false) :
      Served s .tableWrite ((coveredPrograms first count).foldl rewriteRun
        (s.onCfg (fun c => { c with programs := storeFrom c.programs first (xs.map ProgramRec.clamped) })))
  | writeGrade (first : Nat) {xs : List GradeRec} (hfit : (xs.map GradeRec.clamped).all GradeRec.fits = true) :
      Served s .tableWrite (s.onCfg (fun c => { c with grades := storeFrom c.grades first (xs.map GradeRec.clamped) }))
  | writeLining {first count : Nat} {b : List Byte} {xs : List LiningRec} (hxs : recordsOf liningRecOf 14 count b = some xs) :
      Served s .tableWrite ((coveredStations first count).foldl (fun s' st => liningEdge st (look s.linings st) s')
        { s with linings := storeFrom s.linings first (xs.map LiningRec.clamped) })
  | stationEnable {st : Station} (hloaded : s.cfg.layout.loaded = true) (hpresent : (s.layoutOf st).present = true)
      (hoff : look s.enabled st = false) : Served s .stationEnable (enableStation st s)
  | stationDisable {st : Station} (h : s.phase st = .empty) : Served s .stationDisable (disableStation st s)
  | reline (st : Station) : Served s .reline { s with linings := place s.linings st (look s.linings st).relined }
  | charge {st : Station} {number mass : Nat} {grade : Option Nat} (hoff : s.phase st ≠ .off)
      (h : chargeRefusal s st number mass grade = none) : Served s .charge (takeCharge st number mass (grade.bind gradeOf) s)
  | dipNoted (st : Station) (temp : Nat) :
      Served s .dip (s.onHeat st (fun h => { h with history := addDip h.history (s.dipEntry st temp .lance) }))
  | dip {st : Station} (temp : Nat) (h : s.phase st = .hold ∨ s.phase st = .superheat) : Served s .dip (takeDip st temp s)
  | transfer {a b : Station} {mass : Nat} (ha : s.phase a ≠ .off) (hb : s.phase b ≠ .off) (h : transferRefusal s a b mass = none) :
      Served s .transfer (takeTransfer a b mass s)
  | heatLoad {st : Station} {number : Nat} {im : List Byte} (h : s.phase st = .unknown)
      (him : imageInvalid number (s.capacity st) im = false) :
      Served s .heatLoad (establish st (loadedRecord s.cfg.shop.tMelt im) [] s)
  | heatDeclare {st : Station} {p : List Byte} (h : s.phase st = .unknown) (hgood : ¬ declareBad p s st) :
      Served s .heatDeclare (establish st
        (declaredRecord s.cfg.shop.tMelt s.heatCounter (gradeOf (u8At p 1)) (u16At p 2) (u16At p 4) (u16At p 6))
        (declaredHistory (u16At p 2) (u16At p 6) s.partTime) (advanceHeatNo s))
  | heatEmpty {st : Station} (h : s.phase st = .unknown) : Served s .heatEmpty (reexamine (enterEmpty st s))
  | flagsClear {st : Station} (named : FlagSet) (h : (s.phase st).running = true) :
      Served s .flagsClear (s.onRecord st (fun r => { r with flags := clearFlags r.flags named }))
  | waterClear {st : Station} (named : FlagSet) (h : (s.phase st).running = true) :
      Served s .flagsClear (reexamine (s.onRecord st (fun r => { r with flags := clearFlags r.flags named })))
  | unitMode (u : UnitId) (m : UnitMode) : Served s .unitMode (setMode u m s)
  | changeover {u : UnitId} {t : Station} (h : s.changeoverStop u t = none) : Served s .changeover (startChangeover u t s)
  | tripReset (u : UnitId) : Served s .tripReset (tripReset u s)
  | intervalSync : Served s .intervalSync (takeSync s)
  | watchStatus : Served s .watchStatus
      { s with runs := overAll (fun r => { r with positive := false, negative := false }) s.runs }
  | ewClose (st : Station) (refilled : Bool) : Served s .ewClose (refill refilled (closeValve causeHost s st))
  | ladleRequest {e : QueueEntry} (hstation : e.station = none) (hpermit : e.permit = none)
      (hnew : ∀ d ∈ s.taps.entries, d.ladle ≠ e.ladle) (hdepth : s.taps.entries.length < 8) :
      Served s .ladleRequest (reexamine (s.withEntries (s.taps.entries ++ [e])))
  | ladleCancel {i : Nat} {e : QueueEntry} (he : s.taps.entries[i]? = some e) (h : e.pouring = false) :
      Served s .ladleCancel (reexamine (freeStation e (s.dropEntry i)))
  | tapStart {i : Nat} {e : QueueEntry} (he : s.taps.entries[i]? = some e) (hpermit : e.permit.isSome = true)
      (h : e.pouring = false) : Served s .tapStart (startTap i e s)
  | tapDone {i : Nat} {e : QueueEntry} {st : Station} (mass temp : Nat) (he : s.taps.entries[i]? = some e)
      (h : e.pouring = true) (hst : e.station = some st) :
      Served s .tapDone (takeTapDone i st (min mass (s.record st).liquid) temp s)
  | tapAbort {i : Nat} {e : QueueEntry} {st : Station} (mass : Nat) (he : s.taps.entries[i]? = some e) (h : e.pouring = true)
      (hst : e.station = some st) :
      Served s .tapAbort (reexamine (settleAbort i st (e.mass - min mass (s.record st).liquid)
        (pourLadle st (min mass (s.record st).liquid) s)))

/-- An owner refuses and leaves the state, or leaves one that its kind can. -/
def Serves (s : State) (k : RequestKind) (t : State) : Prop := t = s ∨ Served s k t

section
variable {s : State} {k : RequestKind}

/-! ### The checks before an owner's own work -/

theorem serves_refuse {code : ReplyCode} : Serves s k (refuse s code).state := .inl rfl

theorem serves_answer {t : State} {code : ReplyCode} {data : List Byte} (h : Served s k t) :
    Serves s k (Answer.mk t code data).state := .inr h

theorem serves_ite {c : Prop} [Decidable c] {x y : Answer} (hx : c → Serves s k x.state) (hy : ¬ c → Serves s k y.state) :
    Serves s k (if c then x else y).state := by
  split
  · next h => exact hx h
  · next h => exact hy h

theorem serves_withLayout {body : Answer} (h : s.cfg.layout.loaded = true → Serves s k body.state) :
    Serves s k (withLayout s body).state := serves_ite h (fun _ => serves_refuse)

theorem serves_namingStation {n : Nat} {body : Station → Answer}
    (h : ∀ st, s.cfg.layout.loaded = true → Serves s k (body st).state) : Serves s k (namingStation s n body).state := by
  refine serves_withLayout (fun hl => ?_)
  cases stationOf n with
  | none => exact serves_refuse
  | some st => exact h st hl

theorem serves_forStation {n : Nat} {body : Station → Answer} (h : ∀ st, s.phase st ≠ .off → Serves s k (body st).state) :
    Serves s k (forStation s n body).state :=
  serves_namingStation (fun st _ => serves_ite (fun _ => serves_refuse) (fun hoff => h st hoff))

theorem serves_namingUnit {n : Nat} {body : UnitId → Answer} (h : ∀ u, Serves s k (body u).state) :
    Serves s k (namingUnit s n body).state := by
  refine serves_withLayout (fun _ => ?_)
  cases unitNumber n with
  | none => exact serves_refuse
  | some u => exact h u

theorem serves_withRecords {α : Type} {records : Option (List α)} {body : List α → Answer}
    (h : ∀ xs, records = some xs → Serves s k (body xs).state) : Serves s k (withRecords s records body).state := by
  cases records with
  | none => exact serves_refuse
  | some xs => exact h xs rfl

/-! ### Layout, stations, linings -/

variable {p : List Byte}

theorem layoutOwner_serves : Serves s .layout (layoutOwner p s).state := by
  refine serves_ite (fun _ => serves_refuse) (fun hblank => ?_)
  split
  · exact serves_refuse
  · next es hes =>
    exact serves_ite (fun _ => serves_refuse)
      (fun hfit => serves_answer (.layout (by simpa using hblank) hes (by simpa using hfit)))

theorem stationEnableOwner_serves : Serves s .stationEnable (stationEnableOwner p s).state := by
  refine serves_namingStation (fun st hl => serves_ite (fun _ => serves_refuse) (fun hpresent => ?_))
  exact serves_ite (fun _ => .inl rfl) (fun hoff => serves_answer (.stationEnable hl (by simpa using hpresent) (by simpa using hoff)))

theorem stationDisableOwner_serves : Serves s .stationDisable (stationDisableOwner p s).state := by
  refine serves_forStation (fun st _ => ?_)
  split
  · next h => exact serves_answer (.stationDisable h)
  · exact serves_refuse
  · exact serves_refuse

theorem relineOwner_serves : Serves s .reline (relineOwner p s).state := by
  refine serves_namingStation (fun st _ => ?_)
  split
  · exact serves_answer (.reline st)
  · exact serves_refuse
  · exact serves_refuse
  · exact serves_refuse

/-! ### Tables -/

theorem tableReadOwner_serves : Serves s .tableRead (tableReadOwner p s).state := by
  unfold tableReadOwner
  split
  · exact .inl rfl
  · exact serves_refuse

/-- One record is read from the bytes of a SHOP write. -/
theorem recordsOf_one {α : Type} {parse : List Byte → Option α} {size : Nat} {b : List Byte} {xs : List α}
    (h : recordsOf parse size 1 b = some xs) : ∃ x, parse (b.take size) = some x ∧ xs = [x] := by
  unfold recordsOf at h
  split at h
  · next x hx =>
    simp only [recordsOf, Option.map_some, Option.some.injEq] at h
    exact ⟨x, hx, h.symm⟩
  · cases h

/-- What a payload covers lies inside its table. -/
theorem covered_fits {c : Covered} (h : covered p = some c) : c.first + c.count ≤ c.table.count := by
  unfold covered at h
  simp only at h
  split at h
  · split at h
    · cases h
    · next hc =>
      cases h
      exact Nat.le_of_not_lt (fun hlt => hc (.inl hlt))
  · cases h

theorem writeTable_serves {c : Covered} {b : List Byte} (hc : c.first + c.count ≤ c.table.count) :
    Serves s .tableWrite (writeTable c b s).state := by
  unfold writeTable
  split
  · exact serves_refuse
  · refine serves_withRecords (fun xs hxs => ?_)
    obtain ⟨r, -, rfl⟩ := recordsOf_one hxs
    exact serves_answer (.writeShop r)
  · next ht =>
    rw [ht] at hc
    exact serves_withRecords (fun xs hxs => serves_answer (.writeStation hc hxs))
  · exact serves_withRecords (fun xs hxs => serves_answer (.writeUnit hxs))
  · exact serves_withRecords (fun xs _ => serves_answer (.writeCircuit _ xs))
  · next ht =>
    rw [ht] at hc
    refine serves_withRecords (fun xs hxs => serves_ite (fun _ => serves_refuse) (fun hheld => ?_))
    exact serves_answer (.writeProgram hc hxs (by simpa using hheld))
  · exact serves_withRecords (fun xs _ => serves_ite (fun hfit => serves_answer (.writeGrade _ hfit)) (fun _ => serves_refuse))
  · exact serves_withRecords (fun xs hxs => serves_ite (fun _ => serves_answer (.writeLining hxs)) (fun _ => serves_refuse))

theorem tableWriteOwner_serves : Serves s .tableWrite (tableWriteOwner p s).state := by
  unfold tableWriteOwner
  split
  · next c hc =>
    exact serves_ite (fun _ => serves_refuse)
      (fun _ => serves_ite (fun _ => serves_refuse) (fun _ => writeTable_serves (covered_fits hc)))
  · exact serves_refuse

/-! ### Heats -/

theorem chargeOwner_serves : Serves s .charge (chargeOwner p s).state := by
  refine serves_forStation (fun st hoff => ?_)
  simp only
  split
  · exact serves_refuse
  · next h => exact serves_answer (.charge hoff h)

theorem dipOwner_serves : Serves s .dip (dipOwner p s).state := by
  refine serves_forStation (fun st _ => ?_)
  simp only
  split
  case h_5 => exact serves_ite (fun _ => serves_refuse) (fun _ => serves_answer (.dipNoted st _))
  case h_6 h => exact serves_ite (fun _ => serves_refuse) (fun _ => serves_answer (.dip _ (.inl h)))
  case h_7 h => exact serves_ite (fun _ => serves_refuse) (fun _ => serves_answer (.dip _ (.inr h)))
  all_goals exact serves_refuse

theorem transferOwner_serves : Serves s .transfer (transferOwner p s).state := by
  refine serves_namingStation (fun a _ => serves_namingStation (fun b _ => serves_ite (fun _ => serves_refuse) (fun hoff => ?_)))
  obtain ⟨ha, hb⟩ := not_or.mp hoff
  split
  · exact serves_refuse
  · next h => exact serves_answer (.transfer ha hb h)

theorem heatLoadOwner_serves : Serves s .heatLoad (heatLoadOwner p s).state := by
  refine serves_forStation (fun st _ => serves_ite (fun _ => serves_refuse) (fun h => ?_))
  exact serves_ite (fun _ => serves_refuse) (fun him => serves_answer (.heatLoad (not_not.mp h) (by simpa using him)))

theorem heatDeclareOwner_serves : Serves s .heatDeclare (heatDeclareOwner p s).state := by
  refine serves_forStation (fun st _ => serves_ite (fun _ => serves_refuse) (fun h => ?_))
  refine serves_ite (fun _ => serves_refuse) (fun hmass => serves_ite (fun _ => serves_refuse) (fun htemp => ?_))
  refine serves_answer (.heatDeclare (not_not.mp h) ?_)
  simp only [Config.tLow, Config.tHigh] at htemp
  unfold declareBad
  tauto

theorem heatEmptyOwner_serves : Serves s .heatEmpty (heatEmptyOwner p s).state := by
  refine serves_forStation (fun st _ => ?_)
  split
  · next h => exact serves_answer (.heatEmpty h)
  · exact .inl rfl
  · exact serves_refuse

theorem flagsClearOwner_serves : Serves s .flagsClear (flagsClearOwner p s).state := by
  refine serves_forStation (fun st _ => serves_ite (fun hrun => ?_) (fun _ => .inl rfl))
  simp only
  split
  · exact .inr (.waterClear _ hrun)
  · exact .inr (.flagsClear _ hrun)

/-! ### Units, the allocator, the watch engine and the valves -/

theorem unitModeOwner_serves : Serves s .unitMode (unitModeOwner p s).state := by
  refine serves_namingUnit (fun u => ?_)
  split
  · exact serves_answer (.unitMode u _)
  · exact serves_refuse

theorem changeoverOwner_serves : Serves s .changeover (changeoverOwner p s).state := by
  refine serves_namingUnit (fun u => serves_namingStation (fun t _ => ?_))
  rw [changeoverTo_eq]
  split
  · exact serves_refuse
  · next h => exact serves_answer (.changeover h)

theorem ewCloseOwner_serves : Serves s .ewClose (ewCloseOwner p s).state := by
  refine serves_forStation (fun st _ => ?_)
  split
  · exact serves_refuse
  · exact serves_ite (fun _ => .inl rfl) (fun _ => serves_answer (.ewClose st _))

theorem intervalSyncOwner_serves : Serves s .intervalSync (intervalSyncOwner s).state :=
  serves_withLayout (fun _ => serves_ite (fun _ => serves_answer .intervalSync) (fun _ => serves_refuse))

/-! ### Ladles -/

theorem ladleRequestOwner_serves : Serves s .ladleRequest (ladleRequestOwner p s).state := by
  refine serves_withLayout (fun _ => ?_)
  simp only
  split
  · exact serves_refuse
  · refine serves_ite (fun _ => serves_refuse) (fun _ => serves_ite (fun _ => serves_refuse) (fun hnew => ?_))
    refine serves_ite (fun _ => serves_refuse) (fun hdepth => serves_answer (.ladleRequest rfl rfl ?_ (Nat.lt_of_not_le hdepth)))
    simpa [newEntry] using hnew

theorem ladleCancelOwner_serves : Serves s .ladleCancel (ladleCancelOwner p s).state := by
  refine serves_withLayout (fun _ => ?_)
  split
  · exact serves_refuse
  · split
    · exact serves_refuse
    · next e he => exact serves_ite (fun _ => serves_refuse) (fun h => serves_answer (.ladleCancel he (Bool.eq_false_iff.mpr h)))

/-- The first entry of a kind stands at its place and is of the kind. -/
theorem findEntry_some {which : QueueEntry → Bool} {i : Nat} {e : QueueEntry} (h : s.findEntry which = some (i, e)) :
    s.taps.entries[i]? = some e ∧ which e = true := by
  unfold State.findEntry at h
  split at h
  · next j hj =>
    obtain ⟨hlt, hp, -⟩ := List.findIdx?_eq_some_iff_getElem.mp hj
    rw [List.getElem?_eq_getElem hlt] at h
    cases h
    exact ⟨List.getElem?_eq_getElem hlt, hp⟩
  · cases h

theorem holds_permit {id : Nat} {e : QueueEntry} (h : e.holds id = true) : e.permit.isSome = true := by
  unfold QueueEntry.holds at h
  split at h
  · next hq => rw [hq]; rfl
  · cases h

theorem holdsStarted_pouring {id : Nat} {e : QueueEntry} (h : e.holdsStarted id = true) : e.pouring = true := by
  unfold QueueEntry.holdsStarted at h
  split at h
  · next q hq =>
    rw [QueueEntry.pouring, hq]
    exact (Bool.and_eq_true_iff.mp h).2
  · cases h

theorem tapStartOwner_serves : Serves s .tapStart (tapStartOwner p s).state := by
  refine serves_withLayout (fun _ => ?_)
  split
  · exact serves_refuse
  · next i e hfind =>
    obtain ⟨he, hholds⟩ := findEntry_some hfind
    simp only
    split
    · exact .inl rfl
    · next h => exact .inr (.tapStart he (holds_permit hholds) (Bool.eq_false_iff.mpr h))

theorem tapDoneOwner_serves : Serves s .tapDone (tapDoneOwner p s).state := by
  refine serves_withLayout (fun _ => ?_)
  simp only
  split
  · next i e hfind =>
    obtain ⟨he, hholds⟩ := findEntry_some hfind
    split
    · next st hst =>
      exact serves_ite (fun _ => serves_refuse) (fun _ => serves_answer (.tapDone _ _ he (holdsStarted_pouring hholds) hst))
    · exact serves_refuse
  · exact serves_refuse

theorem tapAbortOwner_serves : Serves s .tapAbort (tapAbortOwner p s).state := by
  refine serves_withLayout (fun _ => ?_)
  simp only
  split
  · next i e hfind =>
    obtain ⟨he, hholds⟩ := findEntry_some hfind
    split
    · next st hst => exact serves_answer (.tapAbort _ he (holdsStarted_pouring hholds) hst)
    · exact serves_refuse
  · exact serves_refuse

/-- What the owner of a kind leaves. -/
theorem ownerOf_serves : Serves s k (ownerOf k p s).state := by
  cases k with
  | shopStatus => exact serves_answer .shopStatus
  | layout => exact layoutOwner_serves
  | tableRead => exact tableReadOwner_serves
  | tableWrite => exact tableWriteOwner_serves
  | restart => exact serves_answer .restart
  | stationEnable => exact stationEnableOwner_serves
  | stationDisable => exact stationDisableOwner_serves
  | reline => exact relineOwner_serves
  | charge => exact chargeOwner_serves
  | dip => exact dipOwner_serves
  | transfer => exact transferOwner_serves
  | heatRead => exact serves_forStation (fun _ _ => .inl rfl)
  | heatLoad => exact heatLoadOwner_serves
  | heatDeclare => exact heatDeclareOwner_serves
  | heatEmpty => exact heatEmptyOwner_serves
  | flagsClear => exact flagsClearOwner_serves
  | dipHistory => exact serves_forStation (fun _ _ => .inl rfl)
  | unitMode => exact unitModeOwner_serves
  | changeover => exact changeoverOwner_serves
  | tripReset => exact serves_namingUnit (fun u => serves_answer (.tripReset u))
  | intervalSync => exact intervalSyncOwner_serves
  | watchStatus => exact serves_withLayout (fun _ => serves_answer .watchStatus)
  | ewClose => exact ewCloseOwner_serves
  | ladleRequest => exact ladleRequestOwner_serves
  | ladleCancel => exact ladleCancelOwner_serves
  | tapStart => exact tapStartOwner_serves
  | tapDone => exact tapDoneOwner_serves
  | tapAbort => exact tapAbortOwner_serves
  | queueRead => exact serves_withLayout (fun _ => .inl rfl)

end

/-! ## The events of the field and of the timers -/

/-- The state an event leaves, the transmitter's choice apart. -/
inductive Happens (s : State) : Instr → State → Prop where
  | powerOn : Happens s .powerOn (State.poweredOn s.lines s.link.lineLow s.pending)
  | hold (h : s.resetHeld = false) : Happens s .resetLineActive { restartState s with resetHeld := true }
  | resume (h : s.resetHeld = true) : Happens s .resetLineReleased (resume s)
  | restart (h : s.resetHeld = false) (hdue : s.link.restart = .due) :
      Happens s .restartTakesEffect (Machine.resume (restartState s))
  | silence (h : s.link.silent = false) (hdue : s.link.silenceTimer = some 0) : Happens s .silenceTimerExpiry (enterSilence s)
  | modelStep {st : Station} (h : (s.phase st).running = true) : Happens s (.modelStep st) (modelStep st s)
  | measuredPower (u : UnitId) (kw : Nat) : Happens s (.measuredPower u kw) (takePower u kw s)
  | decayTimeout (u : UnitId) : Happens s (.decayTimeout u) (decayExpired u s)
  | contacts (u : UnitId) (a b : Bool) :
      Happens s (.switchContacts u a b) { s with lines := { s.lines with contacts := place s.lines.contacts u { a, b } } }
  | switchContacts (u : UnitId) (a b : Bool) : Happens s (.switchContacts u a b)
      (takeContacts u { s with lines := { s.lines with contacts := place s.lines.contacts u { a, b } } })
  | travelTimeout (u : UnitId) : Happens s (.travelTimeout u) (travelExpired u s)
  | settleExpiry (u : UnitId) : Happens s (.settleExpiry u) (settled u s)
  | dwellExpiry (u : UnitId) : Happens s (.dwellExpiry u) (dwellReached u s)
  | faultLine (u : UnitId) (level : Bool) (c : Instr) (hc : c = .unitFaultActive u ∨ c = .unitFaultInactive u) :
      Happens s c (faultLine u level s)
  | unitFault (u : UnitId) :
      Happens s (.unitFaultActive u) (rejudge u (onCauses u (fun c => { c with unitFault := true }) (Machine.faultLine u true s)))
  | pumpLine (level : Bool) (c : Instr) (hc : c = .pumpFaultActive ∨ c = .pumpFaultInactive) : Happens s c (pumpLine level s)
  | pumpFault : Happens s .pumpFaultActive (pumpFails (Machine.pumpLine true s))
  | allocationPass : Happens s .allocationPass (allocationPass s)
  | channel (c : Instr) (k : Channel) (x : ChannelSt) (hc : (∃ v, c = .channelArrival k v) ∨ c = .channelTimeout k) :
      Happens s c (s.onChannel k (fun _ => x))
  | flowPulse (k : Circuit) : Happens s (.flowPulse k) (s.onCircuit k (fun x => { x with pulses := satAdd 65535 x.pulses 1 }))
  | circuitGate (k : Circuit) : Happens s (.circuitGate k) (circuitGate k s)
  | programEvaluation {p : Program} (hlive : s.live p = true) : Happens s (.programEvaluation p) (evaluateProgram p s)
  | permitExpiry {i id : Nat} {e : QueueEntry} (he : s.taps.entries[i]? = some e) (hpermit : e.permit.isSome = true)
      (h : e.pouring = false) : Happens s (.permitExpiry id) (expirePermit i e id s)

/-! ## The courses a command can take -/

/-- What a command can leave. -/
inductive Course (s : State) (c : Instr) : State → Prop where
  /-- The command is not taken. -/
  | still : Course s c s
  /-- A reset. -/
  | reset {x : State} (hc : c = .powerOn ∨ c = .resetLineActive) (h : Happens s c x) : Course s c x
  /-- The levels of the field's lines are recorded while the part is held. -/
  | recorded {l : Lines} (hheld : s.resetHeld = true) (h : Happens s c { s with lines := l }) : Course s c { s with lines := l }
  /-- An event that does nothing but that the transmitter chooses. -/
  | idle (hheld : s.resetHeld = false) : Course s c (nextFrame s)
  /-- An event and the transmitter's choice. -/
  | event {x : State} (hheld : s.resetHeld = true ↔ c = .resetLineReleased) (h : Happens s c x) : Course s c (nextFrame x)
  /-- The dispatch of a request. -/
  | request {t : State} (k : RequestKind) (tag : Byte) (p : List Byte) (hc : c = commandOf k tag p)
      (h : serveRequest k tag p (ownerOf k p) s = .next t) : Course s c t
  /-- The dispatch of a frame that is no request. -/
  | unknown {t : State} (kind tag : Byte) (p : List Byte) (h : serve kind tag p (fun x => refuse x .unknownKind) s = .next t) :
      Course s c t
  /-- Bytes on the line. -/
  | bytes (hheld : s.resetHeld = false) (bs : List Byte) (hopen : s.mayDispatch c = s.dispatchOpen) : Course s c (nextFrame (rxBytes bs s))
  /-- Bytes on the line, then a gap. -/
  | gap (hheld : s.resetHeld = false) (bs : List Byte) (hopen : s.mayDispatch c = s.dispatchOpen) :
      Course s c (nextFrame (abandonFrame (rxBytes bs s)))
  /-- Bytes on the line, then a break. -/
  | broken (hheld : s.resetHeld = false) (bs : List Byte) (hopen : s.mayDispatch c = s.dispatchOpen) :
      Course s c (nextFrame (lineLevel true (abandonFrame (rxBytes bs s))))
  /-- The end of a break. -/
  | mended (hheld : s.resetHeld = false) : Course s c (nextFrame ((lineLevel false s).onLink (fun l => { l with receiver := .hunt })))
  /-- The level of the receive line is recorded while the part is held. -/
  | level (hheld : s.resetHeld = true) (low : Bool) : Course s c (lineLevel low s)
  /-- The end of a transmitted frame. -/
  | sent (hheld : s.resetHeld = false) (hopen : s.mayDispatch c = !s.link.rx.isEmpty) :
      Course s c (dispatchWaiting (nextFrame (endTransmission s)))

section
variable {s t : State} {c : Instr}

/-- An event of a running part: what it does, and the transmitter's choice. -/
theorem course_running {f : State → State} (he : whileRunning f s = .next t)
    (hf : s.resetHeld = false → Course s c (nextFrame (f s))) : Course s c t := by
  rcases whileRunning_cases f s with ⟨-, h⟩ | ⟨hheld, h⟩ <;> cases h.symm.trans he
  · exact .still
  · exact hf hheld

/-- An event of a running part that is one of the events above. -/
theorem course_happens {f : State → State} (he : whileRunning f s = .next t) (hc : c ≠ .resetLineReleased) (hf : Happens s c (f s)) :
    Course s c t :=
  course_running he (fun hheld => .event ⟨fun h => absurd (hheld.symm.trans h) Bool.noConfusion, fun h => absurd h hc⟩ hf)

/-- An event that the part takes or not. -/
theorem course_either {p : State → Prop} [DecidablePred p] {f : State → State} (hc : c ≠ .resetLineReleased)
    (he : whileRunning (fun s => if p s then f s else s) s = .next t) (hf : p s → Happens s c (f s)) : Course s c t := by
  refine course_running he (fun hheld => ?_)
  show Course s c (nextFrame (if p s then f s else s))
  split
  · next h => exact .event ⟨fun h => absurd (hheld.symm.trans h) Bool.noConfusion, fun h => absurd h hc⟩ (hf h)
  · exact .idle hheld

/-- An event whose lines are recorded also while the part is held. -/
theorem course_lines {l : Lines} {f : State → State} (hc : c ≠ .resetLineReleased) (he : whileRunning f { s with lines := l } = .next t)
    (hl : Happens s c { s with lines := l }) (hf : Happens s c (f { s with lines := l })) : Course s c t := by
  rcases whileRunning_cases f { s with lines := l } with ⟨hheld, h⟩ | ⟨hheld, h⟩ <;> cases h.symm.trans he
  · exact .recorded hheld hl
  · exact .event ⟨fun h => absurd (hheld.symm.trans h) Bool.noConfusion, fun h => absurd h hc⟩ hf

/-- The course of a permit's expiry. -/
theorem course_permitExpiry {id : Nat} (he : execPermitExpiry id s = .next t) : Course s (.permitExpiry id) t := by
  refine course_running he (fun hheld => ?_)
  split
  · next i e hfind =>
    obtain ⟨hentry, hholds⟩ := findEntry_some hfind
    unfold QueueEntry.holdsUnstarted at hholds
    split at hholds
    · next q hq =>
      have hstart : q.started = false := by simpa using (Bool.and_eq_true_iff.mp hholds).2
      refine .event ⟨fun h => absurd (hheld.symm.trans h) Bool.noConfusion, fun h => Instr.noConfusion h⟩ ?_
      exact .permitExpiry hentry (by rw [hq]; rfl) (by rw [QueueEntry.pouring, hq]; exact hstart)
    · cases hholds
  · exact .idle hheld

/-- The course of the contacts: those of an unused unit are recorded alone. -/
theorem course_switchContacts {u : UnitId} {a b : Bool} (he : execSwitchContacts u a b s = .next t) :
    Course s (.switchContacts u a b) t := by
  refine course_lines (fun h => Instr.noConfusion h) he (.contacts u a b) ?_
  split
  · exact .switchContacts u a b
  · exact .contacts u a b

/-- Every command takes one of the courses. -/
theorem exec_course (he : exec c s = .next t) : Course s c t := by
  cases c with
  | powerOn => cases he; exact .reset (.inl rfl) .powerOn
  | resetLineActive =>
    change execResetLineActive s = .next t at he
    unfold execResetLineActive at he
    split at he
    · cases he; exact .still
    · next h => cases he; exact .reset (.inr rfl) (.hold (by simpa using h))
  | resetLineReleased =>
    change execResetLineReleased s = .next t at he
    unfold execResetLineReleased at he
    split at he
    · next h => cases he; exact .event ⟨fun _ => rfl, fun _ => h⟩ (.resume h)
    · cases he; exact .still
  | restartTakesEffect =>
    change execRestartTakesEffect s = .next t at he
    unfold execRestartTakesEffect at he
    split at he
    · next h =>
      cases he
      simp only [Bool.and_eq_true, Bool.not_eq_true', decide_eq_true_eq] at h
      exact .event ⟨fun hheld => absurd (h.1.symm.trans hheld) Bool.noConfusion, Instr.noConfusion⟩ (.restart h.1 h.2)
    · cases he; exact .still
  | frameReceived bs =>
    change execFrameReceived bs s = .next t at he
    exact course_running he (fun hheld => .bytes hheld bs rfl)
  | interByteGap bs =>
    change execInterByteGap bs s = .next t at he
    exact course_running he (fun hheld => .gap hheld bs rfl)
  | frameLenAbandoned len =>
    change execFrameLenAbandoned len s = .next t at he
    exact course_running he (fun hheld => .bytes hheld _ rfl)
  | lineBreak bs =>
    change execLineBreak bs s = .next t at he
    unfold execLineBreak at he
    split at he
    · next h => cases he; exact .level h true
    · next h => cases he; exact .broken (by simpa using h) bs rfl
  | breakEnd =>
    change execBreakEnd s = .next t at he
    unfold execBreakEnd at he
    rcases whileRunning_cases (fun s => s.onLink (fun l => { l with receiver := .hunt })) (lineLevel false s) with
      ⟨hheld, h⟩ | ⟨hheld, h⟩ <;> cases h.symm.trans he
    · exact .level (s := s) hheld false
    · exact .mended (s := s) hheld
  | silenceTimerExpiry =>
    change execSilenceTimerExpiry s = .next t at he
    refine course_running he (fun hheld => ?_)
    split
    · exact .idle hheld
    · next h =>
      simp only [Bool.or_eq_true, not_or, Bool.not_eq_true, bne_eq_false_iff_eq] at h
      exact .event ⟨fun h => absurd (hheld.symm.trans h) Bool.noConfusion, Instr.noConfusion⟩ (.silence h.1 h.2)
  | transmitFrameEnd =>
    change execTransmitFrameEnd s = .next t at he
    unfold execTransmitFrameEnd at he
    split at he
    · cases he; exact .still
    · next h => cases he; exact .sent (by simpa using h) rfl
  | unknownKind kind tag p =>
    change execUnknownKind kind tag p s = .next t at he
    unfold execUnknownKind at he
    split at he
    · cases he; exact .still
    · exact .unknown kind tag p he
  | modelStep st =>
    change execModelStep st s = .next t at he
    exact course_either Instr.noConfusion he (fun h => .modelStep h)
  | measuredPower u kw =>
    change execMeasuredPower u kw s = .next t at he
    exact course_happens he Instr.noConfusion (.measuredPower u kw)
  | decayTimeout u =>
    change execDecayTimeout u s = .next t at he
    exact course_happens he Instr.noConfusion (.decayTimeout u)
  | switchContacts u a b =>
    change execSwitchContacts u a b s = .next t at he
    exact course_switchContacts he
  | travelTimeout u =>
    change execTravelTimeout u s = .next t at he
    exact course_happens he Instr.noConfusion (.travelTimeout u)
  | settleExpiry u =>
    change execSettleExpiry u s = .next t at he
    exact course_happens he Instr.noConfusion (.settleExpiry u)
  | dwellExpiry u =>
    change execDwellExpiry u s = .next t at he
    exact course_happens he Instr.noConfusion (.dwellExpiry u)
  | unitFaultActive u =>
    change execUnitFaultActive u s = .next t at he
    exact course_lines Instr.noConfusion he (.faultLine u true _ (.inl rfl)) (.unitFault u)
  | unitFaultInactive u =>
    change execUnitFaultInactive u s = .next t at he
    exact course_lines Instr.noConfusion he (.faultLine u false _ (.inr rfl)) (.faultLine u false _ (.inr rfl))
  | pumpFaultActive =>
    change execPumpFaultActive s = .next t at he
    exact course_lines Instr.noConfusion he (.pumpLine true _ (.inl rfl)) .pumpFault
  | pumpFaultInactive =>
    change execPumpFaultInactive s = .next t at he
    exact course_lines Instr.noConfusion he (.pumpLine false _ (.inr rfl)) (.pumpLine false _ (.inr rfl))
  | allocationPass =>
    change execAllocationPass s = .next t at he
    exact course_happens he Instr.noConfusion .allocationPass
  | channelArrival k v =>
    change execChannelArrival k v s = .next t at he
    exact course_happens he Instr.noConfusion (.channel _ k _ (.inl ⟨v, rfl⟩))
  | channelTimeout k =>
    change execChannelTimeout k s = .next t at he
    exact course_either Instr.noConfusion he (fun _ => .channel _ k _ (.inr rfl))
  | flowPulse k =>
    change execFlowPulse k s = .next t at he
    exact course_happens he Instr.noConfusion (.flowPulse k)
  | circuitGate k =>
    change execCircuitGate k s = .next t at he
    exact course_happens he Instr.noConfusion (.circuitGate k)
  | programEvaluation p =>
    change execProgramEvaluation p s = .next t at he
    exact course_either Instr.noConfusion he (fun h => .programEvaluation (Bool.and_eq_true_iff.mp h).1)
  | permitExpiry id =>
    change execPermitExpiry id s = .next t at he
    exact course_permitExpiry he
  | shopStatus tag p => exact .request .shopStatus tag p rfl he
  | layout tag p => exact .request .layout tag p rfl he
  | tableRead tag p => exact .request .tableRead tag p rfl he
  | tableWrite tag p => exact .request .tableWrite tag p rfl he
  | restart tag p => exact .request .restart tag p rfl he
  | stationEnable tag p => exact .request .stationEnable tag p rfl he
  | stationDisable tag p => exact .request .stationDisable tag p rfl he
  | reline tag p => exact .request .reline tag p rfl he
  | charge tag p => exact .request .charge tag p rfl he
  | dip tag p => exact .request .dip tag p rfl he
  | transfer tag p => exact .request .transfer tag p rfl he
  | heatRead tag p => exact .request .heatRead tag p rfl he
  | heatLoad tag p => exact .request .heatLoad tag p rfl he
  | heatDeclare tag p => exact .request .heatDeclare tag p rfl he
  | heatEmpty tag p => exact .request .heatEmpty tag p rfl he
  | flagsClear tag p => exact .request .flagsClear tag p rfl he
  | dipHistory tag p => exact .request .dipHistory tag p rfl he
  | unitMode tag p => exact .request .unitMode tag p rfl he
  | changeover tag p => exact .request .changeover tag p rfl he
  | tripReset tag p => exact .request .tripReset tag p rfl he
  | intervalSync tag p => exact .request .intervalSync tag p rfl he
  | watchStatus tag p => exact .request .watchStatus tag p rfl he
  | ewClose tag p => exact .request .ewClose tag p rfl he
  | ladleRequest tag p => exact .request .ladleRequest tag p rfl he
  | ladleCancel tag p => exact .request .ladleCancel tag p rfl he
  | tapStart tag p => exact .request .tapStart tag p rfl he
  | tapDone tag p => exact .request .tapDone tag p rfl he
  | tapAbort tag p => exact .request .tapAbort tag p rfl he
  | queueRead tag p => exact .request .queueRead tag p rfl he

end

/-! ## What every command keeps -/

/-- A property that holds whatever the link holds, but for a silence that begins, and that every piece of shared work, every owner of an allowed
kind and the event `c` keep. -/
structure Kept (P : State → Prop) (allowed : RequestKind → Prop) (c : Instr) : Prop where
  link : ∀ s l, (l.silent = true → s.link.silent = true) → P s → P { s with link := l }
  shared : ∀ s t, SharedStep s t → P s → P t
  served : ∀ k s t, allowed k → Served s k t → P s → P t
  happens : ∀ s t, Happens s c t → P s → P t

namespace Kept

variable {P : State → Prop} {allowed : RequestKind → Prop} {c : Instr} (hP : Kept P allowed c) {s t : State}

/-- The property holds, and where a frame may be dispatched every kind is allowed. -/
def During (P : State → Prop) (allowed : RequestKind → Prop) (s : State) : Prop :=
  P s ∧ (s.dispatchOpen = true → ∀ k, allowed k)

include hP

theorem work (h : Shared s t) (hs : P s) : P t := h.keeps hP.shared hs

theorem onLink {f : Link → Link} (hf : (f s.link).silent = true → s.link.silent = true) (hs : P s) : P (s.onLink f) :=
  hP.link s _ hf hs

theorem nextFrame (hs : P s) : P (nextFrame s) := by
  rcases nextFrame_cases s with h | ⟨r, -, -, h⟩ | ⟨n, rest, -, -, -, h⟩ <;> rw [h]
  · exact hs
  · exact hP.link s _ id hs
  · exact hP.link s _ id hs

theorem serves {k : RequestKind} (hk : allowed k) (h : Serves s k t) (hs : P s) : P t := by
  rcases h with rfl | h
  · exact hs
  · exact hP.served k s t hk h hs

theorem judgeFrame (hall : ∀ k, allowed k) {f : Frame} (hs : P s) : P (judgeFrame f s).state := by
  unfold Machine.judgeFrame
  split
  · unfold judged
    split
    · exact hP.serves (hall _) ownerOf_serves hs
    · exact hs
  · exact hs

theorem dispatchWaiting (hall : ∀ k, allowed k) (hs : P s) : P (dispatchWaiting s) :=
  dispatchWaiting_keeps P (fun _ _ _ h _ _ => hP.nextFrame (hP.onLink id (hP.judgeFrame hall (hP.onLink id h)))) s hs

/-! ### The receiver -/

theorem validFrame (hs : P s) : P (validFrame s) := by
  unfold Machine.validFrame
  simp only
  split
  · exact hP.work (Shared.reexamined ((notify_shared _ ..).trans (recomputeMelting_shared _))) (hP.onLink (by simp) hs)
  · exact hP.onLink (by simp) hs

theorem acceptFrame {f : Frame} (hs : During P allowed s) : During P allowed (acceptFrame f s) := by
  obtain ⟨hs, hopen⟩ := hs
  have hvalid := hP.validFrame hs
  have hopenValid : (Machine.validFrame s).dispatchOpen = true → ∀ k, allowed k := fun h => hopen (validFrame_dispatchOpen ▸ h)
  unfold Machine.acceptFrame
  simp only
  split
  · cases hclosed : (Machine.validFrame s).dispatchOpen
    · rw [dispatchWaiting_closed]
      · exact ⟨hP.onLink id hvalid, hopenValid⟩
      · exact hclosed
    · exact ⟨hP.dispatchWaiting (hopenValid hclosed) (hP.onLink id hvalid), fun _ => hopenValid hclosed⟩
  · exact ⟨hP.onLink id hvalid, hopenValid⟩

theorem completeFrame {bytes : List Byte} (hs : During P allowed s) : During P allowed (completeFrame bytes s) := by
  unfold Machine.completeFrame
  split
  · exact hP.acceptFrame hs
  · exact ⟨hP.onLink id hs.1, hs.2⟩

theorem rxByte {b : Byte} (hs : During P allowed s) : During P allowed (rxByte s b) := by
  have hrx : ∀ r : Receiver, During P allowed (s.onLink (fun l => { l with receiver := r })) := fun r => ⟨hP.onLink id hs.1, hs.2⟩
  unfold Machine.rxByte
  split
  · exact hs
  · split
    · split
      · exact hrx _
      · exact hs
    · split
      · simp only
        split
        · exact hP.completeFrame (hrx _)
        · exact hrx _
      · split
        · exact ⟨hP.onLink id (hrx _).1, hs.2⟩
        · exact hrx _

theorem rxBytes {bytes : List Byte} (hopen : s.dispatchOpen = true → ∀ k, allowed k) (hs : P s) : P (rxBytes bytes s) :=
  (List.foldlRecOn (motive := During P allowed) bytes _ ⟨hs, hopen⟩ (fun _ h _ _ => hP.rxByte h)).1

theorem abandonFrame (hs : P s) : P (abandonFrame s) := by
  unfold Machine.abandonFrame
  split
  · exact hs
  · exact hP.onLink id (hP.onLink id hs)

/-! ### The commands -/

theorem serve {kind tag : Byte} {payload : List Byte} {judge : State → Answer} (he : serve kind tag payload judge s = .next t)
    (hs : P s) (hj : ∀ x, P x → P (judge x).state) : P t := by
  unfold Machine.serve at he
  split at he
  · split at he
    · next x hx =>
      have hpx : P x := by
        unfold State.takeHead at hx
        split at hx
        · cases hx; exact hs
        · split at hx
          · cases hx; exact hP.onLink id hs
          · cases hx
      cases he
      exact hP.nextFrame (hP.onLink id (hj x hpx))
    · cases he; exact hs
  · cases he; exact hs

theorem request {k : RequestKind} (hk : allowed k) {tag : Byte} {p : List Byte}
    (he : serveRequest k tag p (ownerOf k p) s = .next t) (hs : P s) : P t := by
  refine hP.serve he hs (fun x hx => ?_)
  unfold judged
  split
  · exact hP.serves hk ownerOf_serves hx
  · exact hx

/-- A command keeps the property, if the kind of a request, and of every frame that a link event may have dispatched, is allowed. -/
theorem exec (hkind : ∀ k tag p, c = commandOf k tag p → allowed k) (hdispatch : s.mayDispatch c = true → ∀ k, allowed k)
    (he : exec c s = .next t) (hs : P s) : P t := by
  cases exec_course he with
  | still => exact hs
  | reset _ h => exact hP.happens _ _ h hs
  | recorded _ h => exact hP.happens _ _ h hs
  | idle => exact hP.nextFrame hs
  | event _ h => exact hP.nextFrame (hP.happens _ _ h hs)
  | request k tag p hc h => exact hP.request (hkind k tag p hc) h hs
  | unknown kind tag p h => exact hP.serve h hs (fun _ hx => hx)
  | bytes _ bs hopen => exact hP.nextFrame (hP.rxBytes (hopen ▸ hdispatch) hs)
  | gap _ bs hopen => exact hP.nextFrame (hP.abandonFrame (hP.rxBytes (hopen ▸ hdispatch) hs))
  | broken _ bs hopen => exact hP.nextFrame (hP.onLink id (hP.abandonFrame (hP.rxBytes (hopen ▸ hdispatch) hs)))
  | mended => exact hP.nextFrame (hP.onLink id (hP.onLink id hs))
  | level => exact hP.onLink id hs
  | sent _ hopen =>
    have hend : P (Machine.nextFrame (endTransmission s)) := by
      refine hP.nextFrame ?_
      unfold endTransmission
      split
      · exact hP.onLink id hs
      · exact hs
    cases hrx : s.link.rx with
    | nil =>
      rw [dispatchWaiting_empty _ (nextFrame_rx.trans (endTransmission_rx.trans hrx))]
      exact hend
    | cons f rest => exact hP.dispatchWaiting (hdispatch (by simp [hopen, hrx])) hend

end Kept

/-- A property that all commands and a millisecond keep is kept by every step. -/
theorem step_keeps {P : State → Prop} (hP : ∀ c, Kept P (fun _ => True) c) (htick : ∀ x, P x → P (tick x))
    (hpending : ∀ x cs, P x → P { x with pending := cs }) {s t : State} (he : step s = .next t) (hs : P s) : P t := by
  unfold Machine.step at he
  split at he
  · exact (hP _).exec (fun _ _ _ _ => trivial) (fun _ _ => trivial) he (hpending s _ hs)
  · cases he; exact htick s hs

end Sys2Proof.Machine

/-!
PROOFS. What an owner does, as a run of small updates of its own and of shared work; so what commands leave standing: the settings, the linings,
the commands that wait, and of the link everything but its notices.
-/

namespace Sys2Proof.Machine

/-! ## The link but for its notices -/

/-- The link after one notice has been placed (R175, R176). -/
def Link.noted (l : Link) (n : Notice) : Link :=
  { l with notices := (placeNotice l.notices n).1, noticesLost := l.noticesLost || (placeNotice l.notices n).2 }

/-- A link that has changed by notices alone. -/
abbrev Noted : Link → Link → Prop := Relation.ReflTransGen (fun l m => ∃ n, m = l.noted n)

theorem notify_noted (s : State) (kind : NoticeKind) (subject : Nat) (v1 v2 v3 : Option Int) :
    Noted s.link (s.notify kind subject v1 v2 v3).link := .single ⟨_, rfl⟩

/-- Notices change the notice queue and its mark alone. -/
theorem Noted.alone {l m : Link} (h : Noted l m) : m = { l with notices := m.notices, noticesLost := m.noticesLost } := by
  induction h with
  | refl => rfl
  | tail _ hstep ih =>
    obtain ⟨n, rfl⟩ := hstep
    rw [ih]
    rfl

theorem Noted.depth {l m : Link} (h : Noted l m) (hl : l.notices.length ≤ 32) : m.notices.length ≤ 32 := by
  induction h with
  | refl => exact hl
  | tail _ hstep ih =>
    obtain ⟨n, rfl⟩ := hstep
    exact placeNotice_length _ n ih

/-! ## Deeds -/

/-- What a block may update by itself beside its readings and accounts: nothing; the floor (heats, tallies, valves and tap queue); the units; the
units and the run states of the watch programs; or all of it, with the stations' enables. -/
inductive Scope where
  | aside | floor | units | engine | all
  deriving DecidableEq

/-- The entry is of the same ladle and has gained neither a station nor a permit. -/
def QueueEntry.continues (d e : QueueEntry) : Prop :=
  e.ladle = d.ladle ∧ (e.station = none ∨ e.station = d.station) ∧ (e.permit = none ∨ e.permit.map Permit.id = d.permit.map Permit.id)

/-- One update that a block makes by itself. -/
inductive Update (sc : Scope) (s : State) : State → Prop where
  | aside (a : Allocator) (ch : Bank ChannelSt 16) (c : Bank CircuitSt 10) (r : Reservoir) (l : Lines) :
      Update sc s { s with alloc := a, channels := ch, circuits := c, reservoir := r, lines := l }
  | heat (st : Station) (f : StationHeat → StationHeat) (h : sc ∈ [Scope.floor, .all]) : Update sc s (s.onHeat st f)
  | tallies (n i o : Nat) (h : sc ∈ [Scope.floor, .all]) : Update sc s { s with heatCounter := n, inflow := i, outflow := o }
  | valves (v : Bank Bool 4) (h : sc ∈ [Scope.floor, .all]) : Update sc s { s with valves := v }
  | entry (i : Nat) (f : QueueEntry → QueueEntry) (hf : ∀ e : QueueEntry, e.continues (f e)) (h : sc ∈ [Scope.floor, .all]) :
      Update sc s (s.onEntry i f)
  | drop (i : Nat) (h : sc ∈ [Scope.floor, .all]) : Update sc s (s.dropEntry i)
  | join (e : QueueEntry) (he : e.station = none ∧ e.permit = none) (h : sc ∈ [Scope.floor, .all]) :
      Update sc s (s.withEntries (s.taps.entries ++ [e]))
  | unit (u : UnitId) (f : PowerUnit → PowerUnit) (h : sc ∈ [Scope.units, .engine, .all]) : Update sc s (s.onUnit u f)
  | runs (r : Bank RunState 16) (h : sc ∈ [Scope.engine, .all]) : Update sc s { s with runs := r }
  | enabled (e : Bank Bool 4) (h : sc = .all) : Update sc s { s with enabled := e }

/-- A run of updates of a scope and of shared work. -/
inductive Deed (sc : Scope) (s : State) : State → Prop where
  | refl : Deed sc s s
  | own {t x : State} (h : Deed sc s t) (k : Update sc t x) : Deed sc s x
  | shared {t x : State} (h : Deed sc s t) (k : SharedStep t x) : Deed sc s x

namespace Deed

variable {sc : Scope} {s t x : State}

theorem of_update (h : Update sc s t) : Deed sc s t := refl.own h

theorem trans (h : Deed sc s t) (k : Deed sc t x) : Deed sc s x := by
  induction k with
  | refl => exact h
  | own _ hk ih => exact ih.own hk
  | shared _ hk ih => exact ih.shared hk

theorem work (h : Deed sc s t) (k : Shared t x) : Deed sc s x := by
  induction k with
  | refl => exact h
  | tail _ hk ih => exact ih.shared hk

theorem of_shared (k : Shared s t) : Deed sc s t := refl.work k

theorem foldl {α : Type} {f : State → α → State} (h : ∀ s a, Deed sc s (f s a)) (xs : List α) (s : State) : Deed sc s (xs.foldl f s) :=
  List.foldlRecOn xs f refl (fun x hx a _ => hx.trans (h x a))

/-- Every update may be one of all. -/
theorem all (h : Deed sc s t) : Deed .all s t := by
  induction h with
  | refl => exact .refl
  | shared _ k ih => exact ih.shared k
  | own _ k ih =>
    refine ih.own ?_
    cases k with
    | aside a ch c r l => exact .aside a ch c r l
    | heat st f => exact .heat st f (by decide)
    | tallies n i o => exact .tallies n i o (by decide)
    | valves v => exact .valves v (by decide)
    | entry i f hf => exact .entry i f hf (by decide)
    | drop i => exact .drop i (by decide)
    | join e he => exact .join e he (by decide)
    | unit u f => exact .unit u f (by decide)
    | runs r => exact .runs r (by decide)
    | enabled e => exact .enabled e rfl

theorem ite {c : Prop} [Decidable c] (ht : Deed sc s t) (hx : Deed sc s x) : Deed sc s (if c then t else x) := by
  split
  · exact ht
  · exact hx

/-- A property that the updates of a scope and every piece of shared work keep. -/
theorem keeps {P : State → Prop} (hown : ∀ s t, Update sc s t → P s → P t) (hshared : ∀ s t, SharedStep s t → P s → P t)
    (h : Deed sc s t) (hs : P s) : P t := by
  induction h with
  | refl => exact hs
  | own _ hk ih => exact hown _ _ hk ih
  | shared _ hk ih => exact hshared _ _ hk ih

end Deed

/-! ## What stands -/

/-- Settings, linings, waiting commands and the hold of the reset line stand, and the link has changed by notices alone. -/
structure Standing (s t : State) : Prop where
  cfg : t.cfg = s.cfg
  linings : t.linings = s.linings
  pending : t.pending = s.pending
  resetHeld : t.resetHeld = s.resetHeld
  link : Noted s.link t.link

namespace Standing

theorem refl (s : State) : Standing s s := ⟨rfl, rfl, rfl, rfl, .refl⟩

theorem trans {a b c : State} (h : Standing a b) (k : Standing b c) : Standing a c :=
  ⟨k.cfg.trans h.cfg, k.linings.trans h.linings, k.pending.trans h.pending, k.resetHeld.trans h.resetHeld, h.link.trans k.link⟩

theorem of_step {s t : State} (h : SharedStep s t) : Standing s t := by
  refine ⟨h.internal.rest.cfg, h.internal.rest.linings, h.internal.rest.pending, h.internal.rest.resetHeld, ?_⟩
  cases h with
  | notice => exact notify_noted ..
  | _ => exact .refl

theorem of_update {sc : Scope} {s t : State} (h : Update sc s t) : Standing s t := by
  cases h <;> exact ⟨rfl, rfl, rfl, rfl, .refl⟩

end Standing

theorem Deed.standing {sc : Scope} {s t : State} (h : Deed sc s t) : Standing s t :=
  h.keeps (P := Standing s) (fun _ _ k hs => hs.trans (.of_update k)) (fun _ _ k hs => hs.trans (.of_step k)) (.refl s)

theorem Shared.standing {s t : State} (h : Shared s t) : Standing s t := (Deed.of_shared (sc := .floor) h).standing

section
variable {sc : Scope} (s : State)

/-! ### The blocks' own updates -/

theorem onHeat_deed (st : Station) (f : StationHeat → StationHeat) : Deed .floor s (s.onHeat st f) := .of_update (.heat st f (by decide))
theorem onRecord_deed (st : Station) (f : HeatRec → HeatRec) : Deed .floor s (s.onRecord st f) := .of_update (.heat st _ (by decide))
theorem dropEntry_deed (i : Nat) : Deed .floor s (s.dropEntry i) := .of_update (.drop i (by decide))
theorem inflow_deed (n : Nat) : Deed .floor s { s with inflow := n } := .of_update (.tallies s.heatCounter n s.outflow (by decide))
theorem outflow_deed (n : Nat) : Deed .floor s { s with outflow := n } := .of_update (.tallies s.heatCounter s.inflow n (by decide))
theorem advanceHeatNo_deed : Deed .floor s (advanceHeatNo s) := .of_update (.tallies _ s.inflow s.outflow (by decide))
theorem onCircuit_deed (k : Circuit) (f : CircuitSt → CircuitSt) : Deed sc s (s.onCircuit k f) :=
  .of_update (.aside s.alloc s.channels _ s.reservoir s.lines)
theorem onChannel_deed (k : Channel) (f : ChannelSt → ChannelSt) : Deed sc s (s.onChannel k f) :=
  .of_update (.aside s.alloc _ s.circuits s.reservoir s.lines)
theorem alloc_deed (a : Allocator) : Deed sc s { s with alloc := a } := .of_update (.aside a s.channels s.circuits s.reservoir s.lines)
theorem reservoir_deed (r : Reservoir) : Deed sc s { s with reservoir := r } :=
  .of_update (.aside s.alloc s.channels s.circuits r s.lines)
theorem lines_deed (l : Lines) : Deed sc s { s with lines := l } := .of_update (.aside s.alloc s.channels s.circuits s.reservoir l)
theorem unit_deed (u : UnitId) (f : PowerUnit → PowerUnit) : Deed .units s (s.onUnit u f) := .of_update (.unit u f (by decide))
theorem enabled_deed (e : Bank Bool 4) : Deed .all s { s with enabled := e } := .of_update (.enabled e rfl)
theorem runs_deed (r : Bank RunState 16) : Deed .engine s { s with runs := r } := .of_update (.runs r (by decide))
theorem onRun_deed (p : Program) (f : RunState → RunState) : Deed .engine s (s.onRun p f) := runs_deed s _

theorem notify_deed (kind : NoticeKind) (subject : Nat) (v1 v2 v3 : Option Int) : Deed sc s (s.notify kind subject v1 v2 v3) :=
  .of_shared (notify_shared s ..)

theorem openValve_deed (cause : Nat) (st : Station) : Deed .floor s (openValve cause s st) := by
  rcases openValve_cases s cause st with ⟨-, h⟩ | ⟨-, h⟩ <;> rw [h]
  · exact .refl
  · exact (Deed.of_update (.valves _ (by decide))).work (notify_shared ..)

theorem beginMetal_deed (st : Station) : Deed .floor s (beginMetal st s) := Deed.ite (openValve_deed s _ st) .refl

theorem enterEmpty_deed (st : Station) : Deed .floor s (enterEmpty st s) :=
  ((onHeat_deed s st _).work (closeValve_shared _ _ st)).work (recompute_shared _ st)

theorem toHold_deed (st : Station) : Deed .floor s (toHold st s) := (onRecord_deed s st _).work (recompute_shared _ st)

/-! ### Stations and heats -/

theorem markStation_deed (st : Station) (on : Bool) : Deed sc s (markStation st on s) :=
  (onCircuit_deed s (coilOf st) _).trans (onCircuit_deed _ (leadOf st) _)

theorem startPrograms_deed (which : Target → Bool) : Deed .engine s (startPrograms which s) := runs_deed s _

theorem enableStation_deed (st : Station) : Deed .all s (enableStation st s) := by
  refine Deed.work (Deed.trans (Deed.trans (t := s.onHeat st (fun _ => StationHeat.clear .empty)) (onHeat_deed s st _).all
    (enabled_deed _ (place s.enabled st true))) ?_) (reexamine_shared _)
  exact (markStation_deed _ st true).trans (startPrograms_deed _ _).all

theorem withdrawInto_deed (p : Program) (x : RunState) : Deed .engine s (withdrawInto p x s) :=
  (onRun_deed s p _).work (handMembership_shared _ ..)

theorem suspendPrograms_deed (st : Station) : Deed .engine s (suspendPrograms st s) :=
  Deed.foldl (fun s p => Deed.ite (withdrawInto_deed s p _) .refl) _ s

theorem tellOff_shared (st : Station) : Shared s (tellOff st s) := by
  unfold tellOff
  split
  · split
    · split
      · exact rejudge_shared s _
      · exact .refl
    · exact .refl
  · exact .refl

theorem disableStation_deed (st : Station) : Deed .all s (disableStation st s) := by
  refine Deed.work (Deed.trans ?_ (markStation_deed _ st false)) (Shared.reexamined (tellOff_shared _ st))
  refine Deed.trans (Deed.work ?_ (recompute_shared _ st)) (suspendPrograms_deed _ st).all
  exact (onHeat_deed s st _).all.trans (enabled_deed _ (place s.enabled st false))

theorem chargeRecord_deed (st : Station) (number mass : Nat) (grade : Option Grade) :
    Deed .floor s (chargeRecord st number mass grade s) := by
  refine Deed.ite (Deed.trans ?_ (beginMetal_deed _ st)) (onRecord_deed s st _)
  exact (onHeat_deed s st _).trans (advanceHeatNo_deed _)

/-- What follows the record of a CHARGE (R46, R47): OVERFILL for a charge that the room has cut, the inflow, the request. -/
def chargeFinished (st : Station) (mass room : Nat) (s : State) : State :=
  let s1 := if room < mass then raise .overfill st s else s
  recompute st { s1 with inflow := s1.inflow + min mass room }

theorem chargeFinished_deed (st : Station) (mass room : Nat) : Deed .floor s (chargeFinished st mass room s) := by
  refine Deed.work (Deed.trans ?_ (inflow_deed _ _)) (recompute_shared _ st)
  exact Deed.ite (Deed.of_shared (raise_shared s .overfill st)) .refl

/-- A taken CHARGE: its record, what follows it, and the re-examination that a change of phase prompts (R44 to R47). -/
theorem takeCharge_eq (st : Station) (number mass : Nat) (grade : Option Grade) : takeCharge st number mass grade s =
    if s.phase st = .melt then chargeFinished st mass (s.room st) (chargeRecord st number (min mass (s.room st)) grade s)
    else reexamine (chargeFinished st mass (s.room st) (chargeRecord st number (min mass (s.room st)) grade s)) := rfl

theorem takeCharge_deed (st : Station) (number mass : Nat) (grade : Option Grade) :
    Deed .floor s (takeCharge st number mass grade s) := by
  have hfinished := (chargeRecord_deed s st number (min mass (s.room st)) grade).trans
    (chargeFinished_deed _ st mass (s.room st))
  rw [takeCharge_eq]
  exact Deed.ite hfinished (hfinished.work (reexamine_shared _))

theorem applyReading_deed (st : Station) (temp : Nat) (origin : DipOrigin) (mark : Bool) :
    Deed .floor s (applyReading st temp origin mark s) :=
  Deed.ite ((onHeat_deed s st _).work (raise_shared _ .clamped st)) (onHeat_deed s st _)

theorem takeDip_deed (st : Station) (temp : Nat) : Deed .floor s (takeDip st temp s) := by
  have hread := applyReading_deed s st temp .lance true
  rw [takeDip_eq]
  refine Deed.work (Deed.work ?_ (recompute_shared _ st)) (readinessCheck_shared _ st)
  exact Deed.ite (hread.work (raise_shared _ .drift st)) hread

theorem receive_deed (b : Station) (mass tIn : Nat) (src : HeatRec) : Deed .floor s (receive b mass tIn src s) := by
  refine Deed.ite (Deed.trans ?_ (beginMetal_deed _ b)) (onRecord_deed s b _)
  exact (onHeat_deed s b _).trans (advanceHeatNo_deed _)

theorem takeTransfer_deed (a b : Station) (mass : Nat) : Deed .floor s (takeTransfer a b mass s) := by
  have hpoured : Deed .floor s (pourOut a mass s) := onRecord_deed s a _
  have hleft := Deed.ite (c := mass < (s.record a).liquid) (hpoured.work (recompute_shared _ a))
    (hpoured.trans (enterEmpty_deed _ a))
  exact (((hleft.trans (receive_deed _ b mass _ _)).work (raise_shared _ .mixed b)).work (recompute_shared _ b)).work
    (reexamine_shared _)

theorem establish_deed (st : Station) (r : HeatRec) (history : List DipEntry) : Deed .floor s (establish st r history s) :=
  ((onHeat_deed s st (StationHeat.begun r history)).trans (inflow_deed _ _)).work (Shared.reexamined (recompute_shared _ st))

/-! ### Units, watch programs and the reservoir -/

theorem releasePrograms_deed (u : UnitId) : Deed .engine s (releasePrograms u s) :=
  Deed.foldl (fun s p => Deed.ite (withdrawInto_deed s p _) .refl) _ s

theorem tripReset_deed (u : UnitId) : Deed .engine s (tripReset u s) :=
  ((Deed.of_update (.unit u _ (by decide))).trans (releasePrograms_deed _ u)).work (rejudge_shared _ u)

theorem takeSync_deed : Deed sc s (takeSync s) :=
  Deed.ite ((alloc_deed s _).trans (notify_deed ..)) (alloc_deed s _)

theorem refill_deed (refilled : Bool) : Deed sc s (refill refilled s) :=
  Deed.ite (reservoir_deed s _) .refl

/-! ### Ladles -/

theorem freeStation_deed (e : QueueEntry) : Deed .floor s (freeStation e s) := by
  unfold freeStation
  split
  · exact toHold_deed s _
  · exact .refl

theorem startTap_deed (i : Nat) (e : QueueEntry) : Deed .floor s (startTap i e s) := by
  have hstarted : Deed .floor s (s.onEntry i (fun e => { e with permit := e.permit.map (fun q => { q with started := true }) })) :=
    .of_update (.entry i _ (fun e => ⟨rfl, .inr rfl, .inr (by simp [Function.comp_def])⟩) (by decide))
  unfold startTap
  split
  · exact (hstarted.trans (onRecord_deed _ _ _)).work (Shared.reexamined (recompute_shared _ _))
  · exact hstarted

theorem endTap_deed (st : Station) : Deed .floor s (endTap st s) := Deed.ite (enterEmpty_deed s st) (toHold_deed s st)

theorem pourLadle_deed (st : Station) (mass : Nat) : Deed .floor s (pourLadle st mass s) :=
  (onRecord_deed s st _).trans (outflow_deed (pourOut st mass s) _)

theorem takeTapDone_deed (i : Nat) (st : Station) (poured temp : Nat) : Deed .floor s (takeTapDone i st poured temp s) := by
  have hpoured := pourLadle_deed s st poured
  have hread := Deed.ite (c := temp ≠ 0 ∧ 0 < ((pourLadle st poured s).record st).liquid)
    (hpoured.trans (applyReading_deed _ st temp .tap false)) hpoured
  exact ((hread.trans (dropEntry_deed _ i)).trans (endTap_deed _ st)).work (reexamine_shared _)

theorem settleAbort_deed (i : Nat) (st : Station) (massLeft : Nat) : Deed .floor s (settleAbort i st massLeft s) := by
  refine Deed.ite ((dropEntry_deed s i).trans (endTap_deed _ st)) (Deed.ite ?_ ?_)
  · refine Deed.trans (.of_update (.entry i (fun e => { e with mass := massLeft, permit := none, station := none })
      (fun _ => ⟨rfl, .inl rfl, .inl rfl⟩) (by decide))) (enterEmpty_deed _ st)
  · refine Deed.work (Deed.trans (.of_update (.entry i (fun e => { e with mass := massLeft, permit := none })
      (fun _ => ⟨rfl, .inr rfl, .inl rfl⟩) (by decide))) (onRecord_deed _ st (fun r => { r with phase := .superheat, dipMark := false })))
      (recompute_shared _ st)

theorem expirePermit_deed (i : Nat) (e : QueueEntry) (id : Nat) : Deed .floor s (expirePermit i e id s) := by
  refine Deed.ite ?_ ?_
  · exact (((dropEntry_deed s i).trans (freeStation_deed _ e)).trans (notify_deed ..)).work (reexamine_shared _)
  · exact Deed.trans (.of_update (.entry i (fun x => { x with permit := none, expiries := e.expiries + 1 })
      (fun _ => ⟨rfl, .inr rfl, .inl rfl⟩) (by decide))) (notify_deed ..)

/-! ### Requests -/

/-- The kinds of request that write the settings, a lining or the link's own marks. -/
def writes (k : RequestKind) : Prop :=
  k ∈ [RequestKind.shopStatus, .restart, .layout, .tableWrite, .reline, .unitMode]

/-- What the owner of a kind updates by itself. -/
def scopeOf (k : RequestKind) : Scope :=
  match k with
  | .stationEnable | .stationDisable => .all
  | .tripReset | .watchStatus => .engine
  | .changeover => .units
  | .intervalSync | .ewClose => .aside
  | _ => .floor

variable {s}

theorem served_deed {k : RequestKind} {t : State} (h : Served s k t) (hk : ¬ writes k) : Deed (scopeOf k) s t := by
  cases h with
  | stationEnable => exact enableStation_deed s _
  | stationDisable => exact disableStation_deed s _
  | charge => exact takeCharge_deed s ..
  | dipNoted => exact onHeat_deed s _ _
  | dip => exact takeDip_deed s ..
  | transfer => exact takeTransfer_deed s ..
  | heatLoad => exact establish_deed s ..
  | heatDeclare => exact (advanceHeatNo_deed s).trans (establish_deed _ ..)
  | heatEmpty => exact (enterEmpty_deed s _).work (reexamine_shared _)
  | flagsClear => exact onRecord_deed s _ _
  | waterClear => exact (onRecord_deed s _ _).work (reexamine_shared _)
  | changeover => exact unit_deed s _ _
  | tripReset => exact tripReset_deed s _
  | intervalSync => exact takeSync_deed s
  | watchStatus => exact runs_deed s _
  | ewClose => exact (Deed.of_shared (closeValve_shared s _ _)).trans (refill_deed _ _)
  | ladleRequest hstation hpermit => exact (Deed.of_update (.join _ ⟨hstation, hpermit⟩ (by decide))).work (reexamine_shared _)
  | ladleCancel => exact ((dropEntry_deed s _).trans (freeStation_deed _ _)).work (reexamine_shared _)
  | tapStart => exact startTap_deed s ..
  | tapDone => exact takeTapDone_deed s ..
  | tapAbort => exact ((pourLadle_deed s ..).trans (settleAbort_deed _ ..)).work (reexamine_shared _)
  | _ => exact absurd (by simp [writes]) hk

theorem served_standing {k : RequestKind} {t : State} (h : Served s k t) (hk : ¬ writes k) : Standing s t := (served_deed h hk).standing

end

end Sys2Proof.Machine

/-!
PROOFS. The requests that write the settings, and the events, as an update of their own followed by work that leaves the rest standing; that
every command answers a next state, and what commands leave as it was.
-/

namespace Sys2Proof.Machine

/-! ## Requests that write the settings -/

section
variable {sc : Scope} (s : State)

theorem adoptStation_deed (st : Station) : Deed .all s (adoptStation s st) :=
  Deed.ite ((onHeat_deed s st _).all.trans (enabled_deed _ (place s.enabled st true))) .refl

theorem adoptUnit_deed (u : UnitId) : Deed .all s (adoptUnit s u) := Deed.ite (unit_deed s u _).all .refl

theorem markEvaluated_deed : Deed sc s (markEvaluated s) := Deed.foldl (fun x k => onCircuit_deed x k _) _ s

/-- The state in which a layout takes effect (R3): the record and L_inst. -/
def State.laidOut (s : State) (l : Layout) : State := s.onCfg (fun c => { c with layout := l, shop := { c.shop with lInst := l.lInst } })

/-- What an accepted layout adopts (R3): its stations, its units, its circuits and its watch programs. -/
def adoptLayout (s : State) : State :=
  startPrograms (fun _ => true) (markEvaluated (allUnits.foldl adoptUnit (allStations.foldl adoptStation s)))

theorem takeLayout_eq (l : Layout) : takeLayout l s = reexamine (adoptLayout (s.laidOut l)) := rfl

theorem adoptLayout_deed : Deed .all s (adoptLayout s) := by
  have hstations := Deed.foldl adoptStation_deed allStations s
  have hunits := Deed.foldl adoptUnit_deed allUnits (allStations.foldl adoptStation s)
  exact ((hstations.trans hunits).trans (markEvaluated_deed _)).trans (startPrograms_deed _ _).all

theorem takeLayout_deed (l : Layout) : Deed .all (s.laidOut l) (takeLayout l s) := by
  rw [takeLayout_eq]
  exact (adoptLayout_deed _).work (reexamine_shared _)

/-- The state in which a SHOP write has the units evaluate (R21, R104, R178): record, estimates, sync-lost mark and silence timer. -/
def State.shopStored (s : State) (new : ShopRec) : State :=
  let s1 := s.onCfg (fun c => { c with shop := new })
  let s2 := if new.tMelt = s.cfg.shop.tMelt then s1 else { s1 with heats := overAll (moveMelting new.tMelt) s1.heats }
  let s3 := { s2 with alloc := { s2.alloc with syncLost := s2.alloc.syncLost && !(s.cfg.shop.demandSync && !new.demandSync) } }
  s3.onLink (fun l => { l with silenceTimer := if l.silent then l.silenceTimer else some (new.silenceTime * 1000) })

theorem evaluateAll_shared (us : List UnitId) : Shared s (us.foldl (fun s u => autoEvaluate u s) s) :=
  Shared.foldl (fun s u => autoEvaluate_shared s u) us s

theorem takeShop_shared (new : ShopRec) : Shared (s.shopStored new) (takeShop new s) := evaluateAll_shared _ _

theorem setMode_shared (u : UnitId) (m : UnitMode) : Shared (withMode u m s) (setMode u m s) := by
  unfold setMode
  simp only
  split
  · exact autoEvaluate_shared _ u
  · exact .refl

theorem rewriteRuns_deed (ps : List Program) : Deed .engine s (ps.foldl rewriteRun s) :=
  Deed.foldl (fun s p => onRun_deed s p _) ps s

theorem liningEdges_shared (before : State) (sts : List Station) :
    Shared s (sts.foldl (fun s' st => liningEdge st (look before.linings st) s') s) :=
  Shared.foldl (fun s st => liningEdge_shared s st _) sts s

/-! ## Events -/

theorem storeBathStep_shared (st : Station) :
    Shared { s.onHeat st (fun _ => (s.bathStepOf st).heat) with linings := place s.linings st (s.bathStepOf st).lining }
      (storeBathStep st s) := by
  have step : ∀ {a b : State} {c : Prop} [Decidable c] {g : State → State}, (∀ x, Shared x (g x)) → Shared a b →
      Shared a (if c then g b else b) := by
    intro a b c _ g hg h
    split
    · exact h.trans (hg b)
    · exact h
  unfold storeBathStep
  simp only
  refine step (fun x => notify_shared x ..) (step (fun x => raise_shared x _ st) (step (fun x => raise_shared x _ st) ?_))
  exact (step (fun x => raise_shared x _ st) .refl).trans (liningEdge_shared _ st _)

theorem modelStep_shared (st : Station) :
    Shared { s.onHeat st (fun _ => (s.bathStepOf st).heat) with linings := place s.linings st (s.bathStepOf st).lining }
      (modelStep st s) := by
  have hcomputed := (storeBathStep_shared s st).recomputed st
  unfold modelStep
  simp only
  split
  · exact hcomputed.reexamined.trans (stationChecks_shared _ st)
  · exact hcomputed.trans (stationChecks_shared _ st)

theorem takePower_deed (u : UnitId) (kw : Nat) : Deed .units s (takePower u kw s) := by
  have hword := unit_deed s u (fun p => { p with measured := min kw (s.powerTop u) })
  unfold takePower
  simp only
  split
  · exact Deed.ite ((hword.trans (unit_deed _ u _)).work (rejudge_shared _ u)) hword
  · exact hword

theorem decayExpired_deed (u : UnitId) : Deed .units s (decayExpired u s) := by
  unfold decayExpired
  split
  · exact (unit_deed s u _).work (enterInhibited_shared _ u _)
  · exact .refl

theorem noticeTripClear_shared (u : UnitId) : Shared s (noticeTripClear u s) := notify_shared s ..

theorem noticeChangeover_shared (u : UnitId) (how : ChangeoverEnd) : Shared s (noticeChangeover u how s) := notify_shared s ..

theorem endTravel_deed (u : UnitId) (t : Station) : Deed .units s (endTravel u t s) := by
  have hended := unit_deed s u (fun p => { p with position := some t, travel := none })
  unfold endTravel
  simp only
  split
  · refine Deed.ite (Deed.work ?_ (Shared.reexamined (noticeTripClear_shared _ u)))
      (hended.work (noticeChangeover_shared _ u _))
    exact hended.trans (unit_deed _ u _)
  · exact hended.trans (unit_deed _ u _)

theorem takeContacts_deed (u : UnitId) : Deed .units s (takeContacts u s) := by
  unfold takeContacts
  split
  · exact Deed.ite (endTravel_deed s u _) .refl
  · exact (unit_deed s u _).work (rejudge_shared _ u)

theorem travelExpired_deed (u : UnitId) : Deed .units s (travelExpired u s) := by
  unfold travelExpired
  split
  · refine Deed.ite ((unit_deed s u _).work (noticeChangeover_shared _ u _)) ?_
    exact (unit_deed s u _).work (enterInhibited_shared _ u _)
  · exact .refl

theorem settled_deed (u : UnitId) : Deed .units s (settled u s) := by
  unfold settled
  split
  · exact ((unit_deed s u _).work (noticeChangeover_shared _ u _)).work (autoEvaluate_shared _ u)
  · exact .refl

theorem dwellReached_deed (u : UnitId) : Deed .units s (dwellReached u s) :=
  Deed.ite ((unit_deed s u _).work (autoEvaluate_shared _ u)) .refl

theorem onCauses_deed (u : UnitId) (f : Causes → Causes) : Deed .units s (onCauses u f s) := unit_deed s u _

/-- The pump cause entered on both units (R72). -/
def pumpEntered (s : State) : State := allUnits.foldl (fun s u => onCauses u (fun c => { c with pump := true }) s) s

theorem pumpFails_eq : pumpFails s =
    allStations.foldl (openIfMetal causePump) (allUnits.foldl (fun s u => rejudge u s) (pumpEntered s)) := rfl

/-- What a pump fault brings after its causes: both units re-judged, then the valves. -/
theorem pumpFails_shared : Shared (pumpEntered s) (pumpFails s) := by
  rw [pumpFails_eq]
  generalize pumpEntered s = x
  exact (Shared.foldl (fun x u => rejudge_shared x u) allUnits x).trans
    (Shared.foldl (fun x st => openIfMetal_shared x causePump st) allStations _)

theorem pumpEntered_deed : Deed .units s (pumpEntered s) := Deed.foldl (fun x u => onCauses_deed x u _) allUnits s

theorem pumpFails_deed : Deed .units s (pumpFails s) := (pumpEntered_deed s).work (pumpFails_shared s)

theorem accountStage_deed : Deed sc s (accountStage s) := by
  unfold accountStage
  simp only
  refine Deed.ite (Deed.ite ?_ (alloc_deed s _)) (Deed.ite (alloc_deed s _) (alloc_deed s _))
  exact (alloc_deed s _).trans (notify_deed ..)

theorem flushStage_deed (limit : Nat) (basis : State) (u : UnitId) : Deed sc s (flushStage limit basis s u) := by
  unfold flushStage
  simp only
  refine Deed.ite ?_ (alloc_deed s _)
  split
  · exact (alloc_deed s _).work (raise_shared _ .underrun _)
  · exact alloc_deed s _

theorem allocationPass_deed : Deed .units s (allocationPass s) := by
  rw [allocationPass_eq]
  have hbasis : Deed .units s (passBasis s) := (accountStage_deed s).trans (alloc_deed _ _)
  refine hbasis.trans ?_
  exact (Deed.foldl (fun x u => flushStage_deed x _ _ u) allUnits _).trans
    (Deed.foldl (fun x u => unit_deed x u _) allUnits _)

theorem reportLevel_deed (code drawn volume : Nat) (reached : Prop) [Decidable reached] (mark : Bool) :
    Deed sc s (s.reportLevel code drawn volume reached mark) := Deed.ite (notify_deed s ..) .refl

theorem judgeLevels_deed : Deed sc s (judgeLevels s) := by
  rw [judgeLevels_eq]
  exact ((reservoir_deed s _).trans (reportLevel_deed ..)).trans (reportLevel_deed ..)

theorem addDraw_deed (n : Nat) : Deed sc s (addDraw n s) := (reservoir_deed s _).trans (judgeLevels_deed _)

theorem circuitGate_deed (k : Circuit) : Deed sc s (circuitGate k s) := by
  have hmeasured := onCircuit_deed (sc := sc) s k (fun _ => s.gated k)
  unfold circuitGate
  simp only
  split
  · exact (Deed.ite (hmeasured.trans (addDraw_deed _ _)) hmeasured).work (evaluateIfOther_shared _ _)
  · exact hmeasured

theorem handOn_deed (p : Program) (v : Option Int) (h : Handed) : Deed .engine s (handOn p v h s) := by
  have hrun := onRun_deed s p (fun _ => h.run)
  have hcleared : Deed .engine s (match h.cleared with
      | some a => noticeWatch p 3 a v (s.onRun p (fun _ => h.run))
      | none => s.onRun p (fun _ => h.run)) := by
    split
    · exact hrun.trans (notify_deed ..)
    · exact hrun
  have hset := hcleared.work (handMembership_shared _ (s.program p).target (s.held p)
    ((s.onRun p (fun _ => h.run)).held p) (s.targetBarred (s.program p).target))
  unfold handOn
  simp only
  split
  · exact hset.work (handEntry_shared _ p _ _ v)
  · exact hset

theorem rereadUnit_deed (u : UnitId) : Deed .units s (rereadUnit s u) := by
  unfold rereadUnit
  exact unit_deed s u _

theorem waterUnknown_shared : Shared s (waterUnknown s) := by
  unfold waterUnknown
  split
  · exact Shared.foldl (fun x st => openIfMetal_shared x _ st) _ _
  · exact .refl

theorem resume_deed : Deed .units { s with resetHeld := false, clockMs := 0 } (resume s) :=
  (Deed.foldl rereadUnit_deed allUnits _).work (waterUnknown_shared _)

theorem resume_standing : Standing { s with resetHeld := false, clockMs := 0 } (resume s) := (resume_deed s).standing

variable {s}

/-- The events that leave settings and linings standing: all but the power-on, the reset line, the restart, the silence and the model step. -/
def stands : Instr → Prop
  | .powerOn | .resetLineActive | .resetLineReleased | .restartTakesEffect | .silenceTimerExpiry | .modelStep _ => False
  | _ => True

/-- What an event updates by itself. -/
def eventScope : Instr → Scope
  | .programEvaluation _ => .engine
  | .permitExpiry _ => .floor
  | .measuredPower _ _ | .decayTimeout _ | .switchContacts _ _ _ | .travelTimeout _ | .settleExpiry _ | .dwellExpiry _
  | .unitFaultActive _ | .pumpFaultActive | .allocationPass => .units
  | _ => .aside

theorem happens_deed {c : Instr} {t : State} (h : Happens s c t) (hc : stands c) : Deed (eventScope c) s t := by
  cases h with
  | measuredPower u kw => exact takePower_deed s u kw
  | decayTimeout u => exact decayExpired_deed s u
  | contacts => exact lines_deed s _
  | switchContacts u => exact (lines_deed s _).trans (takeContacts_deed _ u)
  | travelTimeout u => exact travelExpired_deed s u
  | settleExpiry u => exact settled_deed s u
  | dwellExpiry u => exact dwellReached_deed s u
  | faultLine => exact lines_deed s _
  | unitFault u => exact ((lines_deed s _).trans (onCauses_deed _ u _)).work (rejudge_shared _ u)
  | pumpLine => exact lines_deed s _
  | pumpFault => exact (lines_deed s _).trans (pumpFails_deed _)
  | allocationPass => exact allocationPass_deed s
  | channel _ k x => exact onChannel_deed s k _
  | flowPulse k => exact onCircuit_deed s k _
  | circuitGate k => exact circuitGate_deed s k
  | programEvaluation => exact handOn_deed s ..
  | permitExpiry => exact expirePermit_deed s ..
  | _ => exact hc.elim

theorem happens_standing {c : Instr} {t : State} (h : Happens s c t) (hc : stands c) : Standing s t := (happens_deed h hc).standing

/-! ## The commands that wait (log entry 5) -/

theorem served_pending {k : RequestKind} {t : State} (h : Served s k t) : t.pending = s.pending := by
  by_cases hk : writes k
  · cases h with
    | shopStatus => rfl
    | restart => rfl
    | layout => exact (takeLayout_deed s _).standing.pending
    | writeShop r =>
      refine (takeShop_shared s _).internal.rest.pending.trans ?_
      unfold State.shopStored
      simp only
      split <;> rfl
    | writeStation => exact (reexamine_internal _).rest.pending
    | writeUnit => exact (evaluateAll_shared _ _).internal.rest.pending
    | writeCircuit => rfl
    | writeProgram => exact (rewriteRuns_deed _ _).standing.pending
    | writeGrade => rfl
    | writeLining => exact (liningEdges_shared _ s _).internal.rest.pending
    | reline => rfl
    | unitMode u m => exact (setMode_shared s u m).internal.rest.pending
    | _ => exact absurd hk (by simp [writes])
  · exact (served_standing h hk).pending

theorem happens_pending {c : Instr} {t : State} (h : Happens s c t) : t.pending = s.pending := by
  by_cases hc : stands c
  · exact (happens_standing h hc).pending
  · cases h with
    | powerOn => rfl
    | hold => rfl
    | resume => exact (resume_standing s).pending
    | restart => exact (resume_standing _).pending
    | silence => exact (recomputeMelting_shared _).internal.rest.pending
    | modelStep => exact (modelStep_shared s _).internal.rest.pending
    | faultLine => rfl
    | pumpLine => rfl
    | channel => rfl
    | _ => exact absurd trivial hc

theorem whileRunning_next (f : State → State) (s : State) : ∃ t, whileRunning f s = .next t := by
  rcases whileRunning_cases f s with ⟨-, h⟩ | ⟨-, h⟩ <;> exact ⟨_, h⟩

theorem serve_next (kind tag : Byte) (payload : List Byte) (judge : State → Answer) (s : State) :
    ∃ t, serve kind tag payload judge s = .next t := by
  unfold serve
  split
  · split <;> exact ⟨_, rfl⟩
  · exact ⟨_, rfl⟩

/-- No command stops the part. -/
theorem exec_next (c : Instr) (s : State) : ∃ t, exec c s = .next t := by
  cases c with
  | powerOn => exact ⟨_, rfl⟩
  | resetLineActive => show ∃ t, execResetLineActive s = .next t; unfold execResetLineActive; split <;> exact ⟨_, rfl⟩
  | resetLineReleased => show ∃ t, execResetLineReleased s = .next t; unfold execResetLineReleased; split <;> exact ⟨_, rfl⟩
  | restartTakesEffect => show ∃ t, execRestartTakesEffect s = .next t; unfold execRestartTakesEffect; split <;> exact ⟨_, rfl⟩
  | lineBreak bytes => show ∃ t, execLineBreak bytes s = .next t; unfold execLineBreak; split <;> exact ⟨_, rfl⟩
  | transmitFrameEnd => show ∃ t, execTransmitFrameEnd s = .next t; unfold execTransmitFrameEnd; split <;> exact ⟨_, rfl⟩
  | unknownKind kind tag payload =>
    show ∃ t, execUnknownKind kind tag payload s = .next t
    unfold execUnknownKind
    split
    · exact ⟨_, rfl⟩
    · exact serve_next ..
  | frameReceived bytes => exact (whileRunning_next _ _ : ∃ t, execFrameReceived bytes s = .next t)
  | interByteGap bytes => exact (whileRunning_next _ _ : ∃ t, execInterByteGap bytes s = .next t)
  | frameLenAbandoned len => exact (whileRunning_next _ _ : ∃ t, execFrameLenAbandoned len s = .next t)
  | breakEnd => exact (whileRunning_next _ _ : ∃ t, execBreakEnd s = .next t)
  | silenceTimerExpiry => exact (whileRunning_next _ _ : ∃ t, execSilenceTimerExpiry s = .next t)
  | modelStep st => exact (whileRunning_next _ _ : ∃ t, execModelStep st s = .next t)
  | measuredPower u kw => exact (whileRunning_next _ _ : ∃ t, execMeasuredPower u kw s = .next t)
  | decayTimeout u => exact (whileRunning_next _ _ : ∃ t, execDecayTimeout u s = .next t)
  | switchContacts u a b => exact (whileRunning_next _ _ : ∃ t, execSwitchContacts u a b s = .next t)
  | travelTimeout u => exact (whileRunning_next _ _ : ∃ t, execTravelTimeout u s = .next t)
  | settleExpiry u => exact (whileRunning_next _ _ : ∃ t, execSettleExpiry u s = .next t)
  | dwellExpiry u => exact (whileRunning_next _ _ : ∃ t, execDwellExpiry u s = .next t)
  | unitFaultActive u => exact (whileRunning_next _ _ : ∃ t, execUnitFaultActive u s = .next t)
  | unitFaultInactive u => exact (whileRunning_next _ _ : ∃ t, execUnitFaultInactive u s = .next t)
  | pumpFaultActive => exact (whileRunning_next _ _ : ∃ t, execPumpFaultActive s = .next t)
  | pumpFaultInactive => exact (whileRunning_next _ _ : ∃ t, execPumpFaultInactive s = .next t)
  | allocationPass => exact (whileRunning_next _ _ : ∃ t, execAllocationPass s = .next t)
  | channelArrival k v => exact (whileRunning_next _ _ : ∃ t, execChannelArrival k v s = .next t)
  | channelTimeout k => exact (whileRunning_next _ _ : ∃ t, execChannelTimeout k s = .next t)
  | flowPulse k => exact (whileRunning_next _ _ : ∃ t, execFlowPulse k s = .next t)
  | circuitGate k => exact (whileRunning_next _ _ : ∃ t, execCircuitGate k s = .next t)
  | programEvaluation p => exact (whileRunning_next _ _ : ∃ t, execProgramEvaluation p s = .next t)
  | permitExpiry id => exact (whileRunning_next _ _ : ∃ t, execPermitExpiry id s = .next t)
  | _ => exact serve_next ..

theorem kept_pending (cs : List Instr) (c : Instr) : Kept (fun s => s.pending = cs) (fun _ => True) c where
  link := fun _ _ _ hs => hs
  shared := fun _ _ h hs => h.internal.rest.pending.trans hs
  served := fun _ _ _ _ h hs => (served_pending h).trans hs
  happens := fun _ _ h hs => (happens_pending h).trans hs

/-- Settles O3: every command is a state's change, made of work that leaves the waiting commands alone. -/
theorem everyCommandAnswersNext : Obligations.EveryCommandAnswersNext := by
  intro c s
  obtain ⟨t, ht⟩ := exec_next c s
  exact ⟨t, ht, (kept_pending s.pending c).exec (fun _ _ _ _ => trivial) (fun _ _ => trivial) ht rfl⟩

end

end Sys2Proof.Machine

/-!
PROOFS. The layout and the linings change by their own commands alone; every field of the settings stays within its range.
-/

namespace Sys2Proof.Machine

variable {s t : State}

/-! ## The settings after each command -/

theorem resume_cfg (x : State) : (resume x).cfg = x.cfg ∧ (resume x).linings = x.linings :=
  ⟨(resume_standing x).cfg, (resume_standing x).linings⟩

theorem takeLayout_cfg (x : State) (l : Layout) : (takeLayout l x).cfg = (x.laidOut l).cfg := (takeLayout_deed x l).standing.cfg

theorem shopStored_cfg (x : State) (new : ShopRec) : (x.shopStored new).cfg = { x.cfg with shop := new } := by
  unfold State.shopStored
  simp only
  split <;> rfl

theorem shopStored_linings (x : State) (new : ShopRec) : (x.shopStored new).linings = x.linings := by
  unfold State.shopStored
  simp only
  split <;> rfl

theorem Shared.cfg {a b : State} (h : Shared a b) : b.cfg = a.cfg := h.internal.rest.cfg
theorem Shared.linings {a b : State} (h : Shared a b) : b.linings = a.linings := h.internal.rest.linings

/-- A loaded layout stands whatever a request does (R2: a second LAYOUT is refused). -/
theorem served_layout {k : RequestKind} (h : Served s k t) (hl : s.cfg.layout.loaded = true) : t.cfg.layout = s.cfg.layout := by
  by_cases hk : writes k
  · cases h with
    | shopStatus => rfl
    | restart => rfl
    | layout hblank => exact absurd hl (by simp [hblank])
    | writeShop r => exact (congrArg Settings.layout (takeShop_shared s _).cfg).trans (by rw [shopStored_cfg])
    | writeStation => exact (congrArg Settings.layout (reexamine_shared _).cfg).trans rfl
    | writeUnit => exact (congrArg Settings.layout (evaluateAll_shared _ _).cfg).trans rfl
    | writeCircuit => rfl
    | writeProgram => exact (congrArg Settings.layout (rewriteRuns_deed _ _).standing.cfg).trans rfl
    | writeGrade => rfl
    | writeLining => exact (congrArg Settings.layout (liningEdges_shared _ s _).cfg).trans rfl
    | reline => rfl
    | unitMode u m => exact (congrArg Settings.layout (setMode_shared s u m).cfg).trans rfl
    | _ => exact absurd hk (by simp [writes])
  · exact congrArg Settings.layout (served_standing h hk).cfg

/-- Only a table write and a RELINE change a lining. -/
theorem served_linings {k : RequestKind} (h : Served s k t) (hwrite : k ≠ .tableWrite) (hreline : k ≠ .reline) :
    t.linings = s.linings := by
  by_cases hk : writes k
  · cases h with
    | shopStatus => rfl
    | restart => rfl
    | layout => exact (takeLayout_deed s _).standing.linings
    | reline => exact absurd rfl hreline
    | unitMode u m => exact (setMode_shared s u m).linings
    | _ => first | exact absurd rfl hwrite | exact absurd hk (by simp [writes])
  · exact (served_standing h hk).linings

/-- Only the power-on changes the settings in an event. -/
theorem happens_cfg {c : Instr} (h : Happens s c t) (hc : c ≠ .powerOn) : t.cfg = s.cfg := by
  by_cases hk : stands c
  · exact (happens_standing h hk).cfg
  · cases h with
    | powerOn => exact absurd rfl hc
    | hold => rfl
    | resume => exact (resume_standing s).cfg
    | restart => exact (resume_standing _).cfg
    | silence => exact (recomputeMelting_shared _).cfg
    | modelStep => exact (modelStep_shared s _).cfg
    | faultLine => rfl
    | pumpLine => rfl
    | channel => rfl
    | _ => exact absurd trivial hk

theorem happens_linings {c : Instr} (h : Happens s c t) (hc : c ≠ .powerOn) (hstep : ∀ st, c ≠ .modelStep st) :
    t.linings = s.linings := by
  by_cases hk : stands c
  · exact (happens_standing h hk).linings
  · cases h with
    | powerOn => exact absurd rfl hc
    | hold => rfl
    | resume => exact (resume_standing s).linings
    | restart => exact (resume_standing _).linings
    | silence => exact (recomputeMelting_shared _).linings
    | modelStep => exact absurd rfl (hstep _)
    | faultLine => rfl
    | pumpLine => rfl
    | channel => rfl
    | _ => exact absurd trivial hk

theorem kept_layout {l : Layout} (hl : l.loaded = true) {c : Instr} (hc : c ≠ .powerOn) :
    Kept (fun s => s.cfg.layout = l) (fun _ => True) c where
  link := fun _ _ _ hs => hs
  shared := fun _ _ h hs => (congrArg Settings.layout h.internal.rest.cfg).trans hs
  served := fun _ _ _ _ h hs => (served_layout h (hs ▸ hl)).trans hs
  happens := fun _ _ h hs => (congrArg Settings.layout (happens_cfg h hc)).trans hs

theorem kept_linings {b : Bank LiningRec 4} {c : Instr} (hc : c ≠ .powerOn) (hstep : ∀ st, c ≠ .modelStep st) :
    Kept (fun s => s.linings = b) (fun k => k ≠ .tableWrite ∧ k ≠ .reline) c where
  link := fun _ _ _ hs => hs
  shared := fun _ _ h hs => h.internal.rest.linings.trans hs
  served := fun _ _ _ hk h hs => (served_linings h hk.1 hk.2).trans hs
  happens := fun _ _ h hs => (happens_linings h hc hstep).trans hs

/-- Settles O14: of the requests LAYOUT alone writes the layout, and refuses where one is loaded; only the named commands write a lining. -/
theorem layoutAndLiningsChangeOnlyByTheirCommands : Obligations.LayoutAndLiningsChangeOnlyByTheirCommands := by
  intro c s t he hc
  refine ⟨fun hl => ?_, fun hclosed hstep hwrite hreline => ?_⟩
  · exact (kept_layout hl hc).exec (fun _ _ _ _ => trivial) (fun _ _ => trivial) he rfl
  · refine (kept_linings hc hstep).exec (fun k tag p hk => ⟨?_, ?_⟩) (fun hopen => absurd hopen (by simp [hclosed])) he rfl
    · rintro rfl
      exact hwrite tag p hk
    · rintro rfl
      exact hreline tag p hk

/-! ## Storing records -/

section
variable {α : Type} {n : Nat}

theorem look_storeFrom (xs : List α) (b : Bank α n) (first : Nat) (i : Fin n) :
    look (storeFrom b first xs) i = if first ≤ i.val then (xs[i.val - first]?).getD (look b i) else look b i := by
  induction xs generalizing b first with
  | nil => simp [storeFrom]
  | cons x xs ih =>
    rw [storeFrom, ih]
    rcases Nat.lt_trichotomy first i.val with h | h | h
    · have hsucc : i.val - first = (i.val - (first + 1)) + 1 := by omega
      rw [if_pos (by omega), if_pos (by omega), hsucc, List.getElem?_cons_succ]
      split
      · rw [look_place_ne _ _ (by simp [Fin.ext_iff]; omega)]
      · rfl
    · subst h
      simp [i.isLt]
    · rw [if_neg (by omega), if_neg (by omega)]
      split
      · rw [look_place_ne _ _ (by simp [Fin.ext_iff]; omega)]
      · rfl

theorem look_storeFrom_outside {xs : List α} {b : Bank α n} {first : Nat} {i : Fin n}
    (h : ¬ (first ≤ i.val ∧ i.val < first + xs.length)) : look (storeFrom b first xs) i = look b i := by
  rw [look_storeFrom]
  split
  · rw [List.getElem?_eq_none (by omega)]; rfl
  · rfl

theorem look_storeFrom_inside {xs : List α} {b : Bank α n} {first : Nat} {i : Fin n} {x : α} (h : first ≤ i.val)
    (hx : xs[i.val - first]? = some x) : look (storeFrom b first xs) i = x := by rw [look_storeFrom, if_pos h, hx]; rfl

/-- What every record stored and every record before has, every record has. -/
theorem storeFrom_all {Q : Fin n → α → Prop} {b : Bank α n} {first : Nat} {xs : List α} (hb : ∀ i, Q i (look b i))
    (hxs : ∀ (i : Fin n) x, first ≤ i.val → xs[i.val - first]? = some x → Q i x) (i : Fin n) : Q i (look (storeFrom b first xs) i) := by
  rw [look_storeFrom]
  split
  · next h =>
    cases hx : xs[i.val - first]? with
    | none => exact hb i
    | some x => exact hxs i x h hx
  · exact hb i

/-- What every record stored has by itself. -/
theorem storeFrom_mem {Q : α → Prop} {b : Bank α n} {first : Nat} {xs : List α} (hb : ∀ i, Q (look b i)) (hxs : ∀ x ∈ xs, Q x)
    (i : Fin n) : Q (look (storeFrom b first xs) i) :=
  storeFrom_all (Q := fun _ => Q) hb (fun _ x _ hx => hxs x (List.mem_of_getElem? hx)) i

/-- The records of a write, each read from its own bytes. -/
theorem recordsOf_get {parse : List Byte → Option α} {size count : Nat} {b : List Byte} {xs : List α}
    (h : recordsOf parse size count b = some xs) : xs.length = count ∧ ∀ j < count, parse ((b.drop (j * size)).take size) = xs[j]? := by
  induction count generalizing b xs with
  | zero =>
    cases h
    exact ⟨rfl, fun j hj => absurd hj (Nat.not_lt_zero j)⟩
  | succ count ih =>
    unfold recordsOf at h
    split at h
    · next x hx =>
      obtain ⟨ys, hys, rfl⟩ := Option.map_eq_some_iff.mp h
      obtain ⟨hlen, hget⟩ := ih hys
      refine ⟨by simp [hlen], fun j hj => ?_⟩
      cases j with
      | zero => simpa using hx
      | succ j => rw [List.getElem?_cons_succ, ← hget j (by omega), List.drop_drop, Nat.succ_mul, Nat.add_comm]
    · cases h

/-- A write cannot be read exactly if one of its records cannot. -/
theorem recordsOf_eq_none {parse : List Byte → Option α} {size count : Nat} {b : List Byte} :
    recordsOf parse size count b = none ↔ ∃ j < count, parse ((b.drop (j * size)).take size) = none := by
  induction count generalizing b with
  | zero => simp [recordsOf]
  | succ count ih =>
    have hshift : ∀ j, (b.drop size).drop (j * size) = b.drop ((j + 1) * size) := by
      intro j; rw [List.drop_drop, Nat.succ_mul, Nat.add_comm]
    unfold recordsOf
    split
    · next x hx =>
      rw [Option.map_eq_none_iff, ih]
      constructor
      · rintro ⟨j, hj, hnone⟩
        exact ⟨j + 1, by omega, hshift j ▸ hnone⟩
      · rintro ⟨j, hj, hnone⟩
        cases j with
        | zero => simp [hx] at hnone
        | succ j => exact ⟨j, by omega, by rw [hshift]; exact hnone⟩
    · next hnone => exact ⟨fun _ => ⟨0, by omega, by simpa using hnone⟩, fun _ => rfl⟩

/-- Every record of a write has been read. -/
theorem recordsOf_mem {parse : List Byte → Option α} {size count : Nat} {b : List Byte} {xs : List α}
    (h : recordsOf parse size count b = some xs) {x : α} (hx : x ∈ xs) : ∃ b', parse b' = some x := by
  obtain ⟨hlen, hget⟩ := recordsOf_get h
  obtain ⟨j, hj, rfl⟩ := List.mem_iff_getElem.mp hx
  exact ⟨_, (hget j (by omega)).trans (List.getElem?_eq_getElem hj)⟩

end

/-- The stations of a write inside the table, in order. -/
theorem coveredStations_eq {first count : Nat} (h : first + count ≤ 4) :
    coveredStations first count = (allStations.drop first).take count := by
  have small : ∀ first < 5, ∀ count < 5, first + count ≤ 4 → coveredStations first count = (allStations.drop first).take count := by
    decide
  exact small first (by omega) count (by omega) h

theorem allStations_get (st : Station) : allStations[st.val]? = some st := by
  revert st
  decide

theorem coveredStations_get {first count : Nat} (h : first + count ≤ 4) {st : Station} (hst : first ≤ st.val)
    (hlast : st.val < first + count) : (coveredStations first count)[st.val - first]? = some st := by
  rw [coveredStations_eq h, List.getElem?_take_of_lt (by omega), List.getElem?_drop, Nat.add_sub_cancel' hst]
  exact allStations_get st

theorem coveredStations_length {first count : Nat} (h : first + count ≤ 4) : (coveredStations first count).length = count := by
  rw [coveredStations_eq h, List.length_take, List.length_drop]
  have : allStations.length = 4 := rfl
  omega

end Sys2Proof.Machine

/-!
PROOFS. The settings invariant: what each write stores lies in its ranges, and nothing else writes.
-/

namespace Sys2Proof.Machine

/-! ## Fields brought into their ranges -/

theorem clampTo_clampTo {lo hi x : Nat} (h : lo ≤ hi) : clampTo lo hi (clampTo lo hi x) = clampTo lo hi x := by
  unfold clampTo; omega

theorem contractFor_idem (n : Nat) : contractFor (contractFor n) = contractFor n := by
  unfold contractFor clampTo
  split
  · rfl
  · rw [if_neg (by omega)]; omega

/-- An interval in its range is a whole number of minutes (R104). -/
theorem interval_idem (n : Nat) : clampTo 300 3600 (clampTo 300 3600 (n / 60 * 60) / 60 * 60) = clampTo 300 3600 (n / 60 * 60) := by
  unfold clampTo; omega

theorem ShopRec.clamped_idem (r : ShopRec) (lInst : Nat) (h : clampTo 500 16000 lInst = lInst) :
    { r.clamped with lInst := lInst }.clamped = { r.clamped with lInst := lInst } := by
  have hstop : clampTo 200 450 r.coolStart + 20 ≤ 600 := by unfold clampTo; omega
  simp only [ShopRec.clamped, clampTo_clampTo, contractFor_idem, interval_idem, h, hstop, Nat.zero_le, Nat.reduceLeDiff]

theorem StationRec.clamped_idem (capacity : Nat) (r : StationRec) : (r.clamped capacity).clamped capacity = r.clamped capacity := by
  simp only [StationRec.clamped, clampTo_clampTo, Nat.zero_le, Nat.reduceLeDiff]

theorem UnitRec.clamped_idem (r : UnitRec) : r.clamped.clamped = r.clamped := by
  simp only [UnitRec.clamped, clampTo_clampTo, Nat.reduceLeDiff]

theorem GradeRec.clamped_idem (r : GradeRec) : r.clamped.clamped = r.clamped := by
  simp only [GradeRec.clamped, clampTo_clampTo, Nat.reduceLeDiff]

theorem ProgramRec.clamped_idem (r : ProgramRec) : r.clamped.clamped = r.clamped := by
  simp only [ProgramRec.clamped, clampTo_clampTo, Nat.zero_le, Nat.reduceLeDiff]

/-! ## Records from bytes -/

theorem u8At_lt (p : List Byte) (i : Nat) : u8At p i < 256 := (p.getD i 0).isLt

theorem u16At_lt (p : List Byte) (i : Nat) : u16At p i < 65536 := by
  have h0 := u8At_lt p i
  have h1 := u8At_lt p (i + 1)
  unfold u16At
  omega

theorem u32At_le (p : List Byte) (i : Nat) : u32At p i ≤ top32 := by
  have h0 := u16At_lt p i
  have h1 := u16At_lt p (i + 2)
  unfold u32At top32
  omega

theorem s16At_range (p : List Byte) (i : Nat) : -32768 ≤ s16At p i ∧ s16At p i ≤ 32767 := by
  have h := u16At_lt p i
  unfold s16At asSigned
  split <;> omega

theorem indexFor_idem {q : Quantity} {n i : Nat} (h : indexFor q n = some i) : indexFor q i = some i := by
  have stored : ∀ {c : Prop} [Decidable c], (if c then some n else none) = some i → c ∧ i = n := by
    intro c _ h
    split at h
    · next hc => exact ⟨hc, (Option.some.inj h).symm⟩
    · cases h
  cases q with
  | supply => cases h; rfl
  | _ => obtain ⟨hc, rfl⟩ := stored h; simp only [indexFor, if_pos hc]

theorem periodOf_idem {n i : Nat} (h : periodOf n = some i) : periodOf i = some i := by
  unfold periodOf at h ⊢
  split at h
  · next hc => cases h; rw [if_pos hc]
  · cases h

/-- A PROGRAM record that can be read is stored as one that R144 accepts. -/
theorem programRecOf_fits {b : List Byte} {r : ProgramRec} (h : programRecOf b = some r) : r.clamped.fits := by
  unfold programRecOf at h
  simp only [Option.bind_eq_bind, Option.bind_eq_some_iff, Option.some.injEq] at h
  obtain ⟨enabled, -, quantity, -, index, hindex, period, hperiod, onHigh, -, onLow, -, onStale, -, target, -, clear, -, rfl⟩ := h
  exact ⟨ProgramRec.clamped_idem _, indexFor_idem hindex, periodOf_idem hperiod, (s16At_range b 3).1, (s16At_range b 3).2,
    (s16At_range b 5).1, (s16At_range b 5).2⟩

/-! ## The layout record (R2) -/

theorem layoutEntry_absent {p : List Byte} {i : Nat} {e : LayoutStation} (h : layoutEntry p i = some e) (hp : e.present = false) :
    e = LayoutStation.absent := by
  unfold layoutEntry at h
  split at h
  · obtain ⟨u, -, rfl⟩ := Option.map_eq_some_iff.mp h
    cases hp
  · cases h; rfl
  · cases h

/-- The four entries of a LAYOUT, each of its own bytes. -/
theorem layoutEntries_entry {p : List Byte} {es : List LayoutStation} (h : layoutEntries p = some es) :
    es.length = 4 ∧ ∀ e ∈ es, ∃ i, layoutEntry p i = some e := by
  unfold layoutEntries at h
  simp only [Option.bind_eq_bind, Option.bind_eq_some_iff, Option.some.injEq] at h
  obtain ⟨a, ha, b, hb, c, hc, d, hd, rfl⟩ := h
  refine ⟨rfl, fun e he => ?_⟩
  simp only [List.mem_cons, List.not_mem_nil, or_false] at he
  rcases he with rfl | rfl | rfl | rfl
  exacts [⟨_, ha⟩, ⟨_, hb⟩, ⟨_, hc⟩, ⟨_, hd⟩]

theorem LayoutStation.clamped_unit (e : LayoutStation) : e.clamped.unit = e.unit := by
  unfold LayoutStation.clamped
  split <;> rfl

theorem LayoutStation.clamped_present (e : LayoutStation) : e.clamped.present = e.present := by
  unfold LayoutStation.clamped
  split <;> rfl

theorem namedBy_clamped (es : List LayoutStation) (u : UnitId) : namedBy (es.map LayoutStation.clamped) u = namedBy es u := by
  simp only [namedBy, List.filter_map, List.length_map, Function.comp_def, LayoutStation.clamped_unit]

theorem layoutRecord_stations {p : List Byte} {es : List LayoutStation} (h : es.length = 4) :
    (layoutRecord p es).stations.toList = es.map LayoutStation.clamped := by
  obtain ⟨a, b, c, d, rfl⟩ : ∃ a b c d, es = [a, b, c, d] := by
    match es, h with
    | [a, b, c, d], _ => exact ⟨a, b, c, d, rfl⟩
  rfl

theorem look_mem_toList {α : Type} {n : Nat} (b : Bank α n) (i : Fin n) : look b i ∈ b.toList := by
  rw [look, Vector.mem_toList_iff]
  exact Vector.getElem_mem i.isLt

theorem look_ratings (p : List Byte) (es : List LayoutStation) (u : UnitId) : look (layoutRecord p es).ratings u = keptRating p es u := by
  match u with
  | 0 => rfl
  | 1 => rfl

theorem mem_allUnits (u : UnitId) : u ∈ allUnits := by
  revert u
  decide

/-- A layout that R2 does not refuse is stored as one that fits. -/
theorem layoutRecord_fits {p : List Byte} {es : List LayoutStation} (hes : layoutEntries p = some es)
    (hfit : layoutRefused p es = false) : LayoutFits (layoutRecord p es) := by
  obtain ⟨hlen, hentry⟩ := layoutEntries_entry hes
  simp only [layoutRefused, Bool.or_eq_false_iff, List.any_eq_false, Bool.and_eq_true, decide_eq_true_eq, Bool.or_eq_true,
    not_and, Nat.not_lt] at hfit
  obtain ⟨⟨hunit, htwo⟩, hrating⟩ := hfit
  have hlook : ∀ st, ∃ e ∈ es, look (layoutRecord p es).stations st = e.clamped := by
    intro st
    have hmem := look_mem_toList (layoutRecord p es).stations st
    rw [layoutRecord_stations hlen] at hmem
    obtain ⟨e, he, heq⟩ := List.mem_map.mp hmem
    exact ⟨e, he, heq.symm⟩
  have hnamed : ∀ u, namedBy (layoutRecord p es).stations.toList u = namedBy es u := by
    intro u
    rw [layoutRecord_stations hlen, namedBy_clamped]
  refine ⟨fun st hp => ?_, fun st hp => ?_, fun u => ?_, fun u => ?_⟩
  · obtain ⟨e, he, heq⟩ := hlook st
    rw [heq, LayoutStation.clamped_present] at hp
    obtain ⟨i, hi⟩ := hentry e he
    rw [heq, layoutEntry_absent hi hp]
    rfl
  · obtain ⟨e, he, heq⟩ := hlook st
    rw [heq, LayoutStation.clamped_present] at hp
    rw [heq]
    refine ⟨?_, ?_⟩
    · rw [LayoutStation.clamped_unit]
      simpa [Option.isSome_iff_ne_none] using hunit e he hp
    · rw [LayoutStation.clamped, if_pos hp]
      exact clampTo_within (by omega)
  · rw [hnamed]
    exact htwo u (mem_allUnits u)
  · rw [hnamed, look_ratings]
    by_cases hu : 0 < namedBy es u
    · have := hrating u (mem_allUnits u) hu
      rw [keptRating, if_pos hu]
      right
      omega
    · rw [keptRating, if_neg hu]
      left
      exact ⟨by omega, rfl⟩

/-! ## The invariant (StepKeepsSettings) -/

/-- A LINING record within its ranges (1.3). -/
def LiningRec.inRange (l : LiningRec) : Prop := l.melted ≤ top32 ∧ l.limit ≤ top32 ∧ l.peak ≤ 16500 ∧ l.overtemp ≤ top32

section
variable {s t : State}

/-- The invariant reads the settings and the linings alone. -/
theorem SettingsFit.congr (h : SettingsFit s) (hcfg : t.cfg = s.cfg) (hlinings : t.linings = s.linings) : SettingsFit t := by
  have heq : t = { t with cfg := s.cfg, linings := s.linings } := by rw [← hcfg, ← hlinings]
  rw [heq]
  exact ⟨h.blank, h.layout, h.shop, h.lInst, h.stations, h.units, h.circuits, h.programs, h.grades, h.linings⟩

theorem SettingsFit.withLinings (h : SettingsFit s) {b : Bank LiningRec 4} (hb : ∀ st, (look b st).inRange) :
    SettingsFit { s with linings := b } :=
  ⟨h.blank, h.layout, h.shop, h.lInst, h.stations, h.units, h.circuits, h.programs, h.grades, hb⟩

theorem SettingsFit.withStations (h : SettingsFit s) {b : Bank StationRec 4}
    (hb : ∀ st, (look b st).clamped (s.capacity st) = look b st) : SettingsFit (s.onCfg (fun c => { c with stations := b })) :=
  ⟨h.blank, h.layout, h.shop, h.lInst, hb, h.units, h.circuits, h.programs, h.grades, h.linings⟩

theorem SettingsFit.withUnits (h : SettingsFit s) {b : Bank UnitRec 2} (hb : ∀ u, (look b u).clamped = look b u) :
    SettingsFit (s.onCfg (fun c => { c with units := b })) :=
  ⟨h.blank, h.layout, h.shop, h.lInst, h.stations, hb, h.circuits, h.programs, h.grades, h.linings⟩

theorem SettingsFit.withCircuits (h : SettingsFit s) {b : Bank Nat 10} (hb : ∀ c, pulsesClamped (look b c) = look b c) :
    SettingsFit (s.onCfg (fun c => { c with circuits := b })) :=
  ⟨h.blank, h.layout, h.shop, h.lInst, h.stations, h.units, hb, h.programs, h.grades, h.linings⟩

theorem SettingsFit.withPrograms (h : SettingsFit s) {b : Bank ProgramRec 16} (hb : ∀ p, (look b p).fits) :
    SettingsFit (s.onCfg (fun c => { c with programs := b })) :=
  ⟨h.blank, h.layout, h.shop, h.lInst, h.stations, h.units, h.circuits, hb, h.grades, h.linings⟩

theorem SettingsFit.withGrades (h : SettingsFit s) {b : Bank GradeRec 16}
    (hb : ∀ g, (look b g).clamped = look b g ∧ (look b g).fits = true) : SettingsFit (s.onCfg (fun c => { c with grades := b })) :=
  ⟨h.blank, h.layout, h.shop, h.lInst, h.stations, h.units, h.circuits, h.programs, hb, h.linings⟩

/-- A SHOP record within its ranges may be stored. -/
theorem SettingsFit.withShop (h : SettingsFit s) (r : ShopRec) : SettingsFit (s.onCfg (fun c => { c with shop := r.clamped })) := by
  refine ⟨h.blank, h.layout, ShopRec.clamped_idem r 500 rfl, .inr ?_, h.stations, h.units, h.circuits, h.programs, h.grades, h.linings⟩
  exact clampTo_within (by omega)

/-- A layout that fits may be loaded: L_inst is then in its range, and the heel minimum of every station is still 0. -/
theorem SettingsFit.laidOut (h : SettingsFit s) (hblank : s.cfg.layout.loaded = false) {l : Layout} (hloaded : l.loaded = true)
    (hl : LayoutFits l) : SettingsFit (s.laidOut l) := by
  refine ⟨fun hb => absurd (hloaded.symm.trans hb) Bool.noConfusion, fun _ => hl, h.shop, .inr ?_, fun st => ?_, h.units, h.circuits, h.programs,
    h.grades, h.linings⟩
  · have h0 := hl.ratings 0
    have h1 := hl.ratings 1
    show 500 ≤ l.lInst ∧ l.lInst ≤ 16000
    unfold Layout.lInst
    omega
  · have hcap : s.capacity st = 0 := by
      rw [State.capacity, State.layoutOf, h.blank hblank]
      simp [Layout.blank, LayoutStation.absent]
    have hst := h.stations st
    rw [hcap] at hst
    have hheel : (s.stationRec st).heelMin = 0 := by
      rw [← hst]
      simp [StationRec.clamped, clampTo]
    show (s.stationRec st).clamped ((s.laidOut l).capacity st) = s.stationRec st
    rw [← hst]
    simp [StationRec.clamped, hheel, clampTo]

theorem LiningRec.inRange_bathStep {shop : ShopRec} {sr : StationRec} {g : GradeRec} {power : Nat} {h : StationHeat} {l : LiningRec}
    (hl : l.inRange) : (bathStep shop sr g power h l).lining.inRange := by
  obtain ⟨hmelted, hlimit, hpeak, hover⟩ := hl
  have hclamp : ∀ x, (stageClamp x).1 ≤ 16500 := by
    intro x
    unfold stageClamp Config.tHigh Config.tLow
    split
    · exact Nat.le_refl _
    · split
      · omega
      · dsimp only; omega
  have ht : ∀ e r, (stageBath shop e r).1.tEst ≤ 16500 := by
    intro e r
    unfold stageBath
    split <;> exact hclamp _
  refine ⟨Nat.min_le_left _ _, hlimit, ?_, ?_⟩
  · exact Nat.max_le.mpr ⟨hpeak, ht _ _⟩
  · simp only [bathStep, stageLining]
    split
    · exact Nat.min_le_left _ _
    · exact hover

theorem inRange_clamped {b : List Byte} {r : LiningRec} (h : liningRecOf b = some r) : r.clamped.inRange := by
  cases h
  exact ⟨u32At_le b 0, u32At_le b 4, (clampTo_within (by omega)).2, u32At_le b 10⟩

/-- Every owner keeps the settings in their ranges. -/
theorem SettingsFit.served {k : RequestKind} (hs : SettingsFit s) (h : Served s k t) : SettingsFit t := by
  by_cases hk : writes k
  · cases h with
    | shopStatus => exact hs.congr rfl rfl
    | restart => exact hs.congr rfl rfl
    | layout hblank hes hfit =>
      exact (hs.laidOut hblank rfl (layoutRecord_fits hes hfit)).congr (takeLayout_deed s _).standing.cfg (takeLayout_deed s _).standing.linings
    | writeShop r =>
      refine (hs.withShop r).congr ?_ ?_
      · exact (takeShop_shared s _).cfg.trans (shopStored_cfg s _)
      · exact (takeShop_shared s _).linings.trans (shopStored_linings s _)
    | @writeStation first count b xs hfirst hxs =>
      refine (hs.withStations (storeFrom_all (Q := fun st r => StationRec.clamped (s.capacity st) r = r) hs.stations ?_)).congr
        (reexamine_shared _).cfg (reexamine_shared _).linings
      intro st r hst hr
      rw [List.getElem?_zipWith_eq_some] at hr
      obtain ⟨st', x, hst', -, rfl⟩ := hr
      have hlast : st.val < first + count := by
        have hlt := (List.getElem?_eq_some_iff.mp hst').1
        rw [coveredStations_length hfirst] at hlt
        omega
      cases hst'.symm.trans (coveredStations_get hfirst hst hlast)
      exact StationRec.clamped_idem _ x
    | writeUnit hxs =>
      refine (hs.withUnits (storeFrom_mem (Q := fun r => UnitRec.clamped r = r) hs.units ?_)).congr
        (evaluateAll_shared _ _).cfg (evaluateAll_shared _ _).linings
      simp only [List.forall_mem_map]
      exact fun r _ => UnitRec.clamped_idem r
    | writeCircuit first xs =>
      refine hs.withCircuits (storeFrom_mem (Q := fun n => pulsesClamped n = n) hs.circuits ?_)
      simp only [List.forall_mem_map]
      exact fun n _ => clampTo_clampTo (by omega)
    | writeProgram _ hxs =>
      refine (hs.withPrograms (storeFrom_mem (Q := ProgramRec.fits) hs.programs ?_)).congr
        (rewriteRuns_deed _ _).standing.cfg (rewriteRuns_deed _ _).standing.linings
      simp only [List.forall_mem_map]
      intro r hr
      obtain ⟨b, hb⟩ := recordsOf_mem hxs hr
      exact programRecOf_fits hb
    | @writeGrade first xs hfit =>
      refine hs.withGrades (storeFrom_mem (Q := fun r => GradeRec.clamped r = r ∧ GradeRec.fits r = true) hs.grades ?_)
      simp only [List.all_map, List.all_eq_true, Function.comp_apply] at hfit
      simp only [List.forall_mem_map]
      exact fun r hr => ⟨GradeRec.clamped_idem r, hfit r hr⟩
    | writeLining hxs =>
      refine (hs.withLinings (storeFrom_mem (Q := LiningRec.inRange) hs.linings ?_)).congr
        (liningEdges_shared _ s _).cfg (liningEdges_shared _ s _).linings
      simp only [List.forall_mem_map]
      intro r hr
      obtain ⟨b, hb⟩ := recordsOf_mem hxs hr
      exact inRange_clamped hb
    | reline st =>
      refine hs.withLinings (fun st' => ?_)
      rw [look_place]
      split
      · obtain ⟨-, hlimit, -, -⟩ := hs.linings st
        exact ⟨Nat.zero_le _, hlimit, Nat.zero_le _, Nat.zero_le _⟩
      · exact hs.linings st'
    | unitMode u m =>
      refine (hs.withUnits (b := place s.cfg.units u { look s.cfg.units u with mode := m }) (fun u' => ?_)).congr
        (setMode_shared s u m).cfg (setMode_shared s u m).linings
      rw [look_place]
      split
      · exact congrArg (fun r : UnitRec => { r with mode := m }) (hs.units u)
      · exact hs.units u'
    | _ => exact absurd hk (by simp [writes])
  · exact hs.congr (served_standing h hk).cfg (served_standing h hk).linings

/-- The settings at power-on lie in their ranges. -/
theorem SettingsFit.default (hcfg : s.cfg = Settings.default) (hl : s.linings = Vector.replicate 4 LiningRec.zero) : SettingsFit s := by
  have hbank : ∀ {α : Type} {n : Nat} {Q : α → Prop} {x : α}, Q x → ∀ i : Fin n, Q (look (Vector.replicate n x) i) := by
    intro α n Q x hx i
    rw [look_replicate]
    exact hx
  refine ⟨fun _ => by rw [hcfg]; rfl, fun h => absurd h (by rw [hcfg]; decide), by rw [hcfg]; decide, .inl (by rw [hcfg]; decide),
    fun st => ?_, ?_, ?_, ?_, ?_, ?_⟩
  · have hcap : s.capacity st = 0 := by
      rw [State.capacity, State.layoutOf, hcfg]
      exact hbank (Q := fun e : LayoutStation => e.capacity = 0) rfl st
    rw [hcap, State.stationRec, hcfg]
    exact hbank (Q := fun r : StationRec => r.clamped 0 = r) (by decide) st
  · simp only [State.unitRec, hcfg]
    exact hbank (Q := fun r : UnitRec => r.clamped = r) (by decide)
  · rw [hcfg]
    exact hbank (Q := fun n => pulsesClamped n = n) (by decide)
  · simp only [State.program, hcfg]
    exact hbank (Q := ProgramRec.fits) ⟨rfl, rfl, rfl, by decide, by decide, by decide, by decide⟩
  · simp only [State.gradeRec, hcfg]
    exact hbank (Q := fun r : GradeRec => r.clamped = r ∧ r.fits = true) (by decide)
  · rw [hl]
    exact hbank (Q := LiningRec.inRange) ⟨Nat.zero_le _, Nat.zero_le _, Nat.zero_le _, Nat.zero_le _⟩

/-- Every event keeps the settings in their ranges. -/
theorem SettingsFit.happens {c : Instr} (hs : SettingsFit s) (h : Happens s c t) : SettingsFit t := by
  by_cases hk : stands c
  · exact hs.congr (happens_standing h hk).cfg (happens_standing h hk).linings
  · cases h with
    | powerOn => exact SettingsFit.default rfl rfl
    | @modelStep st =>
      refine (hs.withLinings (b := place s.linings st (s.bathStepOf st).lining) (fun st' => ?_)).congr
        (modelStep_shared s st).cfg (modelStep_shared s st).linings
      rw [look_place]
      split
      · exact LiningRec.inRange_bathStep (hs.linings st)
      · exact hs.linings st'
    | hold => exact hs.congr rfl rfl
    | resume => exact hs.congr (resume_standing s).cfg (resume_standing s).linings
    | restart => exact hs.congr (resume_standing _).cfg (resume_standing _).linings
    | silence => exact hs.congr (recomputeMelting_shared _).cfg (recomputeMelting_shared _).linings
    | channel => exact hs.congr rfl rfl
    | faultLine => exact hs.congr rfl rfl
    | pumpLine => exact hs.congr rfl rfl
    | _ => exact absurd trivial hk

theorem kept_settings (c : Instr) : Kept SettingsFit (fun _ => True) c where
  link := fun _ _ _ hs => hs.congr rfl rfl
  shared := fun _ _ h hs => hs.congr h.shared.cfg h.shared.linings
  served := fun _ _ _ _ h hs => hs.served h
  happens := fun _ _ h hs => hs.happens h

theorem tick_cfg (x : State) : (tick x).cfg = x.cfg ∧ (tick x).linings = x.linings := by
  unfold tick
  split <;> exact ⟨rfl, rfl⟩

/-- Settles O12: what a write stores lies in its ranges, and no other command writes the settings or, but for the model step, a lining. -/
theorem stepKeepsSettings : Obligations.StepKeepsSettings :=
  fun _ _ hs he => step_keeps kept_settings (fun x hx => hx.congr (tick_cfg x).1 (tick_cfg x).2) (fun _ _ hx => hx.congr rfl rfl) he hs

end

end Sys2Proof.Machine

/-!
PROOFS. While the link is silent no entry of the tap queue gains a station or a permit.
-/

namespace Sys2Proof.Machine

/-- The station and the permit of an entry are those of an entry of the list with its ladle. -/
def QueueEntry.heldIn (ds : List QueueEntry) (e : QueueEntry) : Prop :=
  (∀ st, e.station = some st → ∃ d ∈ ds, d.ladle = e.ladle ∧ d.station = some st) ∧
  (∀ q, e.permit = some q → ∃ d ∈ ds, d.ladle = e.ladle ∧ d.permit.map Permit.id = some q.id)

/-- While the link is silent, every entry has its station and its permit from the list. -/
def Aged (ds : List QueueEntry) (s : State) : Prop := s.link.silent = true → ∀ e ∈ s.taps.entries, e.heldIn ds

section
variable {ds : List QueueEntry} {s t : State}

theorem heldIn_self {e : QueueEntry} (h : e ∈ ds) : e.heldIn ds :=
  ⟨fun _ hst => ⟨e, h, rfl, hst⟩, fun _ hq => ⟨e, h, rfl, by rw [hq]; rfl⟩⟩

theorem heldIn_of_continues {d e : QueueEntry} (h : d.continues e) (hd : d.heldIn ds) : e.heldIn ds := by
  obtain ⟨hladle, hstation, hpermit⟩ := h
  refine ⟨fun st hst => ?_, fun q hq => ?_⟩
  · rcases hstation with h | h
    · cases h.symm.trans hst
    · rw [hladle]
      exact hd.1 st (h.symm.trans hst)
  · rcases hpermit with h | h
    · cases h.symm.trans hq
    · obtain ⟨p, hp, hid⟩ := Option.map_eq_some_iff.mp (h.symm.trans (by rw [hq]; rfl))
      obtain ⟨x, hx, hxl, hxp⟩ := hd.2 p hp
      exact ⟨x, hx, hxl.trans hladle.symm, hid ▸ hxp⟩

theorem heldIn_born {e : QueueEntry} (hstation : e.station = none) (hpermit : e.permit = none) : e.heldIn ds :=
  ⟨fun _ h => absurd (hstation.symm.trans h) (by simp), fun _ h => absurd (hpermit.symm.trans h) (by simp)⟩

/-- An entry of a changed queue is one of the queue, or the changed one. -/
theorem mem_onEntry {i : Nat} {f : QueueEntry → QueueEntry} {e : QueueEntry} (h : e ∈ (s.onEntry i f).taps.entries) :
    e ∈ s.taps.entries ∨ ∃ d ∈ s.taps.entries, e = f d := by
  obtain ⟨j, hj⟩ := List.mem_iff_getElem?.mp h
  have hmod : (s.taps.entries.modify i f)[j]? = some e := hj
  rw [List.getElem?_modify] at hmod
  obtain ⟨d, hd, rfl⟩ := Option.map_eq_some_iff.mp hmod
  have hmem := List.mem_of_getElem? hd
  split
  · exact .inr ⟨d, hmem, rfl⟩
  · exact .inl hmem

/-- A change of an entry that gives it nothing keeps the queue aged. -/
theorem Aged.onEntry (hs : Aged ds s) {i : Nat} {f : QueueEntry → QueueEntry} (hf : ∀ e : QueueEntry, e.continues (f e)) :
    Aged ds (s.onEntry i f) := by
  intro hsilent e he
  rcases mem_onEntry he with h | ⟨d, hd, rfl⟩
  · exact hs hsilent e h
  · exact heldIn_of_continues (hf d) (hs hsilent d hd)

theorem Aged.sharedStep (hs : Aged ds s) (h : SharedStep s t) : Aged ds t := by
  cases h with
  | assign hlink => exact fun hsilent => absurd (hsilent.symm.trans hlink) Bool.noConfusion
  | permit _ _ hready =>
    unfold State.ready at hready
    simp only [Bool.and_eq_true, Bool.not_eq_true'] at hready
    exact fun hsilent => absurd (hsilent.symm.trans hready.2) Bool.noConfusion
  | release => exact hs.onEntry (fun _ => ⟨rfl, .inl rfl, .inr rfl⟩)
  | call => exact hs.onEntry (fun _ => ⟨rfl, .inr rfl, .inr rfl⟩)
  | _ => exact hs

theorem Aged.update {sc : Scope} (hs : Aged ds s) (h : Update sc s t) : Aged ds t := by
  cases h with
  | entry i f hf => exact hs.onEntry hf
  | drop i => exact fun hsilent e he => hs hsilent e (List.mem_of_mem_eraseIdx he)
  | join e hborn =>
    intro hsilent d hd
    rcases List.mem_append.mp hd with hd | hd
    · exact hs hsilent d hd
    · rw [List.mem_singleton.mp hd]
      exact heldIn_born hborn.1 hborn.2
  | _ => exact hs

theorem Aged.deed {sc : Scope} (hs : Aged ds s) (h : Deed sc s t) : Aged ds t :=
  h.keeps (fun _ _ k hx => hx.update k) (fun _ _ k hx => hx.sharedStep k) hs

theorem Aged.shared (hs : Aged ds s) (h : Shared s t) : Aged ds t := h.keeps (fun _ _ k hx => hx.sharedStep k) hs

/-- The invariant reads the queue and the silence alone. -/
theorem Aged.congr (hs : Aged ds s) (hlink : t.link.silent = s.link.silent) (htaps : t.taps = s.taps) : Aged ds t := by
  intro hsilent e he
  exact hs (hlink.symm.trans hsilent) e (htaps ▸ he)

theorem Aged.served {k : RequestKind} (hs : Aged ds s) (h : Served s k t) : Aged ds t := by
  by_cases hk : writes k
  · cases h with
    | shopStatus => exact hs
    | restart => exact hs
    | layout => exact (hs.congr (t := s.laidOut _) rfl rfl).deed (takeLayout_deed s _)
    | writeShop r =>
      refine (hs.congr (t := s.shopStored r.clamped) ?_ ?_).shared (takeShop_shared s _) <;> (unfold State.shopStored; simp only; split <;> rfl)
    | writeStation => exact Aged.shared (s := s.onCfg _) hs (reexamine_shared _)
    | writeUnit => exact Aged.shared (s := s.onCfg _) hs (evaluateAll_shared _ _)
    | writeCircuit => exact hs
    | writeProgram => exact Aged.deed (s := s.onCfg _) hs (rewriteRuns_deed _ _)
    | writeGrade => exact hs
    | writeLining =>
      refine Aged.shared ?_ (liningEdges_shared _ s _)
      exact hs
    | reline => exact hs
    | unitMode u m => exact Aged.shared (s := withMode u m s) hs (setMode_shared s u m)
    | _ => exact absurd hk (by simp [writes])
  · exact hs.deed (served_deed h hk)

theorem Aged.of_talking (h : s.link.silent = false) : Aged ds s := fun hsilent => absurd (hsilent.symm.trans h) Bool.noConfusion

theorem restarted_talking (s : State) : ({ restartState s with resetHeld := false, clockMs := 0 } : State).link.silent = false := rfl

theorem Aged.happens {c : Instr} (hc : c ≠ .silenceTimerExpiry) (hs : Aged ds s) (h : Happens s c t) : Aged ds t := by
  by_cases hk : stands c
  · exact hs.deed (happens_deed h hk)
  · cases h with
    | powerOn => exact Aged.of_talking rfl
    | hold => exact Aged.of_talking rfl
    | resume => exact Aged.deed (s := { s with resetHeld := false, clockMs := 0 }) hs (resume_deed s)
    | restart =>
      exact (Aged.of_talking (restarted_talking s)).deed (resume_deed _)
    | silence => exact absurd rfl hc
    | modelStep => exact Aged.shared (s := { s.onHeat _ _ with linings := _ }) hs (modelStep_shared s _)
    | faultLine => exact hs
    | pumpLine => exact hs
    | channel => exact hs
    | _ => exact absurd trivial hk

theorem kept_aged (ds : List QueueEntry) {c : Instr} (hc : c ≠ .silenceTimerExpiry) : Kept (Aged ds) (fun _ => True) c where
  link := fun _ _ hl hs hsilent => hs (hl hsilent)
  shared := fun _ _ h hs => hs.sharedStep h
  served := fun _ _ _ _ h hs => hs.served h
  happens := fun _ _ h hs => hs.happens hc h

/-- A silence timer that expires while the link is silent changes nothing but what the transmitter sends. -/
theorem silenceTimerExpiry_silent (hsilent : s.link.silent = true) (he : exec .silenceTimerExpiry s = .next t) : t.taps = s.taps := by
  change execSilenceTimerExpiry s = .next t at he
  unfold execSilenceTimerExpiry at he
  rcases whileRunning_cases (fun s => if s.link.silent || s.link.silenceTimer != some 0 then s else enterSilence s) s with
    ⟨-, h⟩ | ⟨-, h⟩ <;> cases h.symm.trans he
  · rfl
  · obtain ⟨l, hl⟩ := nextFrame_link_alone (if s.link.silent || s.link.silenceTimer != some 0 then s else enterSilence s)
    rw [hl]
    simp [hsilent]

/-- Settles O16: an assignment and a permit need a link that is not silent; nothing else gives an entry a station or a permit. -/
theorem silentLinkAssignsNothing : Obligations.SilentLinkAssignsNothing := by
  intro c s t he hs ht
  have haged : Aged s.taps.entries t := by
    have hself : Aged s.taps.entries s := fun _ e he => heldIn_self he
    by_cases hc : c = .silenceTimerExpiry
    · subst hc
      exact hself.congr (ht.trans hs.symm) (silenceTimerExpiry_silent hs he)
    · exact (kept_aged _ hc).exec (fun _ _ _ _ => trivial) (fun _ _ => trivial) he hself
  exact ⟨fun e he => (haged ht e he).1, fun e he => (haged ht e he).2⟩

end

end Sys2Proof.Machine

/-!
PROOFS. The link's invariant: what shared work, owners, events and the receiver keep of it, and what the transmitter's choice and the dispatch
of waiting frames restore.
-/

namespace Sys2Proof.Machine

/-! ## What every stage of a command keeps -/

/-- The link's own part of the invariant, which holds also before the transmitter has chosen. -/
structure Link.sound (l : Link) : Prop where
  rx : l.rx.length ≤ 4
  notices : l.notices.length ≤ 32
  discarded : l.discarded ≤ 65535
  timer : l.silent = l.silenceTimer.isNone
  receiver : ∀ bytes, l.receiver = .inFrame bytes → isPartFrame bytes = true
  reply : l.restart ≠ .due → l.sending = none → l.pendingReply = none
  due : l.restart = .due → l.pendingReply = none ∧ l.sending = none

/-- A sound link with no frame waiting that could be dispatched. -/
structure Calm (s : State) : Prop where
  link : s.link.sound
  waiting : s.dispatchOpen = true → s.link.rx = []

/-- The transmitter of a running part has chosen (R177). -/
def Chosen (s : State) : Prop :=
  s.resetHeld = false → s.link.restart ≠ .due → s.link.sending = none → s.link.pendingReply = none ∧ s.link.notices = []

section
variable {s t : State}

theorem LinkFits.calm (h : LinkFits s) : Calm s := by
  refine ⟨⟨h.rx, h.notices, h.discarded, h.timer, h.receiver, fun hdue hidle => ?_, h.due⟩, h.waiting⟩
  cases hheld : s.resetHeld
  · exact (h.idle hheld hdue hidle).1
  · exact (h.held hheld).2.1

theorem LinkFits.of_calm (h : Calm s) (hchosen : Chosen s) (hheld : s.resetHeld = false) : LinkFits s :=
  ⟨h.link.rx, h.link.notices, h.link.discarded, h.link.timer, h.link.receiver, hchosen, h.waiting,
    fun hyes => absurd (hheld.symm.trans hyes) Bool.noConfusion, h.link.due⟩

theorem Link.sound.noted {l m : Link} (h : l.sound) (hn : Noted l m) : m.sound := by
  have hdepth := hn.depth h.notices
  rw [hn.alone]
  exact ⟨h.rx, hdepth, h.discarded, h.timer, h.receiver, h.reply, h.due⟩

/-- Work that leaves the link but for its notices keeps whether a frame may be dispatched. -/
theorem Standing.dispatchOpen (h : Standing s t) : t.dispatchOpen = s.dispatchOpen := by
  rw [State.dispatchOpen, State.dispatchOpen, h.resetHeld, h.link.alone]

theorem Standing.rx (h : Standing s t) : t.link.rx = s.link.rx := by rw [h.link.alone]

theorem Calm.standing (hs : Calm s) (h : Standing s t) : Calm t :=
  ⟨hs.link.noted h.link, fun hopen => by rw [h.rx]; exact hs.waiting (h.dispatchOpen ▸ hopen)⟩

theorem Calm.shared (hs : Calm s) (h : Shared s t) : Calm t := hs.standing (Shared.standing h)

/-! ## The transmitter's choice (R177) -/

/-- An idle transmitter of a sound link finds a notice alone, for a reply never waits for it. -/
theorem nextFrame_notice (hs : s.link.sound) : nextFrame s = s ∨ ∃ n rest, s.link.notices = n :: rest ∧
    nextFrame s = s.onLink (fun l => { l with sending := some (.notice n), notices := rest }) ∧ s.link.restart ≠ .due := by
  by_cases hdue : s.link.restart = .due
  · exact .inl (by simp [nextFrame, hdue])
  · rcases nextFrame_cases s with h | ⟨r, hr, hidle, -⟩ | ⟨n, rest, -, hn, -, h⟩
    · exact .inl h
    · exact absurd ((hs.reply hdue hidle).symm.trans hr) (by simp)
    · exact .inr ⟨n, rest, hn, h, hdue⟩

theorem Calm.nextFrame (hs : Calm s) : Calm (nextFrame s) := by
  rcases nextFrame_notice hs.link with h | ⟨n, rest, hn, h, hdue⟩ <;> rw [h]
  · exact hs
  · obtain ⟨hrx, hnotices, hdiscarded, htimer, hreceiver, hreply, -⟩ := hs.link
    refine ⟨⟨hrx, ?_, hdiscarded, htimer, hreceiver, fun _ hidle => absurd hidle (by simp), fun h => absurd h hdue⟩, hs.waiting⟩
    rw [hn] at hnotices
    exact Nat.le_of_succ_le hnotices

theorem chosen_nextFrame (s : State) : Chosen (nextFrame s) := by
  intro hheld hdue hidle
  unfold Machine.nextFrame at hheld hdue hidle ⊢
  split
  · next hc =>
    rw [if_pos hc] at hheld hdue hidle
    simp [hheld, hdue, hidle] at hc
  · next hc =>
    rw [if_neg hc] at hidle
    split
    · next r hr => rw [hr] at hidle; cases hidle
    · next hr =>
      rw [hr] at hidle
      split
      · next n rest hn => rw [hn] at hidle; cases hidle
      · next hn => exact ⟨hr, hn⟩

/-! ## Owners (R170) -/

/-- An owner keeps the link sound, the receive queue, the hold, and makes no restart due. -/
structure Answers (s t : State) : Prop where
  link : s.link.sound → t.link.sound
  rx : t.link.rx = s.link.rx
  resetHeld : t.resetHeld = s.resetHeld
  restart : s.link.restart ≠ .due → t.link.restart ≠ .due

theorem Standing.answers (h : Standing s t) : Answers s t :=
  ⟨fun hs => hs.noted h.link, h.rx, h.resetHeld, by rw [h.link.alone]; exact id⟩

theorem answers_self (s : State) : Answers s s := (Standing.refl s).answers


theorem shopStored_link (x : State) (new : ShopRec) : (x.shopStored new).link =
    { x.link with silenceTimer := if x.link.silent then x.link.silenceTimer else some (new.silenceTime * 1000) } := by
  unfold State.shopStored
  simp only
  split <;> rfl

theorem shopStored_resetHeld (x : State) (new : ShopRec) : (x.shopStored new).resetHeld = x.resetHeld := by
  unfold State.shopStored
  simp only
  split <;> rfl

theorem shopStored_answers (s : State) (new : ShopRec) : Answers s (s.shopStored new) := by
  refine ⟨fun hs => ?_, by rw [shopStored_link], shopStored_resetHeld s new, by rw [shopStored_link]; exact id⟩
  rw [shopStored_link]
  refine ⟨hs.rx, hs.notices, hs.discarded, ?_, hs.receiver, hs.reply, hs.due⟩
  have htimer := hs.timer
  cases hsilent : s.link.silent
  · rfl
  · simpa [hsilent] using htimer

theorem Answers.trans {x : State} (h : Answers s t) (k : Answers t x) : Answers s x :=
  ⟨fun hs => k.link (h.link hs), k.rx.trans h.rx, k.resetHeld.trans h.resetHeld, fun hs => k.restart (h.restart hs)⟩

/-- Work behind an update of the settings. -/
theorem Standing.answers_onCfg {f : Settings → Settings} (h : Standing (s.onCfg f) t) : Answers s t :=
  Answers.trans (t := s.onCfg f) ⟨id, rfl, rfl, id⟩ h.answers

theorem served_answers {k : RequestKind} (h : Served s k t) : Answers s t := by
  by_cases hk : writes k
  · cases h with
    | shopStatus =>
      exact ⟨fun hs => ⟨hs.rx, hs.notices, hs.discarded, hs.timer, hs.receiver, hs.reply, hs.due⟩, rfl, rfl, id⟩
    | restart =>
      refine ⟨fun hs => ⟨hs.rx, hs.notices, hs.discarded, hs.timer, hs.receiver, fun _ hidle => ?_, fun h => ?_⟩, rfl, rfl, fun _ h => ?_⟩
      · by_cases hdue : s.link.restart = .due
        · exact (hs.due hdue).1
        · exact hs.reply hdue hidle
      · cases h
      · cases h
    | layout => exact Standing.answers_onCfg (takeLayout_deed s _).standing
    | writeShop r => exact (shopStored_answers s _).trans (Shared.standing (takeShop_shared s _)).answers
    | writeStation => exact Standing.answers_onCfg (Shared.standing (reexamine_shared _))
    | writeUnit => exact Standing.answers_onCfg (Shared.standing (evaluateAll_shared _ _))
    | writeCircuit => exact ⟨id, rfl, rfl, id⟩
    | writeProgram => exact Standing.answers_onCfg (rewriteRuns_deed _ _).standing
    | writeGrade => exact ⟨id, rfl, rfl, id⟩
    | @writeLining first _ _ xs =>
      have hstored : Answers s { s with linings := storeFrom s.linings first (xs.map LiningRec.clamped) } := ⟨id, rfl, rfl, id⟩
      exact hstored.trans (Shared.standing (liningEdges_shared _ s _)).answers
    | reline => exact ⟨id, rfl, rfl, id⟩
    | unitMode u m => exact Standing.answers_onCfg (Shared.standing (setMode_shared s u m))
    | _ => exact absurd hk (by simp [writes])
  · exact (served_standing h hk).answers

theorem serves_answers {k : RequestKind} (h : Serves s k t) : Answers s t := by
  rcases h with rfl | h
  · exact answers_self t
  · exact served_answers h

theorem judgeFrame_answers {f : Frame} : Answers s (judgeFrame f s).state := by
  unfold judgeFrame
  split
  · unfold judged
    split
    · exact serves_answers ownerOf_serves
    · exact answers_self s
  · exact answers_self s

/-! ## Dispatch (R169) -/

/-- A placed reply leaves the transmitter busy and the link sound. -/
theorem placeReply_sound {kind tag : Byte} {a : Answer} (hs : a.state.link.sound) (hheld : a.state.resetHeld = false)
    (hdue : a.state.link.restart ≠ .due) : (placeReply kind tag a).link.sound ∧ (placeReply kind tag a).link.rx = a.state.link.rx ∧
      (placeReply kind tag a).link.sending.isSome = true := by
  rw [placeReply, nextFrame_reply _ _ hheld hdue, State.posted]
  cases hbusy : a.state.link.sending with
  | none => exact ⟨⟨hs.rx, hs.notices, hs.discarded, hs.timer, hs.receiver, fun _ _ => rfl, fun h => absurd h hdue⟩, rfl, rfl⟩
  | some f =>
    refine ⟨⟨hs.rx, hs.notices, hs.discarded, hs.timer, hs.receiver, fun _ h => ?_, fun h => absurd h hdue⟩, rfl, ?_⟩
    · exact absurd (hbusy.symm.trans h) (by simp)
    · show a.state.link.sending.isSome = true
      rw [hbusy]
      rfl

theorem chosen_of_busy (h : s.link.sending.isSome = true) : Chosen s := fun _ _ hidle => absurd h (by simp [hidle])

theorem dispatchOpen_parts (h : s.dispatchOpen = true) : s.resetHeld = false ∧ s.link.pendingReply = none ∧ s.link.restart = .none := by
  simpa [State.dispatchOpen, Option.isNone_iff_eq_none, and_assoc] using h

/-- The dispatch of the frames that wait leaves none that could be dispatched. -/
theorem dispatchUpTo_calm (n : Nat) (s : State) (hs : s.link.sound) (hn : s.link.rx.length ≤ n) :
    Calm (dispatchUpTo n s) ∧ (Chosen s → Chosen (dispatchUpTo n s)) := by
  induction n generalizing s with
  | zero =>
    have hrx : s.link.rx = [] := List.eq_nil_of_length_eq_zero (Nat.le_zero.mp hn)
    exact ⟨⟨hs, fun _ => hrx⟩, id⟩
  | succ n ih =>
    unfold dispatchUpTo
    split
    · next hopen =>
      obtain ⟨hheld, -, hrestart⟩ := dispatchOpen_parts hopen
      have hdue : s.link.restart ≠ .due := by rw [hrestart]; exact fun h => nomatch h
      split
      · next f rest hrx =>
        rw [hrx] at hn
        have hpopped : (s.onLink (fun l => { l with rx := rest })).link.sound := by
          have hlen := hs.rx
          rw [hrx] at hlen
          exact ⟨Nat.le_of_succ_le hlen, hs.notices, hs.discarded, hs.timer, hs.receiver, hs.reply, hs.due⟩
        have hanswer := judgeFrame_answers (s := s.onLink (fun l => { l with rx := rest })) (f := f)
        obtain ⟨hsound, hleft, hbusy⟩ := placeReply_sound (kind := f.kind) (tag := f.tag) (hanswer.link hpopped)
          (hanswer.resetHeld.trans hheld) (hanswer.restart hdue)
        obtain ⟨hcalm, hchosen⟩ := ih _ hsound (by rw [hleft, hanswer.rx]; exact Nat.le_of_succ_le_succ hn)
        exact ⟨hcalm, fun _ => hchosen (chosen_of_busy hbusy)⟩
      · next hrx => exact ⟨⟨hs, fun _ => hrx⟩, id⟩
    · next hclosed => exact ⟨⟨hs, fun hopen => absurd hopen hclosed⟩, id⟩

theorem dispatchWaiting_calm (hs : s.link.sound) : Calm (dispatchWaiting s) ∧ (Chosen s → Chosen (dispatchWaiting s)) :=
  dispatchUpTo_calm _ s hs (Nat.le_refl _)

/-! ## The receiver (R166, R167) -/

theorem validFrame_calm (hs : Calm s) : Calm (validFrame s) := by
  have hheard : Calm (s.onLink (fun l => { l with silent := false, silenceTimer := some (s.cfg.shop.silenceTime * 1000) })) := by
    obtain ⟨⟨hrx, hnotices, hdiscarded, -, hreceiver, hreply, hdue⟩, hwaiting⟩ := hs
    exact ⟨⟨hrx, hnotices, hdiscarded, rfl, hreceiver, hreply, hdue⟩, hwaiting⟩
  unfold validFrame
  simp only
  split
  · exact hheard.shared (Shared.reexamined ((notify_shared _ ..).trans (recomputeMelting_shared _)))
  · exact hheard

theorem countDiscard_calm (hs : Calm s) : Calm (countDiscard s) := by
  obtain ⟨⟨hrx, hnotices, -, htimer, hreceiver, hreply, hdue⟩, hwaiting⟩ := hs
  exact ⟨⟨hrx, hnotices, Nat.min_le_left _ _, htimer, hreceiver, hreply, hdue⟩, hwaiting⟩

theorem Calm.withReceiver (hs : Calm s) {r : Receiver} (hr : ∀ bytes, r = .inFrame bytes → isPartFrame bytes = true) :
    Calm (s.onLink (fun l => { l with receiver := r })) := by
  obtain ⟨⟨hrx, hnotices, hdiscarded, htimer, -, hreply, hdue⟩, hwaiting⟩ := hs
  exact ⟨⟨hrx, hnotices, hdiscarded, htimer, hr, hreply, hdue⟩, hwaiting⟩

theorem Calm.hunting (hs : Calm s) : Calm (s.onLink (fun l => { l with receiver := .hunt })) :=
  hs.withReceiver (fun _ h => nomatch h)

theorem Calm.lineLevel (hs : Calm s) (low : Bool) : Calm (lineLevel low s) := by
  obtain ⟨⟨hrx, hnotices, hdiscarded, htimer, hreceiver, hreply, hdue⟩, hwaiting⟩ := hs
  exact ⟨⟨hrx, hnotices, hdiscarded, htimer, hreceiver, hreply, hdue⟩, hwaiting⟩

theorem acceptFrame_calm {f : Frame} (hs : Calm s) : Calm (acceptFrame f s) := by
  have hvalid := validFrame_calm hs
  unfold acceptFrame
  simp only
  split
  · next hroom =>
    refine (dispatchWaiting_calm ?_).1
    obtain ⟨-, hnotices, hdiscarded, htimer, hreceiver, hreply, hdue⟩ := hvalid.link
    refine ⟨?_, hnotices, hdiscarded, htimer, hreceiver, hreply, hdue⟩
    simp only [State.onLink, List.length_append, List.length_singleton]
    exact hroom
  · exact countDiscard_calm hvalid

theorem completeFrame_calm {bytes : List Byte} (hs : Calm s) : Calm (completeFrame bytes s) := by
  unfold completeFrame
  split
  · exact acceptFrame_calm hs
  · exact countDiscard_calm hs

/-- A frame in progress with one more byte that does not complete it is in progress. -/
theorem isPartFrame_more {sync len b : Byte} {rest : List Byte} (h : isPartFrame (sync :: len :: rest) = true)
    (hmore : (sync :: len :: rest ++ [b]).length ≠ len.toNat + 5) : isPartFrame (sync :: len :: rest ++ [b]) = true := by
  simp only [isPartFrame, Bool.and_eq_true, decide_eq_true_eq, List.cons_append, List.length_append, List.length_cons,
    List.length_nil] at h hmore ⊢
  obtain ⟨hhead, hlen⟩ := h
  exact ⟨hhead, by omega⟩

/-- A SYNC with an accepted LEN is a frame in progress. -/
theorem isPartFrame_len {b : Byte} {taken : List Byte} (h : isPartFrame taken = true) (hshort : ∀ x len rest, taken ≠ x :: len :: rest)
    (hlen : ¬ (b.toNat = 0 ∨ Config.maxLen < b.toNat)) : isPartFrame (taken ++ [b]) = true := by
  match taken with
  | [] => cases h
  | [sync] =>
    simp only [isPartFrame] at h
    simp only [isPartFrame, List.cons_append, List.nil_append, h, List.length_nil, Bool.true_and, Bool.and_eq_true, decide_eq_true_eq]
    omega
  | x :: len :: rest => exact absurd rfl (hshort x len rest)

theorem rxByte_calm {b : Byte} (hs : Calm s) : Calm (rxByte s b) := by
  unfold rxByte
  split
  · exact hs
  · split
    · split
      · next hsync =>
        refine hs.withReceiver (fun bytes h => ?_)
        cases h
        rw [hsync]
        rfl
      · exact hs
    · next taken hr =>
      have hpart := hs.link.receiver taken hr
      split
      · simp only
        split
        · exact completeFrame_calm hs.hunting
        · next hmore =>
          refine hs.withReceiver (fun bytes h => ?_)
          cases h
          exact isPartFrame_more hpart hmore
      · next hshort =>
        split
        · exact countDiscard_calm hs.hunting
        · next hlen =>
          refine hs.withReceiver (fun bytes h => ?_)
          cases h
          exact isPartFrame_len hpart hshort hlen

theorem rxBytes_calm {bytes : List Byte} (hs : Calm s) : Calm (rxBytes bytes s) :=
  List.foldlRecOn bytes _ hs (fun _ hx _ _ => rxByte_calm hx)

theorem abandonFrame_calm (hs : Calm s) : Calm (abandonFrame s) := by
  unfold abandonFrame
  split
  · exact hs
  · exact countDiscard_calm hs.hunting

/-! ## Events -/

theorem afterReset_sound (silence : Nat) (low : Bool) : (Link.afterReset silence low).sound :=
  ⟨Nat.zero_le _, Nat.zero_le _, Nat.zero_le _, rfl, fun _ h => (nomatch h), fun _ _ => rfl, fun h => (nomatch h)⟩

theorem afterReset_calm {silence : Nat} {low : Bool} (h : s.link = Link.afterReset silence low) : Calm s :=
  ⟨h ▸ afterReset_sound silence low, fun _ => by rw [h]; rfl⟩

theorem enterSilence_calm (hs : Calm s) : Calm (enterSilence s) := by
  obtain ⟨⟨hrx, hnotices, hdiscarded, -, hreceiver, hreply, hdue⟩, hwaiting⟩ := hs
  have hquiet : Calm (s.onLink (fun l => { l with silent := true, silentMs := 0, silenceMark := true, silenceTimer := none })) :=
    ⟨⟨hrx, hnotices, hdiscarded, rfl, hreceiver, hreply, hdue⟩, hwaiting⟩
  exact hquiet.shared (recomputeMelting_shared _)

theorem modelStep_calm (hs : Calm s) (st : Station) : Calm (modelStep st s) :=
  Calm.shared (s := { s.onHeat st (fun _ => (s.bathStepOf st).heat) with
    linings := place s.linings st (s.bathStepOf st).lining }) ⟨hs.link, hs.waiting⟩ (modelStep_shared s st)

theorem resume_calm (hs : s.link.sound) (hrx : s.link.rx = []) : Calm (resume s) ∧ (resume s).resetHeld = false := by
  have hstanding := resume_standing s
  exact ⟨Calm.standing (s := { s with resetHeld := false, clockMs := 0 }) ⟨hs, fun _ => hrx⟩ hstanding, hstanding.resetHeld⟩

theorem restarted_link (s : State) : (restartState s).link = Link.afterReset s.cfg.shop.silenceTime s.link.lineLow := rfl

/-- An event of a running part, or the release of a held one, keeps the link calm and the part running. -/
theorem happens_calm {c : Instr} (hs : LinkFits s) (hheld : s.resetHeld = true ↔ c = .resetLineReleased) (h : Happens s c t)
    (hpower : c ≠ .powerOn) (hactive : c ≠ .resetLineActive) : Calm t ∧ t.resetHeld = false := by
  by_cases hc : stands c
  · have hrunning : s.resetHeld = false := by
      by_contra hne
      rw [hheld.mp (by simpa using hne)] at hc
      exact hc
    exact ⟨hs.calm.standing (happens_standing h hc), (happens_standing h hc).resetHeld.trans hrunning⟩
  · have hrunning : c ≠ .resetLineReleased → s.resetHeld = false := by
      intro hne
      cases hval : s.resetHeld
      · rfl
      · exact absurd (hheld.mp hval) hne
    cases h with
    | powerOn => exact absurd rfl hpower
    | hold => exact absurd rfl hactive
    | resume hyes => exact resume_calm hs.calm.link (hs.held hyes).1
    | restart =>
      exact resume_calm (by rw [restarted_link]; exact afterReset_sound _ _) (by rw [restarted_link]; rfl)
    | silence => exact ⟨enterSilence_calm hs.calm, (recomputeMelting_shared _).internal.rest.resetHeld.trans (hrunning Instr.noConfusion)⟩
    | @modelStep st => exact ⟨modelStep_calm hs.calm st, (modelStep_shared s st).internal.rest.resetHeld.trans (hrunning Instr.noConfusion)⟩
    | faultLine u level c hline => rcases hline with rfl | rfl <;> exact absurd trivial hc
    | pumpLine level c hline => rcases hline with rfl | rfl <;> exact absurd trivial hc
    | channel c k x hch => rcases hch with ⟨v, rfl⟩ | rfl <;> exact absurd trivial hc
    | _ => exact absurd trivial hc

/-! ## The end of a transmitted frame (R177) -/

/-- The transmitter's choice leaves no reply waiting for an idle transmitter, whatever it found. -/
theorem nextFrame_sound (hheld : s.resetHeld = false) (hdue : s.link.restart ≠ .due) (hrx : s.link.rx.length ≤ 4)
    (hnotices : s.link.notices.length ≤ 32) (hdiscarded : s.link.discarded ≤ 65535) (htimer : s.link.silent = s.link.silenceTimer.isNone)
    (hreceiver : ∀ bytes, s.link.receiver = .inFrame bytes → isPartFrame bytes = true) : (nextFrame s).link.sound := by
  have hchosen := chosen_nextFrame s
  rcases nextFrame_cases s with h | ⟨r, -, -, h⟩ | ⟨n, rest, -, hn, -, h⟩ <;> rw [h] at hchosen ⊢
  · exact ⟨hrx, hnotices, hdiscarded, htimer, hreceiver, fun _ hidle => (hchosen hheld hdue hidle).1, fun h => absurd h hdue⟩
  · exact ⟨hrx, hnotices, hdiscarded, htimer, hreceiver, fun _ hidle => (hchosen hheld hdue hidle).1, fun h => absurd h hdue⟩
  · rw [hn] at hnotices
    exact ⟨hrx, Nat.le_of_succ_le hnotices, hdiscarded, htimer, hreceiver, fun _ hidle => (hchosen hheld hdue hidle).1,
      fun h => absurd h hdue⟩

/-- Behind the end of a frame and the transmitter's choice the link is sound. -/
theorem endTransmission_sound (hs : s.link.sound) (hheld : s.resetHeld = false) : (nextFrame (endTransmission s)).link.sound := by
  unfold endTransmission
  split
  · next f hf =>
    have hdue : s.link.restart ≠ .due := fun h => absurd ((hs.due h).2.symm.trans hf) (by simp)
    cases hrestart : s.link.answersRestart f
    · exact nextFrame_sound hheld hdue hs.rx hs.notices hs.discarded hs.timer hs.receiver
    · have hpending : s.link.pendingReply = none := by
        cases f with
        | reply r => simpa [Option.isNone_iff_eq_none] using (Bool.and_eq_true_iff.mp hrestart).2
        | notice n => cases hrestart
      have hstill : ∀ x : State, x.link.restart = .due → nextFrame x = x := fun x hx => by simp [nextFrame, hx]
      rw [hstill _ rfl]
      exact ⟨hs.rx, hs.notices, hs.discarded, hs.timer, hs.receiver, fun h => absurd rfl h, fun _ => ⟨hpending, rfl⟩⟩
  · by_cases hdue : s.link.restart = .due
    · have hstill : nextFrame s = s := by simp [nextFrame, hdue]
      rw [hstill]
      exact hs
    · exact nextFrame_sound hheld hdue hs.rx hs.notices hs.discarded hs.timer hs.receiver

/-! ## The commands -/

theorem nextFrame_resetHeld (s : State) : (nextFrame s).resetHeld = s.resetHeld := by
  obtain ⟨l, h⟩ := nextFrame_link_alone s
  rw [h]

/-- A calm link of a running part fits once the transmitter has chosen. -/
theorem fits_nextFrame (hs : Calm s) (hheld : s.resetHeld = false) : LinkFits (nextFrame s) :=
  .of_calm hs.nextFrame (chosen_nextFrame s) ((nextFrame_resetHeld s).trans hheld)

/-- The dispatch of one frame keeps the link. -/
theorem serve_fits {kind tag : Byte} {payload : List Byte} {judge : State → Answer} (hs : LinkFits s)
    (hj : ∀ x, Answers x (judge x).state) (he : serve kind tag payload judge s = .next t) : LinkFits t := by
  unfold serve at he
  split at he
  · next hopen =>
    obtain ⟨hheld, -, hrestart⟩ := dispatchOpen_parts hopen
    have hdue : s.link.restart ≠ .due := by rw [hrestart]; exact fun h => nomatch h
    have hself : s.takeHead { kind, tag, payload } = some s := by rw [State.takeHead, hs.waiting hopen]
    rw [hself] at he
    cases he
    have hanswer := hj s
    have hheld' := hanswer.resetHeld.trans hheld
    obtain ⟨hsound, hrx, hbusy⟩ := placeReply_sound (kind := kind) (tag := tag) (hanswer.link hs.calm.link) hheld' (hanswer.restart hdue)
    refine .of_calm ⟨hsound, fun _ => ?_⟩ (chosen_of_busy hbusy) ?_
    · rw [hrx, hanswer.rx]
      exact hs.waiting hopen
    · exact (nextFrame_resetHeld _).trans hheld'
  · cases he; exact hs

theorem judged_answers (k : RequestKind) (p : List Byte) (x : State) : Answers x (judged k p (ownerOf k p) x).state := by
  unfold judged
  split
  · exact serves_answers ownerOf_serves
  · exact answers_self x

/-- The events of the line leave the hold alone: their own work, and that of the requests they have dispatched. -/
theorem kept_running : Kept (fun x => x.resetHeld = false) (fun _ => True) .breakEnd where
  link := fun _ _ _ hs => hs
  shared := fun _ _ h hs => h.internal.rest.resetHeld.trans hs
  served := fun _ _ _ _ h hs => (served_answers h).resetHeld.trans hs
  happens := fun _ _ h _ => by
    cases h with
    | faultLine _ _ _ hc => rcases hc with h | h <;> cases h
    | pumpLine _ _ hc => rcases hc with h | h <;> cases h
    | channel _ _ _ hc => rcases hc with ⟨_, h⟩ | h <;> cases h

theorem rxBytes_resetHeld (bytes : List Byte) (hheld : s.resetHeld = false) : (rxBytes bytes s).resetHeld = false :=
  kept_running.rxBytes (fun _ _ => trivial) hheld

/-- The two resets leave a link at rest. -/
theorem reset_fits {c : Instr} (hc : c = .powerOn ∨ c = .resetLineActive) (h : Happens s c t) : LinkFits t := by
  rcases hc with rfl | rfl
  · cases h with
    | powerOn => exact .of_calm (afterReset_calm (silence := 10) (low := s.link.lineLow) rfl) (fun _ _ _ => ⟨rfl, rfl⟩) rfl
    | faultLine _ _ _ hc => rcases hc with h | h <;> cases h
    | pumpLine _ _ hc => rcases hc with h | h <;> cases h
    | channel _ _ _ hc => rcases hc with ⟨_, h⟩ | h <;> cases h
  · cases h with
    | hold =>
      obtain ⟨hrx, hnotices, hdiscarded, htimer, hreceiver, -, hdue⟩ := afterReset_sound s.cfg.shop.silenceTime s.link.lineLow
      exact ⟨hrx, hnotices, hdiscarded, htimer, hreceiver, fun _ _ _ => ⟨rfl, rfl⟩, fun _ => rfl, fun _ => ⟨rfl, rfl, rfl, rfl⟩, hdue⟩
    | faultLine _ _ _ hc => rcases hc with h | h <;> cases h
    | pumpLine _ _ hc => rcases hc with h | h <;> cases h
    | channel _ _ _ hc => rcases hc with ⟨_, h⟩ | h <;> cases h

theorem LinkFits.nextFrame (hs : LinkFits s) : LinkFits (nextFrame s) := by
  cases hheld : s.resetHeld
  · exact fits_nextFrame hs.calm hheld
  · have hstill : Machine.nextFrame s = s := by simp [Machine.nextFrame, hheld]
    rw [hstill]
    exact hs

/-- Every command keeps the link. -/
theorem LinkFits.exec {c : Instr} (hs : LinkFits s) (he : exec c s = .next t) : LinkFits t := by
  have hlevel : ∀ low, LinkFits (lineLevel low s) :=
    fun low => ⟨hs.rx, hs.notices, hs.discarded, hs.timer, hs.receiver, hs.idle, hs.waiting, hs.held, hs.due⟩
  cases exec_course he with
  | still => exact hs
  | reset hc h => exact reset_fits hc h
  | recorded => exact ⟨hs.rx, hs.notices, hs.discarded, hs.timer, hs.receiver, hs.idle, hs.waiting, hs.held, hs.due⟩
  | idle hheld => exact fits_nextFrame hs.calm hheld
  | event hheld h =>
    by_cases hpower : c = .powerOn
    · exact (reset_fits (.inl hpower) h).nextFrame
    · by_cases hactive : c = .resetLineActive
      · exact (reset_fits (.inr hactive) h).nextFrame
      · obtain ⟨hcalm, hrunning⟩ := happens_calm hs hheld h hpower hactive
        exact fits_nextFrame hcalm hrunning
  | request k tag p _ h => exact serve_fits hs (judged_answers k p) h
  | unknown kind tag p h => exact serve_fits hs answers_self h
  | bytes hheld bs => exact fits_nextFrame (rxBytes_calm hs.calm) (rxBytes_resetHeld bs hheld)
  | gap hheld bs =>
    exact fits_nextFrame (abandonFrame_calm (rxBytes_calm hs.calm)) (kept_running.abandonFrame (rxBytes_resetHeld bs hheld))
  | broken hheld bs =>
    exact fits_nextFrame ((abandonFrame_calm (rxBytes_calm hs.calm)).lineLevel true)
      (kept_running.abandonFrame (rxBytes_resetHeld bs hheld))
  | mended hheld => exact fits_nextFrame (hs.calm.lineLevel false).hunting hheld
  | level hheld low => exact hlevel low
  | sent hheld =>
    obtain ⟨hcalm, hchosen⟩ := dispatchWaiting_calm (endTransmission_sound hs.calm.link hheld)
    have hrunning : (endTransmission s).resetHeld = false := by
      unfold endTransmission
      split <;> exact hheld
    exact .of_calm hcalm (hchosen (chosen_nextFrame _))
      (kept_running.dispatchWaiting (fun _ => trivial) ((nextFrame_resetHeld _).trans hrunning))

theorem LinkFits.tick (hs : LinkFits s) : LinkFits (tick s) := by
  unfold Machine.tick
  split
  · exact hs
  · have htimer := hs.timer
    refine ⟨hs.rx, hs.notices, hs.discarded, ?_, hs.receiver, hs.idle, hs.waiting, hs.held, hs.due⟩
    show s.link.silent = _
    rw [htimer]
    simp only [Link.tick]
    cases s.link.silenceTimer <;> rfl

/-- Settles O11: every command leaves a sound link whose transmitter has chosen and with no frame waiting that could be dispatched. -/
theorem stepKeepsLink : Obligations.StepKeepsLink := by
  intro s t hs he
  unfold Machine.step at he
  split at he
  · next c rest _ =>
    refine LinkFits.exec (s := { s with pending := rest }) ?_ he
    exact ⟨hs.rx, hs.notices, hs.discarded, hs.timer, hs.receiver, hs.idle, hs.waiting, hs.held, hs.due⟩
  · cases he; exact hs.tick

end

end Sys2Proof.Machine

/-!
PROOFS. The tap queue's invariant as a property of a list of entries and the stations' phases; what one entry's change or removal leaves of it.
-/

namespace Sys2Proof.Machine

/-! ## The queue as a list -/

/-- The id of an entry's permit. -/
def QueueEntry.permitId (e : QueueEntry) : Option Nat := e.permit.map Permit.id

/-- An entry of the list has the station, its permit started or not. -/
def heldBy (es : List QueueEntry) (st : Station) (pouring : Bool) : Prop := ∃ e ∈ es, e.station = some st ∧ e.pouring = pouring

/-- A list of entries agrees with the stations' phases (R147). -/
structure QueueOk (es : List QueueEntry) (phase : Station → Phase) : Prop where
  depth : es.length ≤ 8
  ladles : (es.map QueueEntry.ladle).Nodup
  stations : (es.filterMap QueueEntry.station).Nodup
  permits : (es.filterMap QueueEntry.permitId).Nodup
  permitRange : ∀ id ∈ es.filterMap QueueEntry.permitId, 1 ≤ id ∧ id ≤ 255
  assigned : ∀ e ∈ es, e.permit.isSome = true → e.station.isSome = true
  superheat : ∀ st, phase st = .superheat ↔ heldBy es st false
  tapping : ∀ st, phase st = .tapping ↔ heldBy es st true

theorem queueFits_iff {s : State} :
    QueueFits s ↔ QueueOk s.taps.entries s.phase ∧ 1 ≤ s.taps.permitCounter ∧ s.taps.permitCounter ≤ 255 :=
  ⟨fun h => ⟨⟨h.depth, h.ladles, h.stations, h.permits, h.permitRange, h.assigned, h.superheat, h.tapping⟩, h.counter⟩,
    fun ⟨h, hcounter⟩ => ⟨h.depth, h.ladles, h.stations, h.permits, h.permitRange, hcounter, h.assigned, h.superheat, h.tapping⟩⟩

section
variable {es rest : List QueueEntry} {e e' : QueueEntry} {phase phase' : Station → Phase} {st : Station}

/-- The order of the entries does not matter. -/
theorem QueueOk.perm {fs : List QueueEntry} (h : QueueOk es phase) (hp : es.Perm fs) : QueueOk fs phase := by
  have hheld : ∀ st b, heldBy es st b ↔ heldBy fs st b := fun st b =>
    ⟨fun ⟨e, he, k⟩ => ⟨e, hp.mem_iff.mp he, k⟩, fun ⟨e, he, k⟩ => ⟨e, hp.mem_iff.mpr he, k⟩⟩
  refine ⟨hp.length_eq ▸ h.depth, (hp.map _).nodup_iff.mp h.ladles, (hp.filterMap _).nodup_iff.mp h.stations,
    (hp.filterMap _).nodup_iff.mp h.permits, fun id hid => h.permitRange id ((hp.filterMap _).mem_iff.mpr hid),
    fun e he => h.assigned e (hp.mem_iff.mpr he), fun st => (h.superheat st).trans (hheld st false),
    fun st => (h.tapping st).trans (hheld st true)⟩

theorem heldBy_cons {b : Bool} : heldBy (e :: rest) st b ↔ (e.station = some st ∧ e.pouring = b) ∨ heldBy rest st b := by
  simp [heldBy]

/-- No station twice: what the head entry holds, no other does. -/
theorem QueueOk.head_alone (h : QueueOk (e :: rest) phase) (he : e.station = some st) : ∀ d ∈ rest, d.station ≠ some st := by
  have hnodup := h.stations
  rw [List.filterMap_cons_some he, List.nodup_cons] at hnodup
  intro d hd hst
  exact hnodup.1 (List.mem_filterMap.mpr ⟨d, hd, hst⟩)

theorem not_heldBy (h : ∀ d ∈ es, d.station ≠ some st) (b : Bool) : ¬ heldBy es st b := fun ⟨d, hd, hst, _⟩ => h d hd hst

/-- The entries behind the head agree with every station that is not the head's. -/
theorem QueueOk.rest_phase (h : QueueOk (e :: rest) phase) (hst : e.station ≠ some st) :
    (phase st = .superheat ↔ heldBy rest st false) ∧ (phase st = .tapping ↔ heldBy rest st true) := by
  rw [h.superheat, h.tapping, heldBy_cons, heldBy_cons]
  simp [hst]

/-- The head's station is in SUPERHEAT or in TAPPING. -/
theorem QueueOk.head_phase (h : QueueOk (e :: rest) phase) (hst : e.station = some st) :
    phase st = if e.pouring then .tapping else .superheat := by
  cases hp : e.pouring
  · exact (h.superheat st).mpr ⟨e, List.mem_cons_self, hst, hp⟩
  · exact (h.tapping st).mpr ⟨e, List.mem_cons_self, hst, hp⟩

/-- The queue without its head, whose station has gone to another phase. -/
theorem QueueOk.remove (h : QueueOk (e :: rest) phase) (hothers : ∀ st, e.station ≠ some st → phase' st = phase st)
    (hfreed : ∀ st, e.station = some st → phase' st ≠ .superheat ∧ phase' st ≠ .tapping) : QueueOk rest phase' := by
  have hphase : ∀ st, (phase' st = .superheat ↔ heldBy rest st false) ∧ (phase' st = .tapping ↔ heldBy rest st true) := by
    intro st
    by_cases hst : e.station = some st
    · obtain ⟨hs, ht⟩ := hfreed st hst
      have hnone := not_heldBy (h.head_alone hst)
      exact ⟨⟨fun k => absurd k hs, fun k => absurd k (hnone false)⟩, ⟨fun k => absurd k ht, fun k => absurd k (hnone true)⟩⟩
    · rw [hothers st hst]
      exact h.rest_phase hst
  obtain ⟨hdepth, hladles, hstations, hpermits, hrange, hassigned, -, -⟩ := h
  have hsub : (rest.filterMap QueueEntry.permitId).Sublist ((e :: rest).filterMap QueueEntry.permitId) :=
    (List.sublist_cons_self e rest).filterMap _
  refine ⟨Nat.le_of_succ_le hdepth, (List.nodup_cons.mp hladles).2, hstations.sublist ((List.sublist_cons_self e rest).filterMap _),
    hpermits.sublist hsub, fun id hid => hrange id (hsub.subset hid), fun d hd => hassigned d (List.mem_cons_of_mem e hd),
    fun st => (hphase st).1, fun st => (hphase st).2⟩

/-- The queue with another entry of the same ladle at its head. -/
theorem QueueOk.replace (h : QueueOk (e :: rest) phase) (hladle : e'.ladle = e.ladle)
    (hstation : ∀ st, e'.station = some st → ∀ d ∈ rest, d.station ≠ some st)
    (hpermit : ∀ id, e'.permitId = some id → (1 ≤ id ∧ id ≤ 255) ∧ id ∉ rest.filterMap QueueEntry.permitId)
    (hassigned : e'.permit.isSome = true → e'.station.isSome = true)
    (hothers : ∀ st, e.station ≠ some st → e'.station ≠ some st → phase' st = phase st)
    (hfreed : ∀ st, e.station = some st → e'.station ≠ some st → phase' st ≠ .superheat ∧ phase' st ≠ .tapping)
    (htaken : ∀ st, e'.station = some st → phase' st = if e'.pouring then .tapping else .superheat) : QueueOk (e' :: rest) phase' := by
  have hrest : ∀ id ∈ rest.filterMap QueueEntry.permitId, 1 ≤ id ∧ id ≤ 255 := fun id hid =>
    h.permitRange id (((List.sublist_cons_self e rest).filterMap _).subset hid)
  have hphase : ∀ st b, (phase' st = if b then Phase.tapping else .superheat) ↔ heldBy (e' :: rest) st b := by
    intro st b
    rw [heldBy_cons]
    by_cases hst' : e'.station = some st
    · have hnone := not_heldBy (hstation st hst') b
      rw [htaken st hst']
      simp only [hst', hnone, true_and, or_false]
      cases b <;> cases e'.pouring <;> simp
    · by_cases hst : e.station = some st
      · obtain ⟨hs, ht⟩ := hfreed st hst hst'
        have hnone := not_heldBy (h.head_alone hst) b
        simp only [hst', hnone, false_and, or_self, iff_false]
        cases b
        · exact hs
        · exact ht
      · rw [hothers st hst hst']
        obtain ⟨hs, ht⟩ := h.rest_phase hst
        simp only [hst', false_and, false_or]
        cases b
        · exact hs
        · exact ht
  refine ⟨h.depth, ?_, ?_, ?_, ?_, ?_, fun st => hphase st false, fun st => hphase st true⟩
  · have hladles := h.ladles
    rw [List.map_cons] at hladles ⊢
    rw [hladle]
    exact hladles
  · have hnodup := h.stations.sublist ((List.sublist_cons_self e rest).filterMap _)
    cases hst : e'.station with
    | none => rwa [List.filterMap_cons_none hst]
    | some st =>
      rw [List.filterMap_cons_some hst, List.nodup_cons]
      refine ⟨fun hmem => ?_, hnodup⟩
      obtain ⟨d, hd, hdst⟩ := List.mem_filterMap.mp hmem
      exact hstation st hst d hd hdst
  · have hnodup := h.permits.sublist ((List.sublist_cons_self e rest).filterMap _)
    cases hid : e'.permitId with
    | none => rwa [List.filterMap_cons_none hid]
    | some id =>
      rw [List.filterMap_cons_some hid, List.nodup_cons]
      exact ⟨(hpermit id hid).2, hnodup⟩
  · intro id hmem
    cases hid : e'.permitId with
    | none =>
      rw [List.filterMap_cons_none hid] at hmem
      exact hrest id hmem
    | some x =>
      rw [List.filterMap_cons_some hid] at hmem
      rcases List.mem_cons.mp hmem with rfl | hmem
      · exact (hpermit id hid).1
      · exact hrest id hmem
  · intro d hd
    rcases List.mem_cons.mp hd with rfl | hd
    · exact hassigned
    · exact h.assigned d (List.mem_cons_of_mem e hd)

/-- A new entry joins. -/
theorem QueueOk.join (h : QueueOk es phase) (hstation : e.station = none) (hpermit : e.permit = none)
    (hnew : ∀ d ∈ es, d.ladle ≠ e.ladle) (hdepth : es.length < 8) : QueueOk (es ++ [e]) phase := by
  have hid : e.permitId = none := by rw [QueueEntry.permitId, hpermit]; rfl
  have hcons : QueueOk (e :: es) phase := by
    refine ⟨hdepth, ?_, ?_, ?_, ?_, ?_, fun st => ?_, fun st => ?_⟩
    · rw [List.map_cons, List.nodup_cons]
      refine ⟨fun hmem => ?_, h.ladles⟩
      obtain ⟨d, hd, heq⟩ := List.mem_map.mp hmem
      exact hnew d hd heq
    · rw [List.filterMap_cons_none hstation]; exact h.stations
    · rw [List.filterMap_cons_none hid]; exact h.permits
    · rw [List.filterMap_cons_none hid]; exact h.permitRange
    · intro d hd
      rcases List.mem_cons.mp hd with rfl | hd
      · rw [hpermit]; exact fun k => absurd k (by simp)
      · exact h.assigned d hd
    · rw [heldBy_cons]; simpa [hstation] using h.superheat st
    · rw [heldBy_cons]; simpa [hstation] using h.tapping st
  exact hcons.perm (List.perm_append_singleton e es).symm

/-! ## The entry at a place -/

/-- The queue with the entry at a place at its head. -/
theorem perm_at {i : Nat} (he : es[i]? = some e) : es.Perm (e :: es.eraseIdx i) := by
  obtain ⟨hlt, rfl⟩ := List.getElem?_eq_some_iff.mp he
  exact (List.getElem_cons_eraseIdx_perm hlt).symm

theorem eraseIdx_modify (es : List QueueEntry) (i : Nat) (f : QueueEntry → QueueEntry) : (es.modify i f).eraseIdx i = es.eraseIdx i := by
  induction es generalizing i with
  | nil => simp
  | cons d es ih =>
    cases i with
    | zero => simp
    | succ i => simp [ih]

/-- The changed queue with the changed entry at its head. -/
theorem perm_modify {i : Nat} (he : es[i]? = some e) (f : QueueEntry → QueueEntry) :
    (es.modify i f).Perm (f e :: es.eraseIdx i) := by
  have hget : (es.modify i f)[i]? = some (f e) := by rw [List.getElem?_modify_eq, he]; rfl
  have hperm := perm_at hget
  rwa [eraseIdx_modify] at hperm

end

end Sys2Proof.Machine

/-!
PROOFS. The shop floor's invariant, station by station, with the mass that is on its way between stations or in a ladle: what one station's
change has to show, and that every piece of shared work keeps it.
-/

namespace Sys2Proof.Machine

/-! ## The invariant by stations -/

/-- The mass in a station's crucible, kg. -/
def State.mass (s : State) (st : Station) : Nat := (s.record st).solid + (s.record st).liquid

/-- What the shop's invariant asks of one station (R1, R6, R9, R15, R17, R28, R30, R119). -/
structure StationFits (s : State) (st : Station) : Prop where
  record : (s.record st).fits
  off : s.phase st = .off ↔ look s.enabled st = false
  present : look s.enabled st = true → (s.layoutOf st).present = true
  capacity : s.mass st ≤ s.capacity st
  melting : 0 < (s.record st).solid → (s.record st).tEst = s.cfg.shop.tMelt
  estimate : (s.phase st).running = true → 11000 ≤ (s.record st).tEst ∧ (s.record st).tEst ≤ 16500
  valve : look s.valves st = true → (s.phase st).holdsMetal = true

/-- The shop's invariant while `d` kg of the outflow have not left a crucible, or are missing from the inflow. -/
structure ShopOff (d : Int) (s : State) : Prop where
  stations : ∀ st, StationFits s st
  blank : s.cfg.layout.loaded = false → ∀ st, (s.layoutOf st).present = false
  meltRange : 11500 ≤ s.cfg.shop.tMelt ∧ s.cfg.shop.tMelt ≤ 13500
  counter : 1 ≤ s.heatCounter ∧ s.heatCounter ≤ 65535
  queue : QueueFits s
  balance : (s.inflow : Int) + d = s.outflow + s.metalMass

section
variable {s t : State} {st : Station} {d d' : Int} {e : QueueEntry} {rest : List QueueEntry} {phase' : Station → Phase}

theorem shopOff_zero : ShopOff 0 s ↔ ShopFits s := by
  constructor
  · intro h
    refine ⟨fun st => (h.stations st).record, fun st => (h.stations st).off, fun st => (h.stations st).present, h.blank,
      fun st => (h.stations st).capacity, h.meltRange, fun st => (h.stations st).melting, fun st => (h.stations st).estimate, h.counter,
      fun st => (h.stations st).valve, h.queue, ?_⟩
    have := h.balance
    omega
  · intro h
    refine ⟨fun st => ⟨h.records st, h.off st, h.present st, h.capacity st, h.melting st, h.estimate st, h.valves st⟩, h.blank,
      h.meltRange, h.counter, h.queue, ?_⟩
    have := h.balance
    omega

theorem metalMass_eq (s : State) : s.metalMass = s.mass 0 + s.mass 1 + s.mass 2 + s.mass 3 := by
  simp only [State.metalMass, State.mass, allStations]
  simp
  omega

/-- One station's mass has changed. -/
theorem metalMass_change (h : ∀ o, o ≠ st → t.mass o = s.mass o) : t.metalMass + s.mass st = s.metalMass + t.mass st := by
  rw [metalMass_eq, metalMass_eq]
  match st with
  | 0 => rw [h 1 (by decide), h 2 (by decide), h 3 (by decide)]; omega
  | 1 => rw [h 0 (by decide), h 2 (by decide), h 3 (by decide)]; omega
  | 2 => rw [h 0 (by decide), h 1 (by decide), h 3 (by decide)]; omega
  | 3 => rw [h 0 (by decide), h 1 (by decide), h 2 (by decide)]; omega

theorem metalMass_same (h : ∀ o, t.mass o = s.mass o) : t.metalMass = s.metalMass := by
  simp only [metalMass_eq, h]

/-! ## What has to be shown of a change -/

/-- What a station's part of the invariant reads. -/
structure SameStation (s t : State) (o : Station) : Prop where
  record : t.record o = s.record o
  enabled : look t.enabled o = look s.enabled o
  valve : look t.valves o = true → look s.valves o = true

theorem SameStation.mass {o : Station} (h : SameStation s t o) : t.mass o = s.mass o := by rw [State.mass, h.record]; rfl

theorem SameStation.phase {o : Station} (h : SameStation s t o) : t.phase o = s.phase o := congrArg HeatRec.phase h.record

theorem StationFits.same {o : Station} (hs : StationFits s o) (h : SameStation s t o) (hlayout : t.cfg.layout = s.cfg.layout)
    (htMelt : t.cfg.shop.tMelt = s.cfg.shop.tMelt) : StationFits t o := by
  have hl : t.layoutOf o = s.layoutOf o := by rw [State.layoutOf, hlayout]; rfl
  have hc : t.capacity o = s.capacity o := by rw [State.capacity, hl]; rfl
  refine ⟨h.record ▸ hs.record, ?_, ?_, ?_, ?_, ?_, ?_⟩
  · rw [h.phase, h.enabled]; exact hs.off
  · rw [h.enabled, hl]; exact hs.present
  · rw [h.mass, hc]; exact hs.capacity
  · rw [h.record, htMelt]; exact hs.melting
  · rw [h.phase, h.record]; exact hs.estimate
  · intro hv; rw [h.phase]; exact hs.valve (h.valve hv)

/-- One station has changed. -/
theorem ShopOff.change (hs : ShopOff d s) (st : Station) (hlayout : t.cfg.layout = s.cfg.layout)
    (htMelt : t.cfg.shop.tMelt = s.cfg.shop.tMelt) (hcounter : 1 ≤ t.heatCounter ∧ t.heatCounter ≤ 65535)
    (hothers : ∀ o, o ≠ st → SameStation s t o) (hst : StationFits t st) (hqueue : QueueFits t)
    (hbalance : (t.inflow : Int) + d' + s.outflow + s.mass st = s.inflow + d + t.outflow + t.mass st) : ShopOff d' t := by
  refine ⟨fun o => ?_, ?_, htMelt ▸ hs.meltRange, hcounter, hqueue, ?_⟩
  · by_cases ho : o = st
    · exact ho ▸ hst
    · exact (hs.stations o).same (hothers o ho) hlayout htMelt
  · intro hl o
    rw [State.layoutOf, hlayout]
    exact hs.blank (hlayout ▸ hl) o
  · have hmass := metalMass_change (fun o ho => (hothers o ho).mass)
    have := hs.balance
    omega

/-- Nothing that the invariant reads of a station has changed; the queue may have. -/
theorem ShopOff.same (hs : ShopOff d s) (hlayout : t.cfg.layout = s.cfg.layout) (htMelt : t.cfg.shop.tMelt = s.cfg.shop.tMelt)
    (hcounter : t.heatCounter = s.heatCounter) (hstations : ∀ o, SameStation s t o) (hqueue : QueueFits t)
    (hbalance : (t.inflow : Int) + d' + s.outflow = s.inflow + d + t.outflow) : ShopOff d' t := by
  refine hs.change 0 hlayout htMelt (hcounter ▸ hs.counter) (fun o _ => hstations o)
    ((hs.stations 0).same (hstations 0) hlayout htMelt) hqueue ?_
  rw [(hstations 0).mass]
  omega

/-! ### The queue -/

theorem QueueFits.ok (h : QueueFits s) : QueueOk s.taps.entries s.phase := (queueFits_iff.mp h).1

theorem QueueFits.same (h : QueueFits s) (htaps : t.taps = s.taps) (hphase : t.phase = s.phase) : QueueFits t := by
  rw [queueFits_iff] at h ⊢
  rw [htaps, hphase]
  exact h

/-- Nothing that the invariant reads has changed. -/
theorem ShopOff.congr (hs : ShopOff d s) (hheats : t.heats = s.heats) (henabled : t.enabled = s.enabled) (hvalves : t.valves = s.valves)
    (htaps : t.taps = s.taps) (hlayout : t.cfg.layout = s.cfg.layout) (htMelt : t.cfg.shop.tMelt = s.cfg.shop.tMelt)
    (hcounter : t.heatCounter = s.heatCounter) (hin : t.inflow = s.inflow) (hout : t.outflow = s.outflow) : ShopOff d t := by
  have hstations : ∀ o, SameStation s t o := fun o =>
    ⟨by simp only [State.record, hheats], by rw [henabled], by rw [hvalves]; exact id⟩
  exact hs.same hlayout htMelt hcounter hstations (hs.queue.same htaps (funext (fun o => (hstations o).phase))) (by rw [hin, hout])

/-- The queue stands and no station has entered or left SUPERHEAT or TAPPING. -/
theorem QueueFits.phases (h : QueueFits s) (htaps : t.taps = s.taps) (hothers : ∀ o, o ≠ st → t.phase o = s.phase o)
    (hwas : s.phase st ≠ .superheat ∧ s.phase st ≠ .tapping) (his : t.phase st ≠ .superheat ∧ t.phase st ≠ .tapping) : QueueFits t := by
  rw [queueFits_iff] at h ⊢
  rw [htaps]
  obtain ⟨⟨hdepth, hladles, hstations, hpermits, hrange, hassigned, hsuperheat, htapping⟩, hcounter⟩ := h
  refine ⟨⟨hdepth, hladles, hstations, hpermits, hrange, hassigned, fun o => ?_, fun o => ?_⟩, hcounter⟩
  · by_cases ho : o = st
    · subst ho
      exact ⟨fun k => absurd k his.1, fun k => absurd ((hsuperheat o).mpr k) hwas.1⟩
    · rw [hothers o ho]; exact hsuperheat o
  · by_cases ho : o = st
    · subst ho
      exact ⟨fun k => absurd k his.2, fun k => absurd ((htapping o).mpr k) hwas.2⟩
    · rw [hothers o ho]; exact htapping o

/-- An assigned station is in SUPERHEAT or TAPPING, so that another is not assigned. -/
theorem QueueFits.unassigned (h : QueueFits s) (hs : s.phase st ≠ .superheat) (ht : s.phase st ≠ .tapping) :
    ∀ e ∈ s.taps.entries, e.station ≠ some st := by
  intro e he hst
  cases hp : e.pouring
  · exact hs ((h.superheat st).mpr ⟨e, he, hst, hp⟩)
  · exact ht ((h.tapping st).mpr ⟨e, he, hst, hp⟩)

/-! ### Records -/

theorem running_of_solid {r : HeatRec} (hr : r.fits) (h : 0 < r.solid) : r.phase = .melt := by
  unfold HeatRec.fits at hr
  cases hp : r.phase <;> simp only [hp] at hr
  case melt => rfl
  all_goals first | (rw [hr] at h; exact absurd h (Nat.lt_irrefl 0)) | (obtain ⟨hsolid, -⟩ := hr; omega)

/-- A record outside the running phases is clear. -/
theorem clear_of_not_running {r : HeatRec} (hr : r.fits) (h : r.phase.running = false) : r = HeatRec.clear r.phase := by
  unfold HeatRec.fits at hr
  cases hp : r.phase <;> rw [hp] at h <;> simp only [hp] at hr
  case off => exact hr
  case unknown => exact hr
  case empty => exact hr
  all_goals exact absurd h (by decide)

theorem mass_of_not_running (hs : StationFits s st) (h : (s.phase st).running = false) : s.mass st = 0 := by
  rw [State.mass, clear_of_not_running hs.record h]
  rfl

/-- A liquid bath in HOLD, SUPERHEAT or TAPPING fits in each of the three phases. -/
theorem fits_liquid {r : HeatRec} {p : Phase} (hr : r.fits) (h : r.phase = .hold ∨ r.phase = .superheat ∨ r.phase = .tapping)
    (hp : p = .hold ∨ p = .superheat ∨ p = .tapping) {m : Bool} : ({ r with phase := p, dipMark := m } : HeatRec).fits := by
  unfold HeatRec.fits at hr ⊢
  rcases h with h | h | h <;> rcases hp with rfl | rfl | rfl <;> simpa only [h] using hr

/-! ## Updates of one station -/

theorem mass_onRecord (s : State) (a b : Station) (f : HeatRec → HeatRec) :
    (s.onRecord a f).record b = if a = b then f (s.record a) else s.record b := State.onRecord_record s a b f

/-- A station's heat is changed and its record is still that of its phase. -/
theorem ShopOff.onHeat (hs : ShopOff d s) {f : StationHeat → StationHeat} {r : HeatRec} (hr : (f (s.heat st)).record = r)
    (hphase : r.phase = s.phase st) (hfits : r.fits) (hcapacity : r.solid + r.liquid ≤ s.capacity st)
    (hmelting : 0 < r.solid → r.tEst = s.cfg.shop.tMelt) (hestimate : r.phase.running = true → 11000 ≤ r.tEst ∧ r.tEst ≤ 16500)
    (hbalance : d' + s.mass st = d + (r.solid + r.liquid : Nat)) : ShopOff d' (s.onHeat st f) := by
  have hrec : ∀ o, (s.onHeat st f).record o = if st = o then r else s.record o := by
    intro o
    simp only [State.record, State.onHeat, look_place]
    split
    · exact hr
    · rfl
  have hself : (s.onHeat st f).record st = r := by rw [hrec, if_pos rfl]
  have hothers : ∀ o, o ≠ st → SameStation s (s.onHeat st f) o := fun o ho =>
    ⟨by rw [hrec, if_neg (Ne.symm ho)], rfl, id⟩
  have hphases : (s.onHeat st f).phase = s.phase := by
    funext o
    by_cases ho : o = st
    · rw [ho]; exact (congrArg HeatRec.phase hself).trans hphase
    · exact (hothers o ho).phase
  have hold := hs.stations st
  refine hs.change st rfl rfl hs.counter hothers ⟨hself.symm ▸ hfits, ?_, hold.present, ?_, ?_, ?_, ?_⟩
    (hs.queue.same rfl hphases) ?_
  · rw [hphases]; exact hold.off
  · show (s.onHeat st f).mass st ≤ s.capacity st
    rw [State.mass, hself]; exact hcapacity
  · rw [hself]; exact hmelting
  · intro hrun
    rw [hself]
    exact hestimate (by rw [hphase, ← hphases]; exact hrun)
  · rw [hphases]; exact hold.valve
  · have : (s.onHeat st f).mass st = r.solid + r.liquid := by rw [State.mass, hself]
    rw [this]
    show (s.inflow : Int) + d' + s.outflow + s.mass st = s.inflow + d + s.outflow + (r.solid + r.liquid : Nat)
    omega

/-! ## Shared work -/

theorem QueueFits.onEntry_same (h : QueueFits s) (i : Nat) {f : QueueEntry → QueueEntry} (hladle : ∀ e, (f e).ladle = e.ladle)
    (hstation : ∀ e, (f e).station = e.station) (hpermit : ∀ e, (f e).permit = e.permit) : QueueFits (s.onEntry i f) := by
  cases he : s.taps.entries[i]? with
  | none =>
    refine h.same ?_ rfl
    have hmod : s.taps.entries.modify i f = s.taps.entries := List.modify_eq_self (by simpa using he)
    show { s.taps with entries := s.taps.entries.modify i f } = s.taps
    rw [hmod]
  | some e =>
    rw [queueFits_iff] at h ⊢
    refine ⟨QueueOk.perm ?_ (perm_modify he f).symm, h.2⟩
    have hok := h.1.perm (perm_at he)
    have hid : (f e).permitId = e.permitId := by rw [QueueEntry.permitId, hpermit]; rfl
    have hpour : (f e).pouring = e.pouring := by rw [QueueEntry.pouring, hpermit]; rfl
    have hmem : e ∈ e :: s.taps.entries.eraseIdx i := List.mem_cons_self
    refine hok.replace (hladle e) (fun st hst => hok.head_alone (hstation e ▸ hst)) (fun id hq => ?_) ?_ (fun st _ _ => rfl)
      (fun st hst hne => absurd (hstation e ▸ hst) hne) (fun st hst => ?_)
    · rw [hid] at hq
      have hnodup := hok.permits
      rw [List.filterMap_cons_some hq, List.nodup_cons] at hnodup
      exact ⟨hok.permitRange id (List.mem_filterMap.mpr ⟨e, hmem, hq⟩), hnodup.1⟩
    · rw [hpermit, hstation]; exact hok.assigned e hmem
    · rw [hpour]; exact hok.head_phase (hstation e ▸ hst)

/-- The phases in which a station holds a liquid bath. -/
def Phase.liquid (p : Phase) : Prop := p = .hold ∨ p = .superheat ∨ p = .tapping

theorem running_of_liquid {p : Phase} (h : p.liquid) : p.running = true := by rcases h with rfl | rfl | rfl <;> rfl

theorem ne_off_of_liquid {p : Phase} (h : p.liquid) : p ≠ .off := by rcases h with rfl | rfl | rfl <;> exact Phase.noConfusion

/-- A station's liquid bath goes from one of its three phases to another, with what that does to the queue. -/
theorem ShopOff.rephased (hs : ShopOff d s) (q : TapQueue) {f : HeatRec → HeatRec} {p : Phase} {m : Bool}
    (hf : f (s.record st) = { s.record st with phase := p, dipMark := m }) (hwas : (s.phase st).liquid) (hp : p.liquid)
    (hqueue : QueueFits (({ s with taps := q } : State).onRecord st f)) : ShopOff d (({ s with taps := q } : State).onRecord st f) := by
  have hrec : ∀ o, (({ s with taps := q } : State).onRecord st f).record o =
      if st = o then { s.record st with phase := p, dipMark := m } else s.record o := by
    intro o
    rw [State.onRecord_record]
    split
    · exact hf
    · rfl
  have hself := (hrec st).trans (if_pos rfl)
  have hold := hs.stations st
  have hphase : (({ s with taps := q } : State).onRecord st f).phase st = p := congrArg HeatRec.phase hself
  refine hs.change st rfl rfl hs.counter (fun o ho => ⟨(hrec o).trans (if_neg (Ne.symm ho)), rfl, id⟩)
    ⟨?_, ?_, hold.present, ?_, ?_, fun _ => ?_, fun _ => ?_⟩ hqueue ?_
  · rw [hself]; exact fits_liquid hold.record hwas hp
  · rw [hphase]
    exact ⟨fun k => absurd k (ne_off_of_liquid hp), fun k => absurd (hold.off.mpr k) (ne_off_of_liquid hwas)⟩
  · rw [State.mass, hself]; exact hold.capacity
  · rw [hself]; exact hold.melting
  · rw [hself]; exact hold.estimate (running_of_liquid hwas)
  · rw [hphase]; exact holdsMetal_of_running (running_of_liquid hp)
  · have hmass : (({ s with taps := q } : State).onRecord st f).mass st = s.mass st := by rw [State.mass, hself]; rfl
    rw [hmass]
    show (s.inflow : Int) + d + s.outflow + s.mass st = s.inflow + d + s.outflow + s.mass st
    rfl

/-- The phases after a station's own has been set. -/
theorem phase_onRecord (x : State) (f : HeatRec → HeatRec) (o : Station) :
    (x.onRecord st f).phase o = if st = o then (f (x.record st)).phase else x.phase o := by
  have h := congrArg HeatRec.phase (State.onRecord_record x st o f)
  rw [apply_ite HeatRec.phase] at h
  exact h

/-- The entry of a place, at the head of its queue. -/
theorem QueueFits.at (h : QueueFits s) {i : Nat} {e : QueueEntry} (he : s.taps.entries[i]? = some e) :
    QueueOk (e :: s.taps.entries.eraseIdx i) s.phase := h.ok.perm (perm_at he)

/-- The queue with the entry of a place changed, as the phases then are. -/
theorem QueueFits.of_entry {i : Nat} {e : QueueEntry} {f : QueueEntry → QueueEntry} {g : HeatRec → HeatRec}
    (hcounter : 1 ≤ s.taps.permitCounter ∧ s.taps.permitCounter ≤ 255) (he : s.taps.entries[i]? = some e)
    (hok : QueueOk (f e :: s.taps.entries.eraseIdx i) ((s.onEntry i f).onRecord st g).phase) :
    QueueFits ((s.onEntry i f).onRecord st g) :=
  queueFits_iff.mpr ⟨hok.perm (perm_modify he f).symm, hcounter⟩

theorem permit_none_of_unassigned (hok : QueueOk (e :: rest) phase') (hfree : e.station = none) : e.permit = none := by
  cases hp : e.permit with
  | none => rfl
  | some q => exact absurd (hok.assigned e List.mem_cons_self (by rw [hp]; rfl)) (by simp [hfree])

/-- An assignment (R153). -/
theorem ShopOff.assigned (hs : ShopOff d s) {i : Nat} {e : QueueEntry} (he : s.taps.entries[i]? = some e) (hfree : e.station = none)
    (hchoice : s.choice e = some st) : ShopOff d (s.assigned i st) := by
  obtain ⟨hhold, -, -, -, hunassigned, -⟩ := eligible_iff.mp (choice_eligible _ hchoice)
  have hok := hs.queue.at he
  have hpermit := permit_none_of_unassigned hok hfree
  refine hs.rephased _ (p := .superheat) (m := false) rfl (.inl hhold) (.inr (.inl rfl)) ?_
  refine QueueFits.of_entry hs.queue.counter he (hok.replace rfl ?_ ?_ ?_ ?_ ?_ ?_)
  · intro o ho d hd
    cases ho
    exact hunassigned d (List.mem_of_mem_eraseIdx hd)
  · intro id hid
    simp [QueueEntry.permitId, hpermit] at hid
  · simp [hpermit]
  · intro o _ ho
    rw [phase_onRecord, if_neg (fun k : st = o => ho (k ▸ rfl))]
    rfl
  · intro o ho
    simp [hfree] at ho
  · intro o ho
    cases ho
    rw [phase_onRecord, if_pos rfl]
    simp [QueueEntry.pouring, hpermit]

/-- A release (R155). -/
theorem ShopOff.released (hs : ShopOff d s) {i : Nat} {e : QueueEntry} (he : s.taps.entries[i]? = some e) (hst : e.station = some st)
    (hpermit : e.permit = none) : ShopOff d (s.released i st) := by
  have hok := hs.queue.at he
  have hphase : s.phase st = .superheat := by
    have := hok.head_phase hst
    simpa [QueueEntry.pouring, hpermit] using this
  refine hs.rephased _ (p := .hold) (m := (s.record st).dipMark) rfl (.inr (.inl hphase)) (.inl rfl) ?_
  refine QueueFits.of_entry hs.queue.counter he (hok.replace rfl ?_ ?_ ?_ ?_ ?_ ?_)
  · exact fun o ho => by cases ho
  · intro id hid
    simp [QueueEntry.permitId, hpermit] at hid
  · simp [hpermit]
  · intro o ho _
    rw [phase_onRecord, if_neg (fun k : st = o => ho (k ▸ hst))]
    rfl
  · intro o ho _
    cases hst.symm.trans ho
    rw [phase_onRecord, if_pos rfl]
    exact ⟨Phase.noConfusion, Phase.noConfusion⟩
  · exact fun o ho => by cases ho

/-! ### Permit ids (R157) -/

theorem nextPermit_range {c : Nat} (h : 1 ≤ c ∧ c ≤ 255) : 1 ≤ nextPermit c ∧ nextPermit c ≤ 255 := by
  unfold nextPermit
  split <;> omega

theorem freePermit_range (held : List Nat) (fuel : Nat) {c : Nat} (h : 1 ≤ c ∧ c ≤ 255) :
    1 ≤ freePermit held fuel c ∧ freePermit held fuel c ≤ 255 := by
  induction fuel generalizing c with
  | zero => exact h
  | succ fuel ih =>
    unfold freePermit
    split
    · exact ih (nextPermit_range h)
    · exact h

/-- The id `k` places behind a counter value. -/
def laterPermit (c k : Nat) : Nat := (c - 1 + k) % 255 + 1

theorem laterPermit_next {c k : Nat} (h : 1 ≤ c ∧ c ≤ 255) : laterPermit (nextPermit c) k = laterPermit c (k + 1) := by
  unfold laterPermit nextPermit
  split <;> omega

/-- A search that finds no free id has found each id on its way held. -/
theorem freePermit_held (held : List Nat) (fuel : Nat) {c : Nat} (h : 1 ≤ c ∧ c ≤ 255) (hbad : freePermit held fuel c ∈ held) :
    ∀ k ≤ fuel, laterPermit c k ∈ held := by
  have hself : laterPermit c 0 = c := by unfold laterPermit; omega
  induction fuel generalizing c with
  | zero =>
    intro k hk
    rw [Nat.le_zero.mp hk, hself]
    exact hbad
  | succ fuel ih =>
    unfold freePermit at hbad
    split at hbad
    · next hc =>
      intro k hk
      cases k with
      | zero => rw [hself]; simpa using hc
      | succ k =>
        rw [← laterPermit_next h]
        exact ih (nextPermit_range h) hbad (by have := nextPermit_range h; unfold laterPermit; omega) k (by omega)
    · next hc => exact absurd hbad (by simpa using hc)

/-- With fewer than 255 ids held a free id is found. -/
theorem freePermit_free {held : List Nat} {c : Nat} (h : 1 ≤ c ∧ c ≤ 255) (hlen : held.length < 255) :
    freePermit held held.length c ∉ held := by
  intro hbad
  have hall := freePermit_held held held.length h hbad
  have hsub : (List.range (held.length + 1)).map (laterPermit c) ⊆ held := by
    intro id hid
    obtain ⟨k, hk, rfl⟩ := List.mem_map.mp hid
    exact hall k (by have := List.mem_range.mp hk; omega)
  have hnodup : ((List.range (held.length + 1)).map (laterPermit c)).Nodup := by
    refine List.Nodup.map_on (fun x hx y hy hxy => ?_) List.nodup_range
    have hx := List.mem_range.mp hx
    have hy := List.mem_range.mp hy
    unfold laterPermit at hxy
    omega
  have hle := (List.subperm_of_subset hnodup hsub).length_le
  simp at hle

theorem permitIds_eq (s : State) : s.permitIds = s.taps.entries.filterMap QueueEntry.permitId := rfl

theorem permitIds_length (hs : QueueFits s) : s.permitIds.length < 255 := by
  have hdepth := hs.depth
  have hle : s.permitIds.length ≤ s.taps.entries.length := List.length_filterMap_le _ _
  omega

/-- An issued permit (R157). -/
theorem ShopOff.permitted (hs : ShopOff d s) {i : Nat} (he : s.taps.entries[i]? = some e) (hst : e.station = some st)
    (hready : s.ready e st = true) : ShopOff d (s.permitted i) := by
  have hok := hs.queue.at he
  have hfree : s.nextId ∉ s.permitIds := freePermit_free hs.queue.counter (permitIds_length hs.queue)
  have hrange : 1 ≤ s.nextId ∧ s.nextId ≤ 255 := freePermit_range _ _ hs.queue.counter
  have hpermit : e.permit = none := by
    unfold State.ready at hready
    simp only [Bool.and_eq_true, Option.isNone_iff_eq_none] at hready
    obtain ⟨⟨⟨⟨⟨⟨⟨-, hnone⟩, -⟩, -⟩, -⟩, -⟩, -⟩, -⟩ := hready
    exact hnone
  have hphase := hok.head_phase hst
  rw [if_neg (by simp [QueueEntry.pouring, hpermit])] at hphase
  refine hs.same rfl rfl rfl (fun _ => ⟨rfl, rfl, id⟩) ?_ rfl
  have hissued : QueueOk ({ e with permit := some { id := s.nextId, leftMs := s.cfg.shop.permitTime * 1000, started := false } } ::
      s.taps.entries.eraseIdx i) s.phase := by
    refine hok.replace rfl ?_ ?_ ?_ (fun _ _ _ => rfl) ?_ ?_
    · exact fun o ho => hok.head_alone ho
    · intro id hid
      cases hid
      refine ⟨hrange, fun hmem => hfree ?_⟩
      rw [permitIds_eq]
      exact ((List.eraseIdx_sublist _ i).filterMap _).subset hmem
    · exact fun _ => by rw [hst]; rfl
    · exact fun o ho hne => absurd ho hne
    · intro o ho
      cases hst.symm.trans ho
      exact hphase
  have hperm := perm_modify he (fun e => { e with
    permit := some { id := s.nextId, leftMs := s.cfg.shop.permitTime * 1000, started := false } })
  exact queueFits_iff.mpr ⟨hissued.perm hperm.symm, nextPermit_range hrange⟩

/-! ### Every piece -/

theorem ShopOff.valved (hs : ShopOff d s) {v : Bool} (h : v = true → (s.phase st).holdsMetal = true) :
    ShopOff d { s with valves := place s.valves st v } := by
  have hlook : ∀ o, look (place s.valves st v) o = if st = o then v else look s.valves o := fun o => look_place _ _ _ _
  have hold := hs.stations st
  refine hs.change st rfl rfl hs.counter (fun o ho => ⟨rfl, rfl, fun hv => ?_⟩)
    ⟨hold.record, hold.off, hold.present, hold.capacity, hold.melting, hold.estimate, fun hv => ?_⟩ (hs.queue.same rfl rfl) rfl
  · rwa [hlook, if_neg (Ne.symm ho)] at hv
  · rw [hlook, if_pos rfl] at hv
    exact h hv

/-- A change of a running station's record in what the invariant does not read. -/
theorem ShopOff.onRunning (hs : ShopOff d s) {f : HeatRec → HeatRec} (hrun : (s.phase st).running = true)
    (hphase : (f (s.record st)).phase = s.phase st) (hsolid : (f (s.record st)).solid = (s.record st).solid)
    (hliquid : (f (s.record st)).liquid = (s.record st).liquid) (hgrade : (f (s.record st)).grade = (s.record st).grade)
    (hheat : (f (s.record st)).heatNo = (s.record st).heatNo)
    (htemp : (f (s.record st)).tEst = (s.record st).tEst) : ShopOff d (s.onRecord st f) := by
  have hold := hs.stations st
  have hfits : (f (s.record st)).fits := by
    have hr := hold.record
    unfold HeatRec.fits at hr ⊢
    rw [hphase, hsolid, hliquid, hgrade, hheat]
    have hp : (s.record st).phase = s.phase st := rfl
    rw [hp] at hr
    cases hval : s.phase st <;> rw [hval] at hrun hr <;> first | exact hr | exact absurd hrun (by decide)
  refine hs.onHeat (r := f (s.record st)) rfl hphase hfits ?_ ?_ ?_ ?_
  · rw [hsolid, hliquid]; exact hold.capacity
  · rw [hsolid, htemp]; exact hold.melting
  · rw [hphase, htemp]; exact hold.estimate
  · rw [hsolid, hliquid]; rfl

theorem ShopOff.sharedStep (hs : ShopOff d s) (h : SharedStep s t) : ShopOff d t := by
  cases h with
  | notice => exact hs.congr rfl rfl rfl rfl rfl rfl rfl rfl rfl
  | request a =>
    have hold := hs.stations a
    exact hs.onHeat (r := s.record a) rfl rfl hold.record hold.capacity hold.melting hold.estimate rfl
  | changeover => exact hs.congr rfl rfl rfl rfl rfl rfl rfl rfl rfl
  | assign _ he hfree hchoice => exact hs.assigned he hfree hchoice
  | release he hst hpermit => exact hs.released he hst hpermit
  | call i time =>
    exact hs.same rfl rfl rfl (fun _ => ⟨rfl, rfl, id⟩) (hs.queue.onEntry_same i (fun _ => rfl) (fun _ => rfl) (fun _ => rfl)) rfl
  | permit he hst hready => exact hs.permitted he hst hready
  | openValve h => exact hs.valved (fun _ => h)
  | closeValve => exact hs.valved (fun h => absurd h Bool.noConfusion)
  | flag f hrun => exact hs.onRunning hrun rfl rfl rfl rfl rfl rfl
  | inhibit => exact hs.congr rfl rfl rfl rfl rfl rfl rfl rfl rfl
  | feed => exact hs.congr rfl rfl rfl rfl rfl rfl rfl rfl rfl

theorem ShopOff.shared (hs : ShopOff d s) (h : Shared s t) : ShopOff d t := h.keeps (fun _ _ k hx => hx.sharedStep k) hs

end

end Sys2Proof.Machine

/-!
PROOFS. The requests keep the shop floor: charges, readings, transfers, the host's own heats, ladles and taps.
-/

namespace Sys2Proof.Machine

section
variable {s t x : State} {st : Station} {d d' : Int} {e : QueueEntry}

/-! ## One station's heat -/

theorem record_onHeat (s : State) (st o : Station) (f : StationHeat → StationHeat) :
    (s.onHeat st f).record o = if st = o then (f (s.heat st)).record else s.record o := by
  simp only [State.record, State.onHeat, look_place]
  split <;> rfl

theorem record_onHeat_other {f : StationHeat → StationHeat} {o : Station} (h : o ≠ st) : (s.onHeat st f).record o = s.record o :=
  (record_onHeat s st o f).trans (if_neg (Ne.symm h))

theorem record_onHeat_self {f : StationHeat → StationHeat} : (s.onHeat st f).record st = (f (s.heat st)).record :=
  (record_onHeat s st st f).trans (if_pos rfl)

/-- All that the shop's invariant reads is the same but for one station's record and the tallies. -/
structure Besides (s x : State) (st : Station) : Prop where
  layout : x.cfg.layout = s.cfg.layout
  tMelt : x.cfg.shop.tMelt = s.cfg.shop.tMelt
  enabled : x.enabled = s.enabled
  valves : x.valves = s.valves
  others : ∀ o, o ≠ st → x.record o = s.record o

theorem besides_onHeat (s : State) (st : Station) (f : StationHeat → StationHeat) : Besides s (s.onHeat st f) st :=
  ⟨rfl, rfl, rfl, rfl, fun _ ho => record_onHeat_other ho⟩

theorem Besides.same (h : Besides s x st) {o : Station} (ho : o ≠ st) : SameStation s x o :=
  ⟨h.others o ho, by rw [h.enabled], by rw [h.valves]; exact id⟩

/-- A station that no entry has takes another record, none that an entry could have. -/
theorem ShopOff.became (hs : ShopOff d s) (hx : Besides s x st) (htaps : x.taps = s.taps)
    (hcounter : 1 ≤ x.heatCounter ∧ x.heatCounter ≤ 65535) {r : HeatRec} (hr : x.record st = r)
    (hwas : s.phase st ≠ .superheat ∧ s.phase st ≠ .tapping ∧ s.phase st ≠ .off) (his : r.phase = .melt ∨ r.phase = .hold)
    (hfits : r.fits) (hcapacity : r.solid + r.liquid ≤ s.capacity st) (hmelting : 0 < r.solid → r.tEst = s.cfg.shop.tMelt)
    (hestimate : 11000 ≤ r.tEst ∧ r.tEst ≤ 16500)
    (hbalance : (x.inflow : Int) + d' + s.outflow + s.mass st = s.inflow + d + x.outflow + (r.solid + r.liquid : Nat)) : ShopOff d' x := by
  have hphase : x.phase st = r.phase := congrArg HeatRec.phase hr
  have hold := hs.stations st
  have hlive : r.phase.running = true ∧ r.phase ≠ .off ∧ r.phase ≠ .superheat ∧ r.phase ≠ .tapping := by
    rcases his with h | h <;> rw [h] <;> exact ⟨rfl, Phase.noConfusion, Phase.noConfusion, Phase.noConfusion⟩
  obtain ⟨hrun, hoff, hsuper, htap⟩ := hlive
  have hl : x.layoutOf st = s.layoutOf st := by rw [State.layoutOf, hx.layout]; rfl
  refine hs.change st hx.layout hx.tMelt hcounter (fun o ho => hx.same ho) ⟨hr ▸ hfits, ?_, ?_, ?_, ?_, fun _ => ?_, fun _ => ?_⟩
    (hs.queue.phases htaps (fun o ho => (hx.same ho).phase) ⟨hwas.1, hwas.2.1⟩ (hphase ▸ ⟨hsuper, htap⟩)) ?_
  · rw [hphase, hx.enabled]
    exact ⟨fun k => absurd k hoff, fun k => absurd (hold.off.mpr k) hwas.2.2⟩
  · rw [hx.enabled, hl]; exact hold.present
  · rw [State.mass, hr, State.capacity, hl]; exact hcapacity
  · rw [hr, hx.tMelt]; exact hmelting
  · rw [hr]; exact hestimate
  · rw [hphase]; exact holdsMetal_of_running hrun
  · have hmass : x.mass st = r.solid + r.liquid := by rw [State.mass, hr]
    rw [hmass]; exact hbalance

theorem ShopOff.withInflow (hs : ShopOff d s) {n : Nat} (hd : d = d' + n) : ShopOff d' { s with inflow := s.inflow + n } := by
  refine hs.same rfl rfl rfl (fun _ => ⟨rfl, rfl, id⟩) (hs.queue.same rfl rfl) ?_
  show ((s.inflow + n : Nat) : Int) + d' + s.outflow = s.inflow + d + s.outflow
  omega

theorem nextHeatNo_range {n : Nat} (h : 1 ≤ n ∧ n ≤ 65535) : 1 ≤ nextHeatNo n ∧ nextHeatNo n ≤ 65535 := by
  unfold nextHeatNo
  split <;> omega

/-! ## CHARGE (R43 to R47) -/

/-- A chain of checks that refuses nothing has passed its first. -/
theorem refusal_none {c : Prop} [Decidable c] {code : ReplyCode} {o : Option ReplyCode} :
    (if c then some code else o) = none ↔ ¬ c ∧ o = none := by
  split <;> simp_all

/-- What a CHARGE that is not refused has found. -/
theorem chargeRefusal_none {number mass : Nat} {grade : Option Nat} (h : chargeRefusal s st number mass grade = none) :
    s.phase st ≠ .unknown ∧ s.phase st ≠ .tapping ∧ s.phase st ≠ .superheat ∧ 0 < mass ∧ 0 < s.room st ∧ (∀ n ∈ grade, n < 16) ∧
      (s.phase st = .empty → grade ≠ none) := by
  simp only [chargeRefusal, refusal_none, not_or, not_and, not_exists, Nat.not_le] at h
  obtain ⟨⟨hunknown, htapping⟩, hsuper, -, ⟨hmass, -, hgrade, hnone⟩, -, -, hroom, -⟩ := h
  exact ⟨hunknown, htapping, hsuper, Nat.pos_of_ne_zero hmass, Nat.pos_of_ne_zero hroom, hgrade, hnone⟩

theorem charge_grade {grade : Option Nat} (h : ∀ n ∈ grade, n < 16) (hsome : grade ≠ none) : (grade.bind gradeOf).isSome = true := by
  cases grade with
  | none => exact absurd rfl hsome
  | some n =>
    rw [Option.bind_some, gradeOf_of_lt (h n rfl)]
    rfl

theorem ShopOff.chargeRecord (hs : ShopOff d s) {number mass : Nat} {grade : Option Nat} (hoff : s.phase st ≠ .off)
    (h : chargeRefusal s st number mass grade = none) :
    ShopOff (d + (min mass (s.room st) : Nat)) (chargeRecord st number (min mass (s.room st)) (grade.bind gradeOf) s) := by
  obtain ⟨hunknown, htapping, hsuper, hmass, hroom, hgrade, hsome⟩ := chargeRefusal_none h
  have hold := hs.stations st
  have hwas := And.intro hsuper (And.intro htapping hoff)
  have hcap : s.mass st + min mass (s.room st) ≤ s.capacity st := by
    have := hold.capacity
    unfold State.room at hroom ⊢
    unfold State.mass at this ⊢
    omega
  have hpos : 0 < min mass (s.room st) := by omega
  have hmelt := hs.meltRange
  unfold Machine.chargeRecord
  split
  · next hempty =>
    have hzero := mass_of_not_running hold (by rw [hempty]; rfl)
    have hcharged : ShopOff (d + (min mass (s.room st) : Nat)) (advanceHeatNo (s.onHeat st
        (StationHeat.begun (chargedEmpty s.cfg.shop.tMelt s.heatCounter number (min mass (s.room st)) (grade.bind gradeOf)) []))) := by
      refine hs.became (st := st) ⟨rfl, rfl, rfl, rfl, fun o ho => record_onHeat_other ho⟩ rfl (nextHeatNo_range hs.counter)
        record_onHeat_self hwas (.inl rfl) ⟨hpos, charge_grade hgrade (hsome hempty), hs.counter⟩ ?_ (fun _ => rfl) ?_ ?_
      · show min mass (s.room st) + 0 ≤ _
        omega
      · show 11000 ≤ s.cfg.shop.tMelt ∧ s.cfg.shop.tMelt ≤ 16500
        omega
      · show (s.inflow : Int) + (d + (min mass (s.room st) : Nat)) + s.outflow + s.mass st =
          s.inflow + d + s.outflow + ((min mass (s.room st)) + 0 : Nat)
        omega
    refine hcharged.shared (beginMetal_shared _ ?_)
    exact congrArg Phase.running (congrArg HeatRec.phase (record_onHeat_self (s := s)))
  · next hne =>
    have hphase : s.phase st = .melt ∨ s.phase st = .hold := by
      cases hp : s.phase st <;> simp_all
    have hrunning : (s.phase st).running = true := by rcases hphase with h | h <;> rw [h] <;> rfl
    have hr := hold.record
    have hparts : (s.record st).grade.isSome = true ∧ 1 ≤ (s.record st).heatNo ∧ (s.record st).heatNo ≤ 65535 := by
      unfold HeatRec.fits at hr
      have hp : (s.record st).phase = s.phase st := rfl
      rw [hp] at hr
      rcases hphase with h | h <;> rw [h] at hr
      · exact hr.2
      · exact hr.2.2
    have htemp : (chargedRunning s.cfg.shop.c10 s.cfg.shop.tMelt number (min mass (s.room st)) (s.record st)).tEst =
        s.cfg.shop.tMelt := by
      unfold chargedRunning
      simp only
      split
      · rfl
      · next hliquid =>
        refine hold.melting ?_
        unfold HeatRec.fits at hr
        have hp : (s.record st).phase = s.phase st := rfl
        rw [hp] at hr
        rcases hphase with h | h <;> rw [h] at hr
        · exact hr.1
        · exact absurd hr.2.1 hliquid
    refine hs.became (besides_onHeat s st _) rfl hs.counter record_onHeat_self hwas (.inl rfl) ⟨?_, hparts⟩ ?_ (fun _ => htemp) ?_ ?_
    · exact Nat.lt_of_lt_of_le hpos (Nat.le_add_left _ _)
    · show (s.record st).solid + min mass (s.room st) + (s.record st).liquid ≤ _
      unfold State.mass at hcap
      omega
    · exact htemp.symm ▸ ⟨by omega, by omega⟩
    · show (s.inflow : Int) + (d + (min mass (s.room st) : Nat)) + s.outflow + s.mass st =
        s.inflow + d + s.outflow + ((s.record st).solid + min mass (s.room st) + (s.record st).liquid : Nat)
      unfold State.mass
      omega

theorem ShopOff.takeCharge (hs : ShopOff d s) {number mass : Nat} {grade : Option Nat} (hoff : s.phase st ≠ .off)
    (h : chargeRefusal s st number mass grade = none) : ShopOff d (takeCharge st number mass (grade.bind gradeOf) s) := by
  have hrecorded := hs.chargeRecord hoff h
  have hfinished : ShopOff d (chargeFinished st mass (s.room st)
      (Machine.chargeRecord st number (min mass (s.room st)) (grade.bind gradeOf) s)) := by
    unfold chargeFinished
    simp only
    refine ShopOff.shared ?_ (recompute_shared _ st)
    refine ShopOff.withInflow (d := d + (min mass (s.room st) : Nat)) ?_ rfl
    split
    · exact hrecorded.shared (raise_shared _ .overfill st)
    · exact hrecorded
  rw [takeCharge_eq]
  split
  · exact hfinished
  · exact hfinished.shared (reexamine_shared _)

end

end Sys2Proof.Machine

/-!
PROOFS. A crucible that empties, readings of the bath, pouring and receiving metal, and the heats that the host establishes keep the shop floor.
-/

namespace Sys2Proof.Machine

section
variable {s t x : State} {st : Station} {d d' : Int} {e : QueueEntry}

/-! ## Deeds of the other blocks -/

theorem Update.shopOff {sc : Scope} (hsc : sc ≠ .floor ∧ sc ≠ .all) (h : Update sc s t) (hs : ShopOff d s) : ShopOff d t := by
  have hnot : sc ∉ [Scope.floor, .all] := by simp [hsc]
  cases h with
  | aside | unit | runs => exact hs.congr rfl rfl rfl rfl rfl rfl rfl rfl rfl
  | enabled _ h => exact absurd h hsc.2
  | heat _ _ h | tallies _ _ _ h | valves _ h | entry _ _ _ h | drop _ h | join _ _ h => exact absurd h hnot

/-- What is done outside the shop floor and the enables keeps the floor. -/
theorem Deed.shopOff {sc : Scope} (h : Deed sc s t) (hsc : sc ≠ .floor ∧ sc ≠ .all) (hs : ShopOff d s) : ShopOff d t :=
  h.keeps (fun _ _ k hx => k.shopOff hsc hx) (fun _ _ k hx => hx.sharedStep k) hs

/-! ## Stations that hold nothing -/

theorem valve_closed (hs : ShopOff d s) (h : (s.phase st).holdsMetal = false) : look s.valves st = false := by
  cases hv : look s.valves st with
  | false => rfl
  | true => exact absurd ((hs.stations st).valve hv) (by rw [h]; decide)

/-- A station that becomes clear, in a phase that no entry needs, its valve not OPEN. -/
theorem ShopOff.vacant (hs : ShopOff d s) {p : Phase} (hp : p = .off ∨ p = .empty) (hlayout : x.cfg.layout = s.cfg.layout)
    (htMelt : x.cfg.shop.tMelt = s.cfg.shop.tMelt) (hcounter : x.heatCounter = s.heatCounter)
    (hothers : ∀ o, o ≠ st → SameStation s x o) (hr : x.record st = HeatRec.clear p)
    (henabled : look x.enabled st = decide (p = .empty)) (hpresent : p = .empty → (s.layoutOf st).present = true)
    (hvalve : look x.valves st = false) (hqueue : QueueFits x)
    (hbalance : (x.inflow : Int) + d' + s.outflow + s.mass st = s.inflow + d + x.outflow) : ShopOff d' x := by
  have hphase : x.phase st = p := congrArg HeatRec.phase hr
  have hl : x.layoutOf st = s.layoutOf st := by rw [State.layoutOf, hlayout]; rfl
  have hmass : x.mass st = 0 := by rw [State.mass, hr]; rfl
  refine hs.change st hlayout htMelt (hcounter ▸ hs.counter) hothers ⟨?_, ?_, ?_, ?_, ?_, ?_, ?_⟩ hqueue ?_
  · rw [hr]; rcases hp with rfl | rfl <;> rfl
  · rw [hphase, henabled]; rcases hp with rfl | rfl <;> decide
  · rw [henabled, hl]; exact fun h => hpresent (of_decide_eq_true h)
  · rw [hmass]; exact Nat.zero_le _
  · rw [hr]; exact fun h => absurd h (Nat.lt_irrefl 0)
  · rw [hphase]; rcases hp with rfl | rfl <;> exact fun h => absurd h (by decide)
  · rw [hvalve]; exact fun h => absurd h (by decide)
  · rw [hmass]; omega

theorem record_of_heats {a b : State} (h : a.heats = b.heats) (o : Station) : a.record o = b.record o := by
  simp only [State.record, h]

/-- Entry into EMPTY (R19), for a state that fits but for the station whose bath is gone, its entry and the tallies. -/
theorem ShopOff.emptied (hs : ShopOff d s) (hx : Besides s x st) (hcounter : x.heatCounter = s.heatCounter)
    (hwas : s.phase st ≠ .off) (hqueue : QueueFits (x.onHeat st (StationHeat.cleared .empty)))
    (hbalance : (x.inflow : Int) + d' + s.outflow + s.mass st = s.inflow + d + x.outflow) : ShopOff d' (enterEmpty st x) := by
  refine ShopOff.shared ?_ (recompute_shared _ st)
  have hclosed : Shared (x.onHeat st (StationHeat.cleared .empty)) (closeValve causeEmpty (x.onHeat st (StationHeat.cleared .empty)) st) :=
    closeValve_shared _ _ st
  generalize hz : closeValve causeEmpty (x.onHeat st (StationHeat.cleared .empty)) st = z at hclosed
  have hvalves : z.valves = place x.valves st false := by rw [← hz, closeValve_valves]; rfl
  have hheats : z.heats = (x.onHeat st (StationHeat.cleared .empty)).heats := by rw [← hz, closeValve_heats]
  have htaps : z.taps = x.taps := by rw [← hz, closeValve_taps]; rfl
  have hrest := hclosed.internal.rest
  have henabled : look s.enabled st = true := by
    have := (hs.stations st).off
    cases he : look s.enabled st with
    | true => rfl
    | false => exact absurd (this.mpr he) hwas
  have hrecord : ∀ o, z.record o = if st = o then HeatRec.clear .empty else x.record o := fun o =>
    (record_of_heats hheats o).trans (record_onHeat x st o _)
  have hz_enabled : z.enabled = s.enabled := hrest.enabled.trans hx.enabled
  refine hs.vacant (st := st) (.inr rfl) ((congrArg Settings.layout hrest.cfg).trans hx.layout)
    ((congrArg (fun c => c.shop.tMelt) hrest.cfg).trans hx.tMelt) (hrest.heatCounter.trans hcounter) (fun o ho => ?_)
    ((hrecord st).trans (if_pos rfl)) ?_ (fun _ => (hs.stations st).present henabled) ?_
    (hqueue.same htaps (funext (fun o => congrArg HeatRec.phase (record_of_heats hheats o)))) ?_
  · refine ⟨((hrecord o).trans (if_neg (Ne.symm ho))).trans (hx.others o ho), by rw [hz_enabled], fun hv => ?_⟩
    rwa [hvalves, look_place, if_neg (Ne.symm ho), hx.valves] at hv
  · rw [hz_enabled, henabled]; rfl
  · rw [hvalves, look_place, if_pos rfl]
  · rw [hrest.inflow, hrest.outflow]; exact hbalance

theorem cleared_phase (x : State) (st o : Station) :
    (x.onHeat st (StationHeat.cleared .empty)).phase o = if st = o then .empty else x.phase o := by
  have h := congrArg HeatRec.phase (record_onHeat x st o (StationHeat.cleared .empty))
  rw [apply_ite HeatRec.phase] at h
  exact h

/-- A station that no entry has becomes EMPTY. -/
theorem ShopOff.emptiedFree (hs : ShopOff d s) (hx : Besides s x st) (hcounter : x.heatCounter = s.heatCounter) (htaps : x.taps = s.taps)
    (hwas : s.phase st ≠ .superheat ∧ s.phase st ≠ .tapping ∧ s.phase st ≠ .off)
    (hbalance : (x.inflow : Int) + d' + s.outflow + s.mass st = s.inflow + d + x.outflow) : ShopOff d' (enterEmpty st x) := by
  refine hs.emptied hx hcounter hwas.2.2 (hs.queue.phases (st := st) htaps (fun o ho => ?_) ⟨hwas.1, hwas.2.1⟩ ?_) hbalance
  · rw [cleared_phase, if_neg (Ne.symm ho)]
    exact congrArg HeatRec.phase (hx.others o ho)
  · rw [cleared_phase, if_pos rfl]
    exact ⟨Phase.noConfusion, Phase.noConfusion⟩

/-- HEAT EMPTY (R63). -/
theorem ShopOff.heatEmptied (hs : ShopOff d s) (h : s.phase st = .unknown) : ShopOff d (reexamine (enterEmpty st s)) := by
  have hzero := mass_of_not_running (hs.stations st) (by rw [h]; rfl)
  refine ShopOff.shared ?_ (reexamine_shared _)
  refine hs.emptiedFree ⟨rfl, rfl, rfl, rfl, fun _ _ => rfl⟩ rfl rfl (by rw [h]; decide) ?_
  rw [hzero]
  omega

/-! ## Stations that open and close (R3, R8, R9) -/

theorem phase_of_record {o : Station} {p : Phase} (h : x.record o = HeatRec.clear p) : x.phase o = p := congrArg HeatRec.phase h

/-- A present station, OFF or EMPTY, becomes enabled and EMPTY. -/
theorem ShopOff.opened (hs : ShopOff d s) (hpresent : (s.layoutOf st).present = true) (hwas : s.phase st = .off ∨ s.phase st = .empty) :
    ShopOff d { s.onHeat st (fun _ => StationHeat.clear .empty) with enabled := place s.enabled st true } := by
  have hnot : (s.phase st).running = false ∧ (s.phase st).holdsMetal = false ∧ s.phase st ≠ .superheat ∧ s.phase st ≠ .tapping := by
    rcases hwas with h | h <;> rw [h] <;> decide
  obtain ⟨hrunning, hmetal, hfree⟩ := hnot
  have hrecord : ∀ o, ({ s.onHeat st (fun _ => StationHeat.clear .empty) with enabled := place s.enabled st true } : State).record o =
      if st = o then HeatRec.clear .empty else s.record o := fun o => record_onHeat s st o (fun _ => StationHeat.clear .empty)
  have hself := (hrecord st).trans (if_pos rfl)
  have hothers := fun o (ho : o ≠ st) => (hrecord o).trans (if_neg (Ne.symm ho))
  have hvalve : look s.valves st = false := valve_closed hs hmetal
  refine hs.vacant (st := st) (.inr rfl) rfl rfl rfl (fun o ho => ⟨hothers o ho, ?_, id⟩) hself ?_ (fun _ => hpresent) hvalve
    (hs.queue.phases rfl (fun o ho => congrArg HeatRec.phase (hothers o ho)) hfree ?_) ?_
  · exact (look_place _ _ _ _).trans (if_neg (Ne.symm ho))
  · exact (look_place _ _ _ _).trans (if_pos rfl)
  · rw [phase_of_record hself]; exact ⟨Phase.noConfusion, Phase.noConfusion⟩
  · rw [mass_of_not_running (hs.stations st) hrunning]; exact Int.add_zero _

/-- An EMPTY station becomes OFF. -/
theorem ShopOff.closed (hs : ShopOff d s) (hwas : s.phase st = .empty) :
    ShopOff d { s.onHeat st (StationHeat.cleared .off) with enabled := place s.enabled st false } := by
  have hrecord : ∀ o, ({ s.onHeat st (StationHeat.cleared .off) with enabled := place s.enabled st false } : State).record o =
      if st = o then HeatRec.clear .off else s.record o := fun o => record_onHeat s st o _
  have hself := (hrecord st).trans (if_pos rfl)
  have hothers := fun o (ho : o ≠ st) => (hrecord o).trans (if_neg (Ne.symm ho))
  have hvalve : look s.valves st = false := valve_closed hs (by rw [hwas]; rfl)
  refine hs.vacant (st := st) (.inl rfl) rfl rfl rfl (fun o ho => ⟨hothers o ho, ?_, id⟩) hself ?_ (fun h => Phase.noConfusion h) hvalve
    (hs.queue.phases rfl (fun o ho => congrArg HeatRec.phase (hothers o ho)) (by rw [hwas]; decide) ?_) ?_
  · exact (look_place _ _ _ _).trans (if_neg (Ne.symm ho))
  · exact (look_place _ _ _ _).trans (if_pos rfl)
  · rw [phase_of_record hself]; exact ⟨Phase.noConfusion, Phase.noConfusion⟩
  · rw [mass_of_not_running (hs.stations st) (by rw [hwas]; rfl)]; exact Int.add_zero _

theorem ShopOff.enableStation (hs : ShopOff d s) (hpresent : (s.layoutOf st).present = true) (hoff : look s.enabled st = false) :
    ShopOff d (enableStation st s) := by
  have hopened := hs.opened hpresent (.inl ((hs.stations st).off.mpr hoff))
  refine ShopOff.shared ?_ (reexamine_shared _)
  exact ((markStation_deed _ st true).trans (startPrograms_deed _ _)).shopOff (by decide) hopened

theorem ShopOff.disableStation (hs : ShopOff d s) (h : s.phase st = .empty) : ShopOff d (disableStation st s) := by
  have hclosed := (hs.closed h).shared (recompute_shared _ st)
  have hmarked := ((suspendPrograms_deed _ st).trans (markStation_deed _ st false)).shopOff (by decide) hclosed
  exact hmarked.shared (Shared.reexamined (tellOff_shared _ st))

theorem unenabled (hs : ShopOff d s) (h : (s.layoutOf st).present = false) : look s.enabled st = false := by
  cases he : look s.enabled st with
  | false => rfl
  | true => exact absurd ((hs.stations st).present he) (by rw [h]; decide)

/-- The stations of a layout open, one after another (R3). -/
theorem ShopOff.adopted (hs : ShopOff d s) (hblank : s.cfg.layout.loaded = false) {l : Layout} (hl : l.loaded = true) :
    ShopOff d (allStations.foldl adoptStation (s.laidOut l)) := by
  have hoff : ∀ st, s.phase st = .off := fun st => (hs.stations st).off.mpr (unenabled hs (hs.blank hblank st))
  have hzero : ∀ st, s.mass st = 0 := fun st => mass_of_not_running (hs.stations st) (by rw [hoff st]; rfl)
  have hlaid : ShopOff d (s.laidOut l) := by
    refine ⟨fun st => ?_, fun h => absurd (hl.symm.trans h) (by decide), hs.meltRange, hs.counter, hs.queue.same rfl rfl,
      hs.balance⟩
    have hold := hs.stations st
    refine ⟨hold.record, hold.off, fun h => ?_, ?_, hold.melting, hold.estimate, hold.valve⟩
    · exact absurd h (by rw [show look (s.laidOut l).enabled st = false from hold.off.mp (hoff st)]; decide)
    · show s.mass st ≤ _
      rw [hzero st]
      exact Nat.zero_le _
  have hadopted : ShopOff d (allStations.foldl adoptStation (s.laidOut l)) := by
    refine (List.foldlRecOn (motive := fun x => ShopOff d x ∧ ∀ st, x.phase st = .off ∨ x.phase st = .empty) allStations _
      ⟨hlaid, fun st => .inl (hoff st)⟩ (fun x h st _ => ?_)).1
    obtain ⟨hx, hphases⟩ := h
    unfold adoptStation
    split
    · next hpresent =>
      refine ⟨hx.opened hpresent (hphases st), fun o => ?_⟩
      have hrecord : (({ x.onHeat st (fun _ => StationHeat.clear .empty) with enabled := place x.enabled st true } : State)).record o =
          if st = o then HeatRec.clear .empty else x.record o := record_onHeat x st o (fun _ => StationHeat.clear .empty)
      by_cases ho : st = o
      · rw [if_pos ho] at hrecord
        exact .inr (phase_of_record hrecord)
      · rw [if_neg ho] at hrecord
        have hphase := congrArg HeatRec.phase hrecord
        rcases hphases o with h | h
        · exact .inl (hphase.trans h)
        · exact .inr (hphase.trans h)
    · exact ⟨hx, hphases⟩
  exact hadopted

/-- A layout takes effect (R3). -/
theorem ShopOff.takeLayout (hs : ShopOff d s) (hblank : s.cfg.layout.loaded = false) {l : Layout} (hl : l.loaded = true) :
    ShopOff d (takeLayout l s) := by
  rw [takeLayout_eq]
  refine ShopOff.shared ?_ (reexamine_shared _)
  have hunits : ∀ x : State, Deed .units x (allUnits.foldl adoptUnit x) := Deed.foldl (fun x u => Deed.ite (unit_deed x u _) .refl) allUnits
  have hadoptedUnits := (hunits _).shopOff (by decide) (hs.adopted hblank hl)
  exact ((markEvaluated_deed _).trans (startPrograms_deed _ _)).shopOff (by decide) hadoptedUnits

end

end Sys2Proof.Machine

/-!
PROOFS. Readings of the bath, pouring and receiving metal, transfers, and the heats that the host establishes keep the shop floor.
-/

namespace Sys2Proof.Machine

section
variable {s t x : State} {st : Station} {d d' : Int} {e : QueueEntry}

/-! ## Readings (R50, R162) -/

/-- What a record of a liquid bath holds (R15, R17). -/
theorem liquid_parts {r : HeatRec} (hr : r.fits) (h : r.phase.liquid) :
    r.solid = 0 ∧ 0 < r.liquid ∧ r.grade.isSome = true ∧ 1 ≤ r.heatNo ∧ r.heatNo ≤ 65535 := by
  unfold HeatRec.fits at hr
  rcases h with h | h | h <;> rw [h] at hr <;> exact hr

theorem fits_of_liquid {r : HeatRec} (h : r.phase.liquid) (hsolid : r.solid = 0) (hliquid : 0 < r.liquid) (hgrade : r.grade.isSome = true)
    (hheat : 1 ≤ r.heatNo ∧ r.heatNo ≤ 65535) : r.fits := by
  unfold HeatRec.fits
  rcases h with h | h | h <;> rw [h] <;> exact ⟨hsolid, hliquid, hgrade, hheat⟩

theorem fits_of_melt {r : HeatRec} (h : r.phase = .melt) (hsolid : 0 < r.solid) (hgrade : r.grade.isSome = true)
    (hheat : 1 ≤ r.heatNo ∧ r.heatNo ≤ 65535) : r.fits := by
  unfold HeatRec.fits
  rw [h]
  exact ⟨hsolid, hgrade, hheat⟩

theorem clampReading_range (temp : Nat) : 11000 ≤ clampReading temp ∧ clampReading temp ≤ 16500 := clampTo_within (by decide)

theorem ShopOff.applyReading (hs : ShopOff d s) (hliquid : (s.phase st).liquid) (temp : Nat) (origin : DipOrigin) (mark : Bool) :
    ShopOff d (applyReading st temp origin mark s) := by
  have hold := hs.stations st
  obtain ⟨hsolid, hpos, hgrade, hheat⟩ := liquid_parts hold.record hliquid
  have hread : ShopOff d (s.onHeat st (fun h =>
      { h with record := readRecord temp mark h.record, history := addDip h.history (s.dipEntry st temp origin) })) := by
    refine hs.onHeat (r := readRecord temp mark (s.record st)) rfl rfl (fits_of_liquid hliquid hsolid hpos hgrade hheat) hold.capacity
      (fun h => ?_) (fun _ => clampReading_range temp) rfl
    exact absurd h (by rw [show (readRecord temp mark (s.record st)).solid = 0 from hsolid]; decide)
  unfold Machine.applyReading
  simp only
  split
  · exact hread.shared (raise_shared _ .clamped st)
  · exact hread

theorem ShopOff.takeDip (hs : ShopOff d s) (h : s.phase st = .hold ∨ s.phase st = .superheat) (temp : Nat) :
    ShopOff d (takeDip st temp s) := by
  have hread := hs.applyReading (h.imp_right .inl) temp .lance true
  rw [takeDip_eq]
  refine ShopOff.shared ?_ ((recompute_shared _ st).trans (readinessCheck_shared _ st))
  unfold driftJudged
  split
  · exact hread.shared (raise_shared _ .drift st)
  · exact hread

/-! ## Pouring (R55, R161) -/

/-- A record that has given up some of its liquid (R55). -/
def pouredRecord (mass : Nat) (r : HeatRec) : HeatRec :=
  { r with liquid := r.liquid - mass
           residual := if mass < r.liquid then scaleResidual r.residual (r.liquid - mass) r.liquid else r.residual }

theorem pourOut_eq (mass : Nat) : Machine.pourOut st mass s = s.onRecord st (pouredRecord mass) := rfl

/-- Some liquid leaves the bath and some is left. -/
theorem ShopOff.pourOut (hs : ShopOff d s) (hliquid : (s.phase st).liquid) {mass : Nat} (h : mass < (s.record st).liquid) :
    ShopOff (d - mass) (pourOut st mass s) := by
  have hold := hs.stations st
  obtain ⟨hsolid, -, hgrade, hheat⟩ := liquid_parts hold.record hliquid
  have hcapacity := hold.capacity
  unfold State.mass at hcapacity
  show ShopOff _ (s.onHeat st (fun h => { h with record := pouredRecord mass h.record }))
  refine hs.onHeat (r := pouredRecord mass (s.record st)) rfl rfl (fits_of_liquid hliquid hsolid (Nat.sub_pos_of_lt h) hgrade hheat) ?_ hold.melting hold.estimate ?_
  · show (s.record st).solid + ((s.record st).liquid - mass) ≤ _
    omega
  · show d - mass + s.mass st = d + ((s.record st).solid + ((s.record st).liquid - mass) : Nat)
    unfold State.mass
    omega

theorem besides_pourOut (s : State) (st : Station) (mass : Nat) : Besides s (Machine.pourOut st mass s) st :=
  ⟨rfl, rfl, rfl, rfl, fun _ ho => record_onHeat_other ho⟩

theorem ShopOff.withOutflow (hs : ShopOff d s) {n : Nat} (hd : d' = d + n) : ShopOff d' { s with outflow := s.outflow + n } := by
  refine hs.same rfl rfl rfl (fun _ => ⟨rfl, rfl, id⟩) (hs.queue.same rfl rfl) ?_
  show (s.inflow : Int) + d' + s.outflow = s.inflow + d + (s.outflow + n : Nat)
  omega

/-! ## TRANSFER (R54 to R58) -/

/-- What a TRANSFER that is not refused has found. -/
theorem transferRefusal_none {a b : Station} {mass : Nat} (h : transferRefusal s a b mass = none) :
    a ≠ b ∧ s.phase a = .hold ∧ 0 < mass ∧ mass ≤ (s.record a).liquid ∧ s.phase b ≠ .superheat ∧ s.phase b ≠ .unknown ∧
      s.phase b ≠ .tapping ∧ mass ≤ s.room b := by
  simp only [transferRefusal, refusal_none, not_or, not_and, Nat.not_lt] at h
  obtain ⟨hne, -, hhold, ⟨hmass, hliquid⟩, hsuper, ⟨hunknown, htapping⟩, -, hroom, -⟩ := h
  exact ⟨hne, not_not.mp hhold, Nat.pos_of_ne_zero hmass, hliquid, hsuper, hunknown, htapping, hroom⟩

/-- The source has given up the mass (R55). -/
theorem ShopOff.given (hs : ShopOff d s) {a : Station} {mass : Nat} (ha : s.phase a = .hold) (h : mass ≤ (s.record a).liquid) :
    ShopOff (d - mass) (if mass < (s.record a).liquid then recompute a (Machine.pourOut a mass s)
      else enterEmpty a (Machine.pourOut a mass s)) := by
  split
  · next hlt => exact (hs.pourOut (.inl ha) hlt).shared (recompute_shared _ a)
  · next hge =>
    obtain ⟨hsolid, -⟩ := liquid_parts (hs.stations a).record (.inl ha)
    refine hs.emptiedFree (besides_pourOut s a mass) rfl rfl (by rw [ha]; decide) ?_
    show (s.inflow : Int) + (d - mass) + s.outflow + s.mass a = s.inflow + d + s.outflow
    unfold State.mass
    omega

theorem enterEmpty_record_other {o : Station} (ho : o ≠ st) : (enterEmpty st s).record o = s.record o := by
  unfold enterEmpty
  rw [recompute_record, record_of_heats (closeValve_heats _ _ _), record_onHeat_other ho]

theorem given_record {a b : Station} {mass : Nat} (hne : a ≠ b) : (if mass < (s.record a).liquid then recompute a (Machine.pourOut a mass s)
    else enterEmpty a (Machine.pourOut a mass s)).record b = s.record b := by
  have hpoured : (Machine.pourOut a mass s).record b = s.record b := record_onHeat_other (Ne.symm hne)
  split
  · rw [recompute_record, hpoured]
  · rw [enterEmpty_record_other (Ne.symm hne), hpoured]

/-- The weighted mean of two temperatures lies where they lie. -/
theorem mean_range {m n p q lo hi : Nat} (hpos : 0 < m + n) (hp : lo ≤ p ∧ p ≤ hi) (hq : lo ≤ q ∧ q ≤ hi) :
    lo ≤ (m * p + n * q) / (m + n) ∧ (m * p + n * q) / (m + n) ≤ hi := by
  constructor
  · rw [Nat.le_div_iff_mul_le hpos]
    nlinarith [Nat.mul_le_mul_left m hp.1, Nat.mul_le_mul_left n hq.1]
  · refine Nat.div_le_of_le_mul ?_
    nlinarith [Nat.mul_le_mul_left m hp.2, Nat.mul_le_mul_left n hq.2]

/-- The destination takes the metal (R56, R57). -/
theorem ShopOff.receive (hs : ShopOff d s) {b : Station} {mass tIn : Nat} {src : HeatRec} (hsrc : src.fits) (hliquid : src.phase.liquid)
    (hb : s.phase b = .empty ∨ s.phase b = .melt ∨ s.phase b = .hold) (hpos : 0 < mass) (hroom : mass ≤ s.room b)
    (htemp : 11000 ≤ tIn ∧ tIn ≤ 16500) : ShopOff (d + mass) (receive b mass tIn src s) := by
  have hold := hs.stations b
  obtain ⟨-, -, hgrade, -⟩ := liquid_parts hsrc hliquid
  have hcap : s.mass b + mass ≤ s.capacity b := by
    have := hold.capacity
    unfold State.room at hroom
    unfold State.mass at this ⊢
    omega
  unfold Machine.receive
  split
  · next hempty =>
    have hzero := mass_of_not_running hold (by rw [hempty]; rfl)
    have hbegun : ShopOff (d + mass) (advanceHeatNo (s.onHeat b
        (StationHeat.begun (receivedEmpty s.heatCounter mass tIn src) []))) := by
      refine hs.became (st := b) ⟨rfl, rfl, rfl, rfl, fun o ho => record_onHeat_other ho⟩ rfl (nextHeatNo_range hs.counter)
        record_onHeat_self (by rw [hempty]; decide) (.inr rfl) (fits_of_liquid (.inl rfl) rfl hpos hgrade hs.counter) ?_
        (fun h => absurd h (Nat.lt_irrefl 0)) htemp ?_
      · show 0 + mass ≤ _
        omega
      · show (s.inflow : Int) + (d + mass) + s.outflow + s.mass b = s.inflow + d + s.outflow + (0 + mass : Nat)
        omega
    refine hbegun.shared (beginMetal_shared _ ?_)
    exact congrArg Phase.running (congrArg HeatRec.phase (record_onHeat_self (s := s)))
  · next hempty =>
    have hrun : s.phase b = .melt ∨ s.phase b = .hold := hb.resolve_left hempty
    have hphase : (s.record b).phase = s.phase b := rfl
    refine hs.onHeat (r := receivedRunning s.cfg.shop.c10 s.cfg.shop.tMelt mass tIn src (s.record b)) rfl rfl ?_ ?_ ?_ ?_ ?_
    · have hr := hold.record
      unfold HeatRec.fits at hr ⊢
      rcases hrun with h | h <;> rw [h] at hphase <;>
        simp only [hphase, show (receivedRunning s.cfg.shop.c10 s.cfg.shop.tMelt mass tIn src (s.record b)).phase = _ from hphase] at hr ⊢
      · exact hr
      · obtain ⟨hsolid, hpos', hrest⟩ := hr
        exact ⟨hsolid, Nat.lt_of_lt_of_le hpos' (Nat.le_add_right _ _), hrest⟩
    · show (s.record b).solid + ((s.record b).liquid + mass) ≤ _
      unfold State.mass at hcap
      omega
    · intro hsolid
      have hmelt := running_of_solid hold.record hsolid
      show (if (s.record b).phase = .hold then _ else (s.record b).tEst) = _
      rw [if_neg (by rw [hmelt]; decide)]
      exact hold.melting hsolid
    · intro hrunning
      have hest := hold.estimate hrunning
      show 11000 ≤ (if (s.record b).phase = .hold then _ else (s.record b).tEst) ∧
        (if (s.record b).phase = .hold then _ else (s.record b).tEst) ≤ 16500
      split
      · exact mean_range (by omega) hest htemp
      · exact hest
    · show d + mass + s.mass b = d + ((s.record b).solid + ((s.record b).liquid + mass) : Nat)
      unfold State.mass
      omega

theorem incomingTemp_range {t drop : Nat} (h : t ≤ 16500) : 11000 ≤ incomingTemp t drop ∧ incomingTemp t drop ≤ 16500 := by
  unfold incomingTemp Config.tLow
  omega

theorem ShopOff.takeTransfer (hs : ShopOff d s) {a b : Station} {mass : Nat} (hoff : s.phase b ≠ .off)
    (h : transferRefusal s a b mass = none) : ShopOff d (takeTransfer a b mass s) := by
  obtain ⟨hne, hhold, hpos, hliquid, hsuper, hunknown, htapping, hroom⟩ := transferRefusal_none h
  have hgiven := hs.given hhold hliquid
  have hrecord := given_record (s := s) (mass := mass) hne
  have hlayout : ∀ x : State, x.cfg = s.cfg → x.record b = s.record b → x.room b = s.room b := by
    intro x hcfg hrec
    simp only [State.room, State.capacity, State.layoutOf, hcfg, hrec]
  have hcfg : (if mass < (s.record a).liquid then recompute a (Machine.pourOut a mass s)
      else enterEmpty a (Machine.pourOut a mass s)).cfg = s.cfg := by
    split
    · exact (recompute_shared _ a).internal.rest.cfg
    · exact (enterEmpty_internal _ a).rest.cfg
  unfold Machine.takeTransfer
  simp only
  refine ShopOff.shared ?_ (Shared.reexamined ((raise_shared _ .mixed b).recomputed b))
  generalize (if mass < (s.record a).liquid then recompute a (Machine.pourOut a mass s)
    else enterEmpty a (Machine.pourOut a mass s)) = x at hgiven hrecord hcfg
  have hb : x.phase b = .empty ∨ x.phase b = .melt ∨ x.phase b = .hold := by
    rw [show x.phase b = s.phase b from congrArg HeatRec.phase hrecord]
    cases hp : s.phase b <;> simp_all
  have hest := (hs.stations a).estimate (by rw [hhold]; rfl)
  have hreceived := hgiven.receive (hs.stations a).record (.inl hhold) hb hpos (hlayout x hcfg hrecord ▸ hroom)
    (incomingTemp_range (drop := s.cfg.shop.transferDrop) hest.2)
  rwa [Int.sub_add_cancel] at hreceived

/-! ## Heats that the host establishes (R60 to R62) -/

theorem ShopOff.establish (hs : ShopOff d s) (hunknown : s.phase st = .unknown) {r : HeatRec} (his : r.phase = .melt ∨ r.phase = .hold)
    (hfits : r.fits) (hcapacity : r.solid + r.liquid ≤ s.capacity st) (hmelting : 0 < r.solid → r.tEst = s.cfg.shop.tMelt)
    (hestimate : 11000 ≤ r.tEst ∧ r.tEst ≤ 16500) (history : List DipEntry) : ShopOff d (establish st r history s) := by
  have hzero := mass_of_not_running (hs.stations st) (by rw [hunknown]; rfl)
  have hbegun : ShopOff (d + (r.solid + r.liquid : Nat)) (s.onHeat st (StationHeat.begun r history)) := by
    refine hs.became (besides_onHeat s st _) rfl hs.counter record_onHeat_self (by rw [hunknown]; decide) his hfits hcapacity hmelting
      hestimate ?_
    show (s.inflow : Int) + (d + (r.solid + r.liquid : Nat)) + s.outflow + s.mass st = s.inflow + d + s.outflow + (r.solid + r.liquid : Nat)
    omega
  exact (hbegun.withInflow rfl).shared (Shared.reexamined (recompute_shared _ st))

theorem gradeOf_isSome {n : Nat} (h : n < 16) : (gradeOf n).isSome = true := by rw [gradeOf_of_lt h]; rfl

/-- What a valid image holds (R60). -/
theorem image_parts {number capacity : Nat} {im : List Byte} (h : imageInvalid number capacity im = false) :
    u8At im 3 < 16 ∧ 1 ≤ u16At im 4 ∧ 0 < u32At im 8 + u32At im 12 ∧ u32At im 8 + u32At im 12 ≤ capacity ∧
      11000 ≤ u16At im 16 ∧ u16At im 16 ≤ 16500 := by
  simp only [imageInvalid, Bool.or_eq_false_iff, decide_eq_false_iff_not, Nat.not_lt, Config.tLow, Config.tHigh] at h
  obtain ⟨⟨⟨⟨⟨⟨⟨⟨-, hgrade⟩, hheat⟩, hmass⟩, hcapacity⟩, hlow⟩, hhigh⟩, -⟩, -⟩ := h
  have hlow := of_decide_eq_false hlow
  have hhigh := of_decide_eq_false hhigh
  omega

theorem ShopOff.heatLoaded (hs : ShopOff d s) (hunknown : s.phase st = .unknown) {number : Nat} {im : List Byte}
    (h : imageInvalid number (s.capacity st) im = false) :
    ShopOff d (Machine.establish st (loadedRecord s.cfg.shop.tMelt im) [] s) := by
  obtain ⟨hgrade, hheat, hmass, hcapacity, htemp⟩ := image_parts h
  have hnumber := u16At_lt im 4
  have hmelt := hs.meltRange
  have hgrade := gradeOf_isSome hgrade
  refine hs.establish hunknown ?_ ?_ hcapacity (fun hsolid => if_pos hsolid) ?_ []
  · show (if 0 < u32At im 8 then Phase.melt else .hold) = _ ∨ (if 0 < u32At im 8 then Phase.melt else .hold) = _
    split
    · exact .inl rfl
    · exact .inr rfl
  · by_cases hsolid : 0 < u32At im 8
    · have hphase : (loadedRecord s.cfg.shop.tMelt im).phase = .melt := if_pos hsolid
      exact fits_of_melt hphase hsolid hgrade ⟨hheat, by show u16At im 4 ≤ _; omega⟩
    · have hphase : (loadedRecord s.cfg.shop.tMelt im).phase = .hold := if_neg hsolid
      refine fits_of_liquid (.inl hphase) (Nat.eq_zero_of_not_pos hsolid) ?_ hgrade ⟨hheat, by show u16At im 4 ≤ _; omega⟩
      show 0 < u32At im 12
      omega
  · show 11000 ≤ (if 0 < u32At im 8 then _ else _) ∧ (if 0 < u32At im 8 then _ else _) ≤ 16500
    split <;> omega

theorem ShopOff.heatDeclared (hs : ShopOff d s) (hunknown : s.phase st = .unknown) {p : List Byte} (h : ¬ declareBad p s st)
    (history : List DipEntry) :
    ShopOff d (Machine.establish st (declaredRecord s.cfg.shop.tMelt s.heatCounter (gradeOf (u8At p 1)) (u16At p 2) (u16At p 4) (u16At p 6))
      history (advanceHeatNo s)) := by
  have hadvanced : ShopOff d (advanceHeatNo s) :=
    hs.change 0 rfl rfl (nextHeatNo_range hs.counter) (fun _ _ => ⟨rfl, rfl, id⟩)
      ((hs.stations 0).same ⟨rfl, rfl, id⟩ rfl rfl) (hs.queue.same rfl rfl) rfl
  have hmelt := hs.meltRange
  simp only [declareBad, not_or, not_and, Nat.not_lt] at h
  obtain ⟨hgrade, hmass, hcapacity, htemp⟩ := h
  have hgrade := gradeOf_isSome (Nat.lt_succ_of_le hgrade)
  have hcounter := hs.counter
  unfold declaredRecord
  split
  · next hsolid =>
    exact hadvanced.establish hunknown (.inl rfl) (fits_of_melt rfl hsolid hgrade hcounter) hcapacity (fun _ => rfl)
      ⟨Nat.le_trans (by decide) hmelt.1, Nat.le_trans hmelt.2 (by decide)⟩ history
  · next hsolid =>
    have hnone := Nat.eq_zero_of_not_pos hsolid
    refine hadvanced.establish hunknown (.inr rfl) (fits_of_liquid (.inl rfl) rfl ?_ hgrade hcounter) ?_
      (fun hpos => absurd hpos (Nat.lt_irrefl 0)) (htemp hnone) history
    · show 0 < u16At p 4
      omega
    · show 0 + u16At p 4 ≤ s.capacity st
      omega

end

end Sys2Proof.Machine

/-!
PROOFS. Ladles and taps keep the shop floor.
-/

namespace Sys2Proof.Machine

section
variable {s t x : State} {st : Station} {d d' : Int} {e : QueueEntry} {i : Nat}

/-! ## Entries that leave (R158, R162, R164) -/

theorem QueueFits.of_drop {g : HeatRec → HeatRec} (hcounter : 1 ≤ s.taps.permitCounter ∧ s.taps.permitCounter ≤ 255)
    (hok : QueueOk (s.taps.entries.eraseIdx i) ((s.dropEntry i).onRecord st g).phase) : QueueFits ((s.dropEntry i).onRecord st g) :=
  queueFits_iff.mpr ⟨hok, hcounter⟩

/-- An entry leaves, its station back in HOLD. -/
theorem ShopOff.heldAgain (hs : ShopOff d s) (he : s.taps.entries[i]? = some e) (hst : e.station = some st) :
    ShopOff d (toHold st (s.dropEntry i)) := by
  have hok := hs.queue.at he
  have hphase := hok.head_phase hst
  have hliquid : (s.phase st).liquid := by
    rw [hphase]
    split
    · exact .inr (.inr rfl)
    · exact .inr (.inl rfl)
  refine ShopOff.shared ?_ (recompute_shared _ st)
  refine hs.rephased { s.taps with entries := s.taps.entries.eraseIdx i } (p := .hold) (m := (s.record st).dipMark) rfl hliquid
    (.inl rfl) (QueueFits.of_drop hs.queue.counter (hok.remove (fun o ho => ?_) (fun o ho => ?_)))
  · rw [phase_onRecord, if_neg (fun k : st = o => ho (k ▸ hst))]
    rfl
  · cases hst.symm.trans ho
    rw [phase_onRecord, if_pos rfl]
    exact ⟨Phase.noConfusion, Phase.noConfusion⟩

/-- An entry leaves, with a station in HOLD again if it had one. -/
theorem ShopOff.freed (hs : ShopOff d s) (he : s.taps.entries[i]? = some e) : ShopOff d (freeStation e (s.dropEntry i)) := by
  unfold freeStation
  split
  · next st hst => exact hs.heldAgain he hst
  · next hst =>
    have hok := (hs.queue.at he).remove (phase' := s.phase) (fun _ _ => rfl) (fun o ho => absurd (hst.symm.trans ho) (by simp))
    exact hs.same rfl rfl rfl (fun _ => ⟨rfl, rfl, id⟩) (queueFits_iff.mpr ⟨hok, hs.queue.counter⟩) rfl

theorem onEntry_continues (hs : ShopOff d s) (f : QueueEntry → QueueEntry) (he : s.taps.entries[i]? = some e)
    (hok : QueueOk (f e :: s.taps.entries.eraseIdx i) s.phase) : ShopOff d (s.onEntry i f) :=
  hs.same rfl rfl rfl (fun _ => ⟨rfl, rfl, id⟩) (queueFits_iff.mpr ⟨hok.perm (perm_modify he f).symm, hs.queue.counter⟩) rfl

/-- A permit that has not been started ends (R158). -/
theorem ShopOff.expired (hs : ShopOff d s) (he : s.taps.entries[i]? = some e) (hpouring : e.pouring = false) (id : Nat) :
    ShopOff d (expirePermit i e id s) := by
  unfold Machine.expirePermit
  simp only
  split
  · exact (hs.freed he).shared (Shared.reexamined (notify_shared _ ..))
  · refine ShopOff.shared ?_ (notify_shared _ ..)
    have hok := hs.queue.at he
    refine onEntry_continues hs (fun x => { x with permit := none, expiries := e.expiries + 1 }) he
      (hok.replace rfl (fun _ ho => hok.head_alone ho) (fun _ h => by cases h) (fun h => by cases h) (fun _ _ _ => rfl)
        (fun o ho hne => absurd ho hne) (fun o ho => ?_))
    have hphase := hok.head_phase ho
    rw [hpouring] at hphase
    exact hphase

/-! ## TAP START (R160) -/

theorem pouring_started {q : Permit} (h : e.permit = some q) :
    ({ e with permit := e.permit.map (fun q => { q with started := true }) } : QueueEntry).pouring = true := by
  simp [QueueEntry.pouring, h]

theorem ShopOff.startTap (hs : ShopOff d s) (he : s.taps.entries[i]? = some e) (hpermit : e.permit.isSome = true)
    (hpouring : e.pouring = false) : ShopOff d (startTap i e s) := by
  have hok := hs.queue.at he
  obtain ⟨st, hst⟩ := Option.isSome_iff_exists.mp (hok.assigned e List.mem_cons_self hpermit)
  obtain ⟨q, hq⟩ := Option.isSome_iff_exists.mp hpermit
  have hphase := hok.head_phase hst
  rw [hpouring] at hphase
  unfold Machine.startTap
  simp only [hst]
  refine ShopOff.shared ?_ (Shared.reexamined (recompute_shared _ st))
  refine hs.rephased _ (p := .tapping) (m := (s.record st).dipMark) rfl (.inr (.inl hphase)) (.inr (.inr rfl)) ?_
  refine QueueFits.of_entry hs.queue.counter he (hok.replace rfl (fun _ ho => hok.head_alone ho) (fun id hid => ?_)
    (fun _ => by rw [hst]; rfl) (fun o ho _ => ?_) (fun o ho hne => absurd ho hne) (fun o ho => ?_))
  · have hold : e.permitId = some id := by rw [← hid]; simp [QueueEntry.permitId, hq]
    have hnodup := hok.permits
    rw [List.filterMap_cons_some hold, List.nodup_cons] at hnodup
    exact ⟨hok.permitRange id (List.mem_filterMap.mpr ⟨e, List.mem_cons_self, hold⟩), hnodup.1⟩
  · rw [phase_onRecord, if_neg (fun k : st = o => ho (k ▸ hst))]
    rfl
  · cases hst.symm.trans ho
    rw [phase_onRecord, if_pos rfl, pouring_started hq]
    rfl

/-! ## The end of a tap (R161 to R163) -/

theorem raise_taps {f : HeatFlag} (hf : f ≠ .water) (st : Station) (s : State) : (raise f st s).taps = s.taps := by
  have hcond : ¬ (f = .water ∧ hasFlag (s.record st).flags .water = false) := fun h => hf h.1
  simp only [raise, if_neg hcond]
  split
  · split <;> rfl
  · rfl

theorem raise_liquid {f : HeatFlag} (hf : f ≠ .water) (st o : Station) (s : State) :
    ((raise f st s).record o).liquid = (s.record o).liquid := by
  have hcond : ¬ (f = .water ∧ hasFlag (s.record st).flags .water = false) := fun h => hf h.1
  have hmarked : ((s.onRecord st (fun r => { r with flags := setFlag r.flags f })).record o).liquid = (s.record o).liquid := by
    rw [State.onRecord_record]
    split
    · next h => rw [← h]
    · rfl
  simp only [raise, if_neg hcond]
  split
  · split
    · exact hmarked
    · exact hmarked
  · rfl

theorem applyReading_taps (st : Station) (temp : Nat) (origin : DipOrigin) (mark : Bool) (s : State) :
    (applyReading st temp origin mark s).taps = s.taps := by
  unfold applyReading
  simp only
  split
  · rw [raise_taps (by decide)]; rfl
  · rfl

theorem applyReading_liquid (st : Station) (temp : Nat) (origin : DipOrigin) (mark : Bool) (s : State) :
    ((applyReading st temp origin mark s).record st).liquid = (s.record st).liquid := by
  have hread : ((s.onHeat st (fun h =>
      { h with record := readRecord temp mark h.record, history := addDip h.history (s.dipEntry st temp origin) })).record st).liquid =
      (s.record st).liquid := by rw [record_onHeat_self]; rfl
  unfold applyReading
  simp only
  split
  · rw [raise_liquid (by decide), hread]
  · exact hread

theorem ShopOff.pourLadle (hs : ShopOff d s) (hliquid : (s.phase st).liquid) {mass : Nat} (h : mass < (s.record st).liquid) :
    ShopOff d (pourLadle st mass s) := (hs.pourOut hliquid h).withOutflow (n := mass) (by omega)

theorem pourLadle_record (mass : Nat) : (Machine.pourLadle st mass s).record st = pouredRecord mass (s.record st) :=
  record_onHeat_self (s := s) (f := fun h => { h with record := pouredRecord mass h.record })

theorem pourLadle_phase (mass : Nat) : (Machine.pourLadle st mass s).phase st = s.phase st := by
  show ((Machine.pourLadle st mass s).record st).phase = _
  rw [pourLadle_record]
  rfl

theorem besides_pourLadle (s : State) (st : Station) (mass : Nat) : Besides s (Machine.pourLadle st mass s) st :=
  ⟨rfl, rfl, rfl, rfl, fun _ ho => record_onHeat_other (s := s) (f := fun h => { h with record := pouredRecord mass h.record }) ho⟩

/-- The liquid is gone: the station becomes EMPTY, its entry without a station or out of the queue. -/
theorem ShopOff.drained (hs : ShopOff d s) (q : List QueueEntry) (he : s.taps.entries[i]? = some e) (hst : e.station = some st)
    (hpouring : e.pouring = true)
    (hq : ∀ phase', (∀ o, e.station ≠ some o → phase' o = s.phase o) → (∀ o, e.station = some o → phase' o ≠ .superheat ∧ phase' o ≠ .tapping) →
      QueueOk q phase') : ShopOff d (enterEmpty st ((Machine.pourLadle st (s.record st).liquid s).withEntries q)) := by
  have hok := hs.queue.at he
  have hphase := hok.head_phase hst
  rw [hpouring] at hphase
  obtain ⟨hsolid, -⟩ := liquid_parts (hs.stations st).record (.inr (.inr hphase))
  have hbesides := besides_pourLadle s st (s.record st).liquid
  refine hs.emptied ⟨rfl, rfl, rfl, rfl, hbesides.others⟩ rfl (by rw [hphase]; decide) (queueFits_iff.mpr ⟨hq _ ?_ ?_, hs.queue.counter⟩) ?_
  · intro o ho
    rw [cleared_phase, if_neg (fun k : st = o => ho (k ▸ hst))]
    exact congrArg HeatRec.phase (hbesides.others o (fun k => ho (k ▸ hst)))
  · intro o ho
    cases hst.symm.trans ho
    rw [cleared_phase, if_pos rfl]
    exact ⟨Phase.noConfusion, Phase.noConfusion⟩
  · show (s.inflow : Int) + d + s.outflow + s.mass st = s.inflow + d + (s.outflow + (s.record st).liquid : Nat)
    unfold State.mass
    omega

theorem tapping_of_pouring (hs : ShopOff d s) (he : s.taps.entries[i]? = some e) (hst : e.station = some st)
    (hpouring : e.pouring = true) : (s.phase st).liquid ∧ 0 < (s.record st).liquid := by
  have hphase := (hs.queue.at he).head_phase hst
  rw [hpouring] at hphase
  obtain ⟨-, hpos, -⟩ := liquid_parts (hs.stations st).record (.inr (.inr hphase))
  exact ⟨.inr (.inr hphase), hpos⟩

/-- The tap of an entry that leaves the queue ends (R162, R163), the liquid all gone. -/
theorem ShopOff.endedDry (hs : ShopOff d s) (he : s.taps.entries[i]? = some e) (hst : e.station = some st) (hpouring : e.pouring = true) :
    ShopOff d (endTap st ((Machine.pourLadle st (s.record st).liquid s).dropEntry i)) := by
  have hdry : (((Machine.pourLadle st (s.record st).liquid s).dropEntry i).record st).liquid = 0 :=
    (congrArg HeatRec.liquid (pourLadle_record (s := s) (st := st) _)).trans (Nat.sub_self _)
  unfold endTap
  rw [if_pos hdry]
  exact hs.drained _ he hst hpouring (fun _ hothers hfreed => (hs.queue.at he).remove hothers hfreed)

/-- The tap of an entry that leaves the queue ends, with liquid left. -/
theorem ShopOff.endedWet (hs : ShopOff d s) (he : s.taps.entries[i]? = some e) (hst : e.station = some st)
    (hliquid : (s.record st).liquid ≠ 0) : ShopOff d (endTap st (s.dropEntry i)) := by
  unfold endTap
  rw [if_neg (show ((s.dropEntry i).record st).liquid ≠ 0 from hliquid)]
  exact hs.heldAgain he hst

theorem ShopOff.takeTapDone (hs : ShopOff d s) (he : s.taps.entries[i]? = some e) (hst : e.station = some st)
    (hpouring : e.pouring = true) {poured : Nat} (hpoured : poured ≤ (s.record st).liquid) (temp : Nat) :
    ShopOff d (takeTapDone i st poured temp s) := by
  obtain ⟨hliquid, hpos⟩ := tapping_of_pouring hs he hst hpouring
  have hleft : ((Machine.pourLadle st poured s).record st).liquid = (s.record st).liquid - poured :=
    congrArg HeatRec.liquid (pourLadle_record poured)
  unfold Machine.takeTapDone
  simp only
  refine ShopOff.shared ?_ (reexamine_shared _)
  by_cases hall : poured = (s.record st).liquid
  · rw [if_neg (by rw [hleft, hall]; omega), hall]
    exact hs.endedDry he hst hpouring
  · have hwet : ShopOff d (Machine.pourLadle st poured s) := hs.pourLadle hliquid (by omega)
    have hphase : ((Machine.pourLadle st poured s).phase st).liquid := (pourLadle_phase poured).symm ▸ hliquid
    split
    · refine (hwet.applyReading hphase temp .tap false).endedWet (e := e) (by rw [applyReading_taps]; exact he) hst ?_
      rw [applyReading_liquid, hleft]
      omega
    · exact hwet.endedWet (e := e) he hst (by rw [hleft]; omega)

theorem ShopOff.tapAborted (hs : ShopOff d s) (he : s.taps.entries[i]? = some e) (hst : e.station = some st)
    (hpouring : e.pouring = true) {poured : Nat} (hpoured : poured ≤ (s.record st).liquid) (massLeft : Nat) :
    ShopOff d (settleAbort i st massLeft (Machine.pourLadle st poured s)) := by
  obtain ⟨hliquid, hpos⟩ := tapping_of_pouring hs he hst hpouring
  have hleft : ((Machine.pourLadle st poured s).record st).liquid = (s.record st).liquid - poured :=
    congrArg HeatRec.liquid (pourLadle_record poured)
  have hok := hs.queue.at he
  unfold settleAbort
  by_cases hall : poured = (s.record st).liquid
  · split
    · rw [hall]; exact hs.endedDry he hst hpouring
    · rw [if_pos (by rw [hleft, hall]; omega), hall]
      refine hs.drained _ he hst hpouring (fun phase' hothers hfreed => QueueOk.perm ?_ (perm_modify he _).symm)
      exact hok.replace rfl (fun _ h => by cases h) (fun _ h => by cases h) (fun h => by cases h) (fun o ho _ => hothers o ho)
        (fun o ho _ => hfreed o ho) (fun _ h => by cases h)
  · have hwet : ShopOff d (Machine.pourLadle st poured s) := hs.pourLadle hliquid (by omega)
    split
    · exact hwet.endedWet (e := e) he hst (by rw [hleft]; omega)
    · rw [if_neg (by rw [hleft]; omega)]
      refine ShopOff.shared ?_ (recompute_shared _ st)
      have hok := hwet.queue.at (i := i) (e := e) he
      refine hwet.rephased _ (p := .superheat) (m := false) rfl ((pourLadle_phase poured).symm ▸ hliquid) (.inr (.inl rfl)) ?_
      refine QueueFits.of_entry (s := Machine.pourLadle st poured s) hs.queue.counter he (hok.replace rfl (fun _ ho => hok.head_alone ho)
        (fun _ h => by cases h) (fun h => by cases h) (fun o ho _ => ?_) (fun o ho hne => absurd ho hne) (fun o ho => ?_))
      · rw [phase_onRecord, if_neg (fun k : st = o => ho (k ▸ hst))]
        rfl
      · cases hst.symm.trans ho
        rw [phase_onRecord, if_pos rfl]
        rfl

end

end Sys2Proof.Machine

/-!
PROOFS. The model step, writes of the SHOP table and the resets keep the shop floor; so every command does.
-/

namespace Sys2Proof.Machine

section
variable {s t x : State} {st : Station} {d d' : Int}

/-! ## The model step (R26 to R31) -/

/-- Stage 4 moves no more than there is. -/
theorem meltedMass_range (h : Nat) (e : Int) (r : HeatRec) : -(r.liquid : Int) ≤ meltedMass h e r ∧ meltedMass h e r ≤ r.solid := by
  unfold meltedMass
  simp only
  split
  · omega
  · split <;> omega

theorem stageClamp_range (t : Int) : 11000 ≤ (stageClamp t).1 ∧ (stageClamp t).1 ≤ 16500 := by
  unfold stageClamp Config.tHigh Config.tLow
  split
  · exact ⟨by decide, by decide⟩
  · split
    · exact ⟨by decide, by decide⟩
    · show 11000 ≤ t.toNat ∧ t.toNat ≤ 16500
      omega

theorem stageClamp_inside {t : Nat} (h : 11000 ≤ t ∧ t ≤ 16500) : (stageClamp t).1 = t := by
  unfold stageClamp Config.tHigh Config.tLow
  rw [if_neg (by omega), if_neg (by omega)]
  rfl

/-- The identity of a record's heat: what stages 1 to 7 leave. -/
def HeatRec.sameHeat (r r' : HeatRec) : Prop := r'.phase = r.phase ∧ r'.grade = r.grade ∧ r'.heatNo = r.heatNo

/-- Stages 4 to 6 leave the mass, and no solid where there was none; the estimate is T_melt with solid and lies in the model's range. -/
theorem stageBath_parts (shop : ShopRec) (e : Int) (r : HeatRec) (hmelt : 11000 ≤ shop.tMelt ∧ shop.tMelt ≤ 16500) :
    r.sameHeat (stageBath shop e r).1 ∧ (stageBath shop e r).1.solid + (stageBath shop e r).1.liquid = r.solid + r.liquid ∧
      (r.solid = 0 → (stageBath shop e r).1.solid = 0) ∧ (0 < r.solid → (stageBath shop e r).1.tEst = shop.tMelt) ∧
      11000 ≤ (stageBath shop e r).1.tEst ∧ (stageBath shop e r).1.tEst ≤ 16500 := by
  unfold stageBath
  split
  · next hsolid =>
    have hrange := meltedMass_range shop.h e r
    refine ⟨⟨rfl, rfl, rfl⟩, ?_, fun h => absurd h (Nat.ne_of_gt hsolid), fun _ => stageClamp_inside hmelt, stageClamp_range _⟩
    show ((r.solid : Int) - meltedMass shop.h e r).toNat + ((r.liquid : Int) + meltedMass shop.h e r).toNat = _
    omega
  · next hnone =>
    exact ⟨⟨rfl, rfl, rfl⟩, rfl, id, fun h => absurd h hnone, stageClamp_range _⟩

/-- The record that stages 1 to 7 leave before a MELT DONE. -/
def countedRecord (s : State) (st : Station) : HeatRec :=
  stageCount (s.stationRec st).eta (s.stationPower st)
    (stageBath s.cfg.shop (availableEnergy (s.stationRec st) (s.stationPower st) (s.record st)) (s.record st)).1

theorem bathStepOf_record (s : State) (st : Station) : (s.bathStepOf st).heat.record =
    if 0 < (s.record st).solid ∧ (countedRecord s st).solid = 0 then meltDoneRecord (countedRecord s st) else countedRecord s st := by
  show (if (decide _ && decide _) = true then _ else _) = _
  simp only [Bool.and_eq_true, decide_eq_true_eq]
  rfl

theorem ShopOff.modelStep (hs : ShopOff d s) (hrunning : (s.phase st).running = true) : ShopOff d (modelStep st s) := by
  have hold := hs.stations st
  have hrange : 11000 ≤ s.cfg.shop.tMelt ∧ s.cfg.shop.tMelt ≤ 16500 := by
    have := hs.meltRange
    omega
  obtain ⟨⟨hphase, hgrade, hheat⟩, hmass, hnone, htemp, hestimate⟩ := stageBath_parts s.cfg.shop
    (availableEnergy (s.stationRec st) (s.stationPower st) (s.record st)) (s.record st) hrange
  have hcount : ∀ r : HeatRec, r = countedRecord s st → r.phase = s.phase st ∧ r.grade = (s.record st).grade ∧
      r.heatNo = (s.record st).heatNo ∧ r.solid + r.liquid = s.mass st ∧ ((s.record st).solid = 0 → r.solid = 0) ∧
      (0 < (s.record st).solid → r.tEst = s.cfg.shop.tMelt) ∧ 11000 ≤ r.tEst ∧ r.tEst ≤ 16500 := by
    rintro r rfl
    exact ⟨hphase, hgrade, hheat, hmass, hnone, htemp, hestimate⟩
  clear hphase hgrade hheat hmass hnone htemp hestimate
  obtain ⟨hphase, hgrade, hheat, hmass, hnone, htemp, hestimate⟩ := hcount _ rfl
  have hrecord := bathStepOf_record s st
  refine ShopOff.shared ?_ (modelStep_shared s st)
  generalize s.bathStepOf st = b at hrecord
  have hstored : ShopOff d (s.onHeat st (fun _ => b.heat)) := by
    have hparts := hold.record
    by_cases hdone : 0 < (s.record st).solid ∧ (countedRecord s st).solid = 0
    · rw [if_pos hdone] at hrecord
      have hmelt := running_of_solid hold.record hdone.1
      have hwas : s.phase st = .melt := hmelt
      unfold HeatRec.fits at hparts
      rw [hmelt] at hparts
      obtain ⟨hpos, hsome, hno⟩ := hparts
      have hall : (countedRecord s st).liquid = s.mass st := by omega
      refine hs.became (besides_onHeat s st _) rfl hs.counter record_onHeat_self (by rw [hwas]; decide) (.inr (by rw [hrecord]; rfl)) ?_ ?_
        ?_ ?_ ?_
      · rw [hrecord]
        refine fits_of_liquid (.inl rfl) hdone.2 ?_ (by show (countedRecord s st).grade.isSome = true; rw [hgrade]; exact hsome)
          (by show 1 ≤ (countedRecord s st).heatNo ∧ (countedRecord s st).heatNo ≤ 65535; rw [hheat]; exact hno)
        show 0 < (countedRecord s st).liquid
        rw [hall]
        unfold State.mass
        omega
      · rw [hrecord]
        exact hmass.symm ▸ hold.capacity
      · rw [hrecord]
        exact fun _ => htemp hdone.1
      · rw [hrecord]
        exact hestimate
      · rw [hrecord]
        show (s.inflow : Int) + d + s.outflow + s.mass st =
          s.inflow + d + s.outflow + ((countedRecord s st).solid + (countedRecord s st).liquid : Nat)
        rw [hmass]
    · rw [if_neg hdone] at hrecord
      refine hs.onHeat hrecord hphase ?_ ?_ (fun h => htemp ?_) (fun _ => hestimate) ?_
      · by_cases hsolid : 0 < (s.record st).solid
        · have hmelt := running_of_solid hold.record hsolid
          unfold HeatRec.fits at hparts
          rw [hmelt] at hparts
          exact fits_of_melt (hphase.trans hmelt) (Nat.pos_of_ne_zero (fun h => hdone ⟨hsolid, h⟩)) (hgrade ▸ hparts.2.1)
            (hheat ▸ hparts.2.2)
        · have hzero := Nat.eq_zero_of_not_pos hsolid
          have hliquid : (s.phase st).liquid := by
            have hp : (s.record st).phase = s.phase st := rfl
            unfold HeatRec.fits at hparts
            unfold Phase.liquid
            rw [hp] at hparts
            cases hval : s.phase st <;> rw [hval] at hparts hrunning <;> simp_all [Phase.running]
          obtain ⟨-, hpos, hsome, hno⟩ := liquid_parts hold.record hliquid
          refine fits_of_liquid (hphase.symm ▸ hliquid) (hnone hzero) ?_ (hgrade ▸ hsome) (hheat ▸ hno)
          have := hnone hzero
          unfold State.mass at hmass
          omega
      · exact hmass.symm ▸ hold.capacity
      · refine Nat.pos_of_ne_zero (fun hzero => ?_)
        rw [hnone hzero] at h
        exact Nat.lt_irrefl 0 h
      · rw [hmass]
  exact hstored.congr rfl rfl rfl rfl rfl rfl rfl rfl rfl

/-! ## A SHOP write (R21) -/

theorem shopStored_record (s : State) (new : ShopRec) (st : Station) : (s.shopStored new).record st =
    if new.tMelt = s.cfg.shop.tMelt ∨ (s.record st).solid = 0 then s.record st else { s.record st with tEst := new.tMelt } := by
  unfold State.shopStored
  simp only
  by_cases hsame : new.tMelt = s.cfg.shop.tMelt
  · rw [if_pos hsame, if_pos (.inl hsame)]
    rfl
  · rw [if_neg hsame]
    show (look (overAll (moveMelting new.tMelt) s.heats) st).record = _
    rw [look_overAll]
    show (moveMelting new.tMelt (s.heat st)).record = _
    unfold moveMelting
    rw [show (s.heat st).record = s.record st from rfl]
    by_cases hsolid : 0 < (s.record st).solid
    · rw [if_pos hsolid, if_neg (not_or.mpr ⟨hsame, Nat.ne_of_gt hsolid⟩)]
    · rw [if_neg hsolid, if_pos (.inr (Nat.eq_zero_of_not_pos hsolid))]
      rfl

theorem shopStored_rest (s : State) (new : ShopRec) : (s.shopStored new).enabled = s.enabled ∧ (s.shopStored new).valves = s.valves ∧
    (s.shopStored new).taps = s.taps ∧ (s.shopStored new).heatCounter = s.heatCounter ∧ (s.shopStored new).inflow = s.inflow ∧
    (s.shopStored new).outflow = s.outflow := by
  unfold State.shopStored
  simp only
  split <;> exact ⟨rfl, rfl, rfl, rfl, rfl, rfl⟩

theorem ShopOff.shopStored (hs : ShopOff d s) {new : ShopRec} (hnew : 11500 ≤ new.tMelt ∧ new.tMelt ≤ 13500) :
    ShopOff d (s.shopStored new) := by
  have hcfg := shopStored_cfg s new
  obtain ⟨henabled, hvalves, htaps, hcounter, hin, hout⟩ := shopStored_rest s new
  have hrecord := shopStored_record s new
  generalize s.shopStored new = x at hcfg henabled hvalves htaps hcounter hin hout hrecord
  have hparts : ∀ st, (x.record st).phase = s.phase st ∧ (x.record st).solid = (s.record st).solid ∧
      (x.record st).liquid = (s.record st).liquid := by
    intro st
    rw [hrecord]
    split <;> exact ⟨rfl, rfl, rfl⟩
  have hlayout : ∀ st, x.layoutOf st = s.layoutOf st := fun st => by simp only [State.layoutOf, hcfg]
  have hmass : ∀ st, x.mass st = s.mass st := fun st => by
    obtain ⟨-, hsolid, hliquid⟩ := hparts st
    rw [State.mass, hsolid, hliquid]
    rfl
  have hmelt := hs.meltRange
  refine ⟨fun st => ?_, fun h st => ?_, ?_, hcounter ▸ hs.counter, ?_, ?_⟩
  · have hold := hs.stations st
    obtain ⟨hphase, hsolid, -⟩ := hparts st
    have hp : x.phase st = s.phase st := hphase
    refine ⟨?_, ?_, ?_, ?_, fun h => ?_, fun h => ?_, ?_⟩
    · rw [hrecord]
      split
      · exact hold.record
      · next hmoved =>
        have hpos : 0 < (s.record st).solid := Nat.pos_of_ne_zero (fun h => hmoved (.inr h))
        have hmelt := running_of_solid hold.record hpos
        have hparts := hold.record
        unfold HeatRec.fits at hparts
        rw [hmelt] at hparts
        exact fits_of_melt hmelt hpos hparts.2.1 hparts.2.2
    · rw [hp, henabled]; exact hold.off
    · rw [hlayout, henabled]; exact hold.present
    · rw [hmass, State.capacity, hlayout]; exact hold.capacity
    · rw [hsolid] at h
      rw [hrecord, hcfg]
      split
      · next hkept =>
        rcases hkept with hsame | hzero
        · exact (hold.melting h).trans hsame.symm
        · omega
      · rfl
    · rw [hp] at h
      have hestimate := hold.estimate h
      rw [hrecord]
      split
      · exact hestimate
      · show 11000 ≤ new.tMelt ∧ new.tMelt ≤ 16500
        omega
    · rw [hp, hvalves]; exact hold.valve
  · rw [hlayout]; exact hs.blank (by rw [hcfg] at h; exact h) st
  · rw [hcfg]; exact hnew
  · exact hs.queue.same htaps (funext (fun st => (hparts st).1))
  · rw [hin, hout, metalMass_same hmass]; exact hs.balance

/-! ## The resets (R14) -/

/-- A shop with no metal, no entry and every station clear. -/
theorem ShopOff.fresh (hrecord : ∀ st, x.record st = HeatRec.clear (x.phase st)) (hrunning : ∀ st, (x.phase st).running = false)
    (hoff : ∀ st, x.phase st = .off ↔ look x.enabled st = false) (hpresent : ∀ st, look x.enabled st = true → (x.layoutOf st).present = true)
    (hblank : x.cfg.layout.loaded = false → ∀ st, (x.layoutOf st).present = false)
    (hmelt : 11500 ≤ x.cfg.shop.tMelt ∧ x.cfg.shop.tMelt ≤ 13500) (hcounter : 1 ≤ x.heatCounter ∧ x.heatCounter ≤ 65535)
    (hvalves : ∀ st, look x.valves st = true → (x.phase st).holdsMetal = true) (htaps : x.taps = TapQueue.blank) (hin : x.inflow = 0)
    (hout : x.outflow = 0) : ShopOff 0 x := by
  have hmass : ∀ st, x.mass st = 0 := fun st => by rw [State.mass, hrecord]; rfl
  refine ⟨fun st => ⟨?_, hoff st, hpresent st, ?_, fun h => ?_, fun h => ?_, hvalves st⟩, hblank, hmelt, hcounter, queueFits_iff.mpr ⟨?_, ?_⟩,
    ?_⟩
  · have hr := hrecord st
    have hrun := hrunning st
    rw [hr]
    unfold HeatRec.fits
    cases hp : x.phase st <;> rw [hp] at hrun <;> first | rfl | exact absurd hrun (by decide)
  · rw [hmass]; exact Nat.zero_le _
  · rw [hrecord] at h; exact absurd h (Nat.lt_irrefl 0)
  · exact absurd h (by rw [hrunning]; decide)
  · rw [htaps]
    have hnot : ∀ st, x.phase st ≠ .superheat ∧ x.phase st ≠ .tapping := fun st => by
      have hrun := hrunning st
      constructor <;> intro h <;> rw [h] at hrun <;> exact absurd hrun (by decide)
    have hnobody : ∀ st b, ¬ heldBy TapQueue.blank.entries st b := fun st b ⟨_, he, _⟩ => absurd he List.not_mem_nil
    exact ⟨Nat.zero_le _, .nil, .nil, .nil, fun _ h => absurd h List.not_mem_nil, fun _ h => absurd h List.not_mem_nil,
      fun st => ⟨fun h => absurd h (hnot st).1, fun h => absurd h (hnobody st false)⟩,
      fun st => ⟨fun h => absurd h (hnot st).2, fun h => absurd h (hnobody st true)⟩⟩
  · rw [htaps]; decide
  · rw [hin, hout, metalMass_eq, hmass, hmass, hmass, hmass]; rfl

theorem ShopOff.poweredOn (lines : Lines) (low : Bool) (cs : List Instr) : ShopOff 0 (State.poweredOn lines low cs) := by
  have hheat : ∀ st, (State.poweredOn lines low cs).heat st = StationHeat.clear .off := fun st => look_replicate _ st
  have hphase : ∀ st, (State.poweredOn lines low cs).phase st = .off := fun st => by
    show ((State.poweredOn lines low cs).heat st).record.phase = _
    rw [hheat]
    rfl
  have henabled : ∀ st, look (State.poweredOn lines low cs).enabled st = false := fun st => look_replicate _ st
  have hvalve : ∀ st, look (State.poweredOn lines low cs).valves st = false := fun st => look_replicate _ st
  refine .fresh (fun st => ?_) (fun st => ?_) (fun st => ?_) (fun st h => ?_) (fun _ st => ?_) ?_ ?_ (fun st h => ?_) rfl rfl rfl
  · rw [hphase]
    show ((State.poweredOn lines low cs).heat st).record = _
    rw [hheat]
    rfl
  · rw [hphase]; rfl
  · rw [hphase, henabled]; exact ⟨fun _ => rfl, fun _ => rfl⟩
  · exact absurd h (by rw [henabled]; decide)
  · show (look (Vector.replicate 4 LayoutStation.absent) st).present = false
    rw [look_replicate]
    rfl
  · show 11500 ≤ ShopRec.default.tMelt ∧ ShopRec.default.tMelt ≤ 13500
    decide
  · show 1 ≤ 1 ∧ 1 ≤ 65535
    decide
  · exact absurd h (by rw [hvalve]; decide)

theorem restartState_heat (s : State) (st : Station) : (restartState s).heat st = StationHeat.clear (restartPhase (look s.enabled st)) :=
  look_overAll _ _ st

theorem ShopOff.restart (hs : ShopOff d s) : ShopOff 0 (restartState s) := by
  have hphase : ∀ st, (restartState s).phase st = restartPhase (look s.enabled st) := fun st => by
    show ((restartState s).heat st).record.phase = _
    rw [restartState_heat]
    rfl
  refine .fresh (fun st => ?_) (fun st => ?_) (fun st => ?_) (fun st h => (hs.stations st).present h) hs.blank hs.meltRange hs.counter
    (fun st h => ?_) rfl rfl rfl
  · rw [hphase]
    show ((restartState s).heat st).record = _
    rw [restartState_heat]
    rfl
  · rw [hphase]; cases look s.enabled st <;> rfl
  · rw [hphase]
    show _ ↔ look s.enabled st = false
    cases look s.enabled st <;> decide
  · have hold := hs.stations st
    have hmetal := hold.valve h
    rw [hphase]
    cases he : look s.enabled st with
    | true => rfl
    | false =>
      rw [hold.off.mpr he] at hmetal
      exact absurd hmetal (by decide)

/-! ## Every command -/

theorem ShopOff.resumed (hs : ShopOff d s) : ShopOff d (resume s) :=
  (resume_deed s).shopOff (by decide) (hs.congr rfl rfl rfl rfl rfl rfl rfl rfl rfl)

theorem ShopOff.joined (hs : ShopOff d s) {e : QueueEntry} (hstation : e.station = none) (hpermit : e.permit = none)
    (hnew : ∀ d ∈ s.taps.entries, d.ladle ≠ e.ladle) (hdepth : s.taps.entries.length < 8) :
    ShopOff d (s.withEntries (s.taps.entries ++ [e])) :=
  hs.same rfl rfl rfl (fun _ => ⟨rfl, rfl, id⟩) (queueFits_iff.mpr ⟨hs.queue.ok.join hstation hpermit hnew hdepth, hs.queue.counter⟩) rfl

theorem ShopOff.flagged (hs : ShopOff d s) (h : (s.phase st).running = true) (named : FlagSet) :
    ShopOff d (s.onRecord st (fun r => { r with flags := clearFlags r.flags named })) := hs.onRunning h rfl rfl rfl rfl rfl rfl

theorem shop_served {k : RequestKind} (h : Served s k t) (hs : ShopOff d s) : ShopOff d t := by
  cases h with
  | shopStatus | restart | writeCircuit | writeGrade | reline => exact hs.congr rfl rfl rfl rfl rfl rfl rfl rfl rfl
  | layout hblank => exact hs.takeLayout hblank rfl
  | writeShop r => exact (hs.shopStored (clampTo_within (by decide))).shared (takeShop_shared s _)
  | writeStation =>
    refine ShopOff.shared ?_ (reexamine_shared _)
    exact hs.congr rfl rfl rfl rfl rfl rfl rfl rfl rfl
  | writeUnit =>
    refine ShopOff.shared ?_ (evaluateAll_shared _ _)
    exact hs.congr rfl rfl rfl rfl rfl rfl rfl rfl rfl
  | writeProgram => exact (rewriteRuns_deed _ _).shopOff (by decide) (hs.congr rfl rfl rfl rfl rfl rfl rfl rfl rfl)
  | writeLining =>
    refine ShopOff.shared ?_ (liningEdges_shared _ s _)
    exact hs.congr rfl rfl rfl rfl rfl rfl rfl rfl rfl
  | stationEnable _ hpresent hoff => exact hs.enableStation hpresent hoff
  | stationDisable h => exact hs.disableStation h
  | charge hoff h => exact hs.takeCharge hoff h
  | dipNoted st temp =>
    have hold := hs.stations st
    exact hs.onHeat (r := s.record st) rfl rfl hold.record hold.capacity hold.melting hold.estimate rfl
  | dip temp h => exact hs.takeDip h temp
  | transfer _ hb h => exact hs.takeTransfer hb h
  | heatLoad h him => exact hs.heatLoaded h him
  | heatDeclare h hgood => exact hs.heatDeclared h hgood _
  | heatEmpty h => exact hs.heatEmptied h
  | flagsClear named h => exact hs.flagged h named
  | waterClear named h => exact (hs.flagged h named).shared (reexamine_shared _)
  | unitMode u m =>
    refine ShopOff.shared ?_ (setMode_shared s u m)
    exact hs.congr rfl rfl rfl rfl rfl rfl rfl rfl rfl
  | changeover => exact (served_deed (.changeover ‹_›) (by simp [writes])).shopOff (by decide) hs
  | tripReset u => exact (tripReset_deed s u).shopOff (by decide) hs
  | intervalSync => exact (takeSync_deed (sc := .aside) s).shopOff (by decide) hs
  | watchStatus => exact (runs_deed s _).shopOff (by decide) hs
  | ewClose st refilled =>
    exact ((Deed.of_shared (sc := .aside) (closeValve_shared s _ st)).trans (refill_deed _ refilled)).shopOff (by decide) hs
  | ladleRequest hstation hpermit hnew hdepth => exact (hs.joined hstation hpermit hnew hdepth).shared (reexamine_shared _)
  | ladleCancel he => exact (hs.freed he).shared (reexamine_shared _)
  | tapStart he hpermit h => exact hs.startTap he hpermit h
  | tapDone mass temp he h hst => exact hs.takeTapDone he hst h (Nat.min_le_right _ _) temp
  | tapAbort mass he h hst => exact (hs.tapAborted he hst h (Nat.min_le_right _ _) _).shared (reexamine_shared _)

theorem ShopOff.holding (hs : ShopOff d s) (b : Bool) : ShopOff d { s with resetHeld := b } :=
  hs.congr rfl rfl rfl rfl rfl rfl rfl rfl rfl

theorem ShopOff.silenced (hs : ShopOff d s) : ShopOff d (enterSilence s) := by
  refine ShopOff.shared ?_ (recomputeMelting_shared _)
  exact hs.congr rfl rfl rfl rfl rfl rfl rfl rfl rfl

theorem shop_happens {c : Instr} (h : Happens s c t) (hs : ShopOff 0 s) : ShopOff 0 t := by
  have haside : stands c → eventScope c ≠ .floor → ShopOff 0 t := fun hc hscope => by
    refine (happens_deed h hc).shopOff ⟨hscope, ?_⟩ hs
    cases c <;> exact Scope.noConfusion
  cases h with
  | powerOn => exact .poweredOn s.lines s.link.lineLow s.pending
  | hold => exact hs.restart.holding true
  | resume => exact hs.resumed
  | restart => exact hs.restart.resumed
  | silence => exact hs.silenced
  | modelStep hrunning => exact hs.modelStep hrunning
  | permitExpiry he _ hpouring => exact hs.expired he hpouring _
  | faultLine u level | pumpLine level | channel => exact hs.congr rfl rfl rfl rfl rfl rfl rfl rfl rfl
  | _ => exact haside trivial Scope.noConfusion

theorem kept_shop (c : Instr) : Kept (ShopOff 0) (fun _ => True) c where
  link := fun _ _ _ hs => hs.congr rfl rfl rfl rfl rfl rfl rfl rfl rfl
  shared := fun _ _ h hs => hs.sharedStep h
  served := fun _ _ _ _ h hs => shop_served h hs
  happens := fun _ _ h hs => shop_happens h hs

/-! ## A millisecond -/

/-- A queue whose entries have changed in nothing that the agreement reads. -/
theorem QueueOk.map {es : List QueueEntry} {phase : Station → Phase} (h : QueueOk es phase) {f : QueueEntry → QueueEntry}
    (hladle : ∀ e, (f e).ladle = e.ladle) (hstation : ∀ e, (f e).station = e.station) (hid : ∀ e, (f e).permitId = e.permitId)
    (hpouring : ∀ e, (f e).pouring = e.pouring) (hpermit : ∀ e, (f e).permit.isSome = e.permit.isSome) : QueueOk (es.map f) phase := by
  have hheld : ∀ st b, heldBy (es.map f) st b ↔ heldBy es st b := by
    intro st b
    simp only [heldBy, List.mem_map, exists_exists_and_eq_and, hstation, hpouring]
  have hstations : (es.map f).filterMap QueueEntry.station = es.filterMap QueueEntry.station := by
    rw [List.filterMap_map]
    exact List.filterMap_congr (fun e _ => hstation e)
  have hids : (es.map f).filterMap QueueEntry.permitId = es.filterMap QueueEntry.permitId := by
    rw [List.filterMap_map]
    exact List.filterMap_congr (fun e _ => hid e)
  refine ⟨by rw [List.length_map]; exact h.depth, ?_, hstations ▸ h.stations, hids ▸ h.permits, hids ▸ h.permitRange, ?_,
    fun st => (h.superheat st).trans (hheld st false).symm, fun st => (h.tapping st).trans (hheld st true).symm⟩
  · have hladles : (es.map f).map QueueEntry.ladle = es.map QueueEntry.ladle := by
      rw [List.map_map]
      exact List.map_congr_left (fun e _ => hladle e)
    rw [hladles]
    exact h.ladles
  · intro e he hsome
    obtain ⟨e', he', rfl⟩ := List.mem_map.mp he
    rw [hstation]
    exact h.assigned e' he' (hpermit e' ▸ hsome)

theorem permit_tick (q : Permit) : q.tick.id = q.id ∧ q.tick.started = q.started := by
  unfold Permit.tick
  split <;> exact ⟨rfl, rfl⟩

theorem ShopOff.tick (hs : ShopOff d s) : ShopOff d (tick s) := by
  unfold Machine.tick
  split
  · exact hs
  · have hrecord : ∀ st, (look (overAll StationHeat.tick s.heats) st).record = s.record st := fun st => by rw [look_overAll]; rfl
    have hqueue : QueueOk (s.taps.entries.map QueueEntry.tick) s.phase := by
      refine hs.queue.ok.map (fun _ => rfl) (fun _ => rfl) (fun e => ?_) (fun e => ?_) (fun e => ?_)
      · cases hp : e.permit <;> simp [QueueEntry.permitId, QueueEntry.tick, hp, permit_tick]
      · cases hp : e.permit <;> simp [QueueEntry.pouring, QueueEntry.tick, hp, permit_tick]
      · simp [QueueEntry.tick]
    refine hs.same rfl rfl rfl (fun st => ⟨hrecord st, rfl, id⟩) (queueFits_iff.mpr ⟨?_, hs.queue.counter⟩) rfl
    have hphase : ∀ x : State, x.heats = overAll StationHeat.tick s.heats → x.phase = s.phase := fun x hx => by
      funext st
      show (look x.heats st).record.phase = _
      rw [hx, hrecord]
      rfl
    rw [hphase _ rfl]
    exact hqueue

/-- Settles O9: every command and a millisecond keep the floor, station by station and entry by entry. -/
theorem stepKeepsShop : Obligations.StepKeepsShop := by
  intro s t hs he
  have hpending : ∀ (x : State) (cs : List Instr), ShopOff 0 x → ShopOff 0 { x with pending := cs } :=
    fun _ _ hx => hx.congr rfl rfl rfl rfl rfl rfl rfl rfl rfl
  exact shopOff_zero.mp (step_keeps kept_shop (fun _ hx => hx.tick) hpending he (shopOff_zero.mpr hs))

end

end Sys2Proof.Machine

/-!
PROOFS. The units' invariant in two parts, what a unit's record is by itself and that nothing stands against a unit outside INHIBITED; that every
piece of shared work keeps both, and that re-judging a unit brings the second about.
-/

namespace Sys2Proof.Machine

/-! ## One unit -/

/-- The active station of a unit record (R68). -/
def PowerUnit.activeAt (p : PowerUnit) : Option Station :=
  if p.travel.isSome then none
  else match p.state with
    | .switching _ => none
    | _ => p.position

/-- A program of this target counts against the unit: it names the unit, its active station or its travel target (R71). -/
def PowerUnit.meets (p : PowerUnit) (u : UnitId) (t : Target) : Prop :=
  t = .unit u ∨ ∃ st, t = .station st ∧ (p.activeAt = some st ∨ p.travel.map Travel.target = some st)

/-- A unit's record agrees with its state, for a unit paired with these stations (R65, R67, R68, R76 to R81). -/
structure UnitSound (p : PowerUnit) (near : List Station) : Prop where
  grant : p.grant ≠ 0 → p.state = .feeding
  decay : p.decayTimer.isSome = true ↔ ∃ t, p.state = .rampDown t
  settle : p.settleTimer.isSome = true ↔ ∃ t, p.state = .settling t
  switching : ∀ t, p.state = .switching t → p.travel.map Travel.target = some t
  travel : ∀ v, p.travel = some v → p.position = none ∧ (p.state = .inhibited ∨ p.state = .switching v.target)
  settling : ∀ t, p.state = .settling t → p.position = some t
  placed : (p.state = .feeding ∨ ∃ t, p.state = .rampDown t) → p.position.isSome = true
  pairing : ∀ st, (p.position = some st ∨ p.travel.map Travel.target = some st ∨ p.state = .rampDown st) → st ∈ near
  unused : near = [] → p.causes.noLayout = true

/-- Nothing stands against a unit outside INHIBITED (R71). -/
def Obeys (s : State) (u : UnitId) : Prop := (s.unit u).state ≠ .inhibited → s.tripsEmpty u = true

/-- Every unit's record agrees with its state, in a part that runs. -/
structure UnitsSound (s : State) : Prop where
  units : ∀ u, UnitSound (s.unit u) (s.paired u)
  blank : s.cfg.layout.loaded = false → ∀ st, (s.layoutOf st).present = false
  running : s.resetHeld = false

/-- The units' invariant in a part that runs. -/
def UnitsRun (s : State) : Prop := UnitsSound s ∧ ∀ u, Obeys s u

section
variable {s t : State} {u v : UnitId} {p q : PowerUnit} {near : List Station}

theorem used_iff : s.used u = false ↔ s.paired u = [] := by
  simp [State.used]

theorem unitsRun_iff : UnitsRun s ↔ UnitsFit s ∧ s.resetHeld = false := by
  constructor
  · rintro ⟨⟨hunits, hblank, hrunning⟩, hobeys⟩
    refine ⟨⟨fun u => ?_, hblank⟩, hrunning⟩
    have h := hunits u
    exact ⟨hobeys u, h.grant, h.decay, h.settle, h.switching, h.travel, h.settling, h.placed, h.pairing,
      fun hused => h.unused (used_iff.mp hused), fun hheld => absurd hheld (by rw [hrunning]; decide)⟩
  · rintro ⟨⟨hunits, hblank⟩, hrunning⟩
    refine ⟨⟨fun u => ?_, hblank, hrunning⟩, fun u => (hunits u).trips⟩
    have h := hunits u
    exact ⟨h.grant, h.decay, h.settle, h.switching, h.travel, h.settling, h.placed, h.pairing,
      fun hnone => h.unused (used_iff.mpr hnone)⟩

theorem active_eq : s.active u = (s.unit u).activeAt := rfl

theorem mem_allPrograms : ∀ k : Program, k ∈ allPrograms := by decide

theorem mem_bars {st : Station} {k : Program} : k ∈ s.bars st ↔ (s.held k).trips = true ∧ (s.program k).target = .station st := by
  simp [State.bars, mem_allPrograms]

theorem mem_unitPrograms {k : Program} : k ∈ s.unitPrograms u ↔ (s.held k).trips = true ∧ (s.program k).target = .unit u := by
  simp [State.unitPrograms, mem_allPrograms]

theorem mem_barsCount {o : Option Station} {k : Program} :
    k ∈ s.barsCount o ↔ ∃ st, o = some st ∧ (s.held k).trips = true ∧ (s.program k).target = .station st := by
  cases o <;> simp [State.barsCount, mem_bars]

theorem mem_tripPrograms {k : Program} :
    k ∈ s.tripPrograms u ↔ (s.held k).trips = true ∧ (s.unit u).meets u (s.program k).target := by
  simp only [State.tripPrograms, List.mem_filter, Bool.or_eq_true, List.contains_iff_mem, mem_unitPrograms, mem_barsCount, active_eq,
    PowerUnit.meets]
  constructor
  · rintro ⟨-, ((⟨htrips, ht⟩ | ⟨st, hst, htrips, ht⟩) | ⟨st, hst, htrips, ht⟩)⟩
    · exact ⟨htrips, .inl ht⟩
    · exact ⟨htrips, .inr ⟨st, ht, .inl hst⟩⟩
    · exact ⟨htrips, .inr ⟨st, ht, .inr hst⟩⟩
  · rintro ⟨htrips, ht | ⟨st, ht, hst | hst⟩⟩
    · exact ⟨mem_allPrograms k, .inl (.inl ⟨htrips, ht⟩)⟩
    · exact ⟨mem_allPrograms k, .inl (.inr ⟨st, hst, htrips, ht⟩)⟩
    · exact ⟨mem_allPrograms k, .inr ⟨st, hst, htrips, ht⟩⟩

/-- Nothing stands against a unit: no cause, and no program in force that counts against it. -/
theorem tripsEmpty_iff : s.tripsEmpty u = true ↔
    (s.unit u).causes.isEmpty = true ∧ ∀ k, (s.held k).trips = true → ¬ (s.unit u).meets u (s.program k).target := by
  simp only [State.tripsEmpty, Bool.and_eq_true, List.isEmpty_iff, List.eq_nil_iff_forall_not_mem, mem_tripPrograms, not_and]

/-! ### Changes -/

/-- No program has come to hold a trip, or names another target while it does. -/
def FewerTrips (s t : State) : Prop := ∀ k, (t.held k).trips = true → (s.held k).trips = true ∧ (t.program k).target = (s.program k).target

theorem FewerTrips.refl (s : State) : FewerTrips s s := fun _ h => ⟨h, rfl⟩

theorem FewerTrips.of_same (hruns : t.runs = s.runs) (hprograms : t.cfg.programs = s.cfg.programs) : FewerTrips s t := fun k h => by
  simp only [State.held, State.run, State.program, hruns, hprograms] at h ⊢
  exact ⟨h, trivial⟩

/-- A unit that was obeyed still is, if nothing more stands against it. -/
theorem Obeys.lessens (h : Obeys s u) (htrips : FewerTrips s t) (hstate : (t.unit u).state ≠ .inhibited → (s.unit u).state ≠ .inhibited)
    (hcauses : (s.unit u).causes.isEmpty = true → (t.unit u).causes.isEmpty = true)
    (hmeets : ∀ x, (t.unit u).meets u x → (s.unit u).meets u x) : Obeys t u := by
  intro hne
  obtain ⟨hempty, hnone⟩ := tripsEmpty_iff.mp (h (hstate hne))
  refine tripsEmpty_iff.mpr ⟨hcauses hempty, fun k hk hcounts => ?_⟩
  obtain ⟨hk', htarget⟩ := htrips k hk
  exact hnone k hk' (hmeets _ (htarget ▸ hcounts))

theorem Obeys.same (h : Obeys s u) (htrips : FewerTrips s t) (hunit : t.unit u = s.unit u) : Obeys t u :=
  h.lessens htrips (by rw [hunit]; exact id) (by rw [hunit]; exact id) (fun _ => by rw [hunit]; exact id)

theorem unit_onUnit (s : State) (u v : UnitId) (f : PowerUnit → PowerUnit) : (s.onUnit u f).unit v = if u = v then f (s.unit u) else s.unit v :=
  State.onUnit_unit s u v f

theorem unit_onUnit_self (s : State) (u : UnitId) (f : PowerUnit → PowerUnit) : (s.onUnit u f).unit u = f (s.unit u) :=
  (unit_onUnit s u u f).trans (if_pos rfl)

theorem unit_onUnit_other (f : PowerUnit → PowerUnit) (h : v ≠ u) : (s.onUnit u f).unit v = s.unit v :=
  (unit_onUnit s u v f).trans (if_neg (Ne.symm h))

theorem UnitsSound.congr (hs : UnitsSound s) (hunits : t.units = s.units) (hlayout : t.cfg.layout = s.cfg.layout)
    (hheld : t.resetHeld = s.resetHeld) : UnitsSound t := by
  have hl : ∀ st, t.layoutOf st = s.layoutOf st := fun st => by rw [State.layoutOf, hlayout]; rfl
  have hp : ∀ u, t.paired u = s.paired u := fun u => by simp only [State.paired, hl]
  refine ⟨fun u => ?_, fun h st => ?_, hheld.trans hs.running⟩
  · rw [hp, State.unit, hunits]; exact hs.units u
  · rw [hl]; exact hs.blank (hlayout ▸ h) st

/-- The units stand, and no program has come to hold a trip. -/
theorem UnitsRun.congr (hs : UnitsRun s) (hunits : t.units = s.units) (hlayout : t.cfg.layout = s.cfg.layout)
    (hheld : t.resetHeld = s.resetHeld) (htrips : FewerTrips s t) : UnitsRun t :=
  ⟨hs.1.congr hunits hlayout hheld, fun u => (hs.2 u).same htrips (by rw [State.unit, hunits]; rfl)⟩

/-- Units, runs, layout, programs and hold stand. -/
theorem UnitsRun.same (hs : UnitsRun s) (hunits : t.units = s.units) (hlayout : t.cfg.layout = s.cfg.layout)
    (hheld : t.resetHeld = s.resetHeld) (hruns : t.runs = s.runs) (hprograms : t.cfg.programs = s.cfg.programs) : UnitsRun t :=
  hs.congr hunits hlayout hheld (.of_same hruns hprograms)

theorem UnitsSound.onUnit (hs : UnitsSound s) {f : PowerUnit → PowerUnit} (h : UnitSound (f (s.unit u)) (s.paired u)) :
    UnitsSound (s.onUnit u f) := by
  refine ⟨fun v => ?_, hs.blank, hs.running⟩
  show UnitSound ((s.onUnit u f).unit v) (s.paired v)
  rw [unit_onUnit]
  split
  · next huv => exact huv ▸ h
  · exact hs.units v

theorem Obeys.onUnit_other {f : PowerUnit → PowerUnit} (h : Obeys s v) (hne : v ≠ u) : Obeys (s.onUnit u f) v :=
  h.same (.refl s) (unit_onUnit_other f hne)

/-- One unit changes into a record that agrees with its state, and nothing more stands against it. -/
theorem UnitsRun.onUnit (hs : UnitsRun s) {f : PowerUnit → PowerUnit} (h : UnitSound (f (s.unit u)) (s.paired u))
    (hstate : (f (s.unit u)).state ≠ .inhibited → (s.unit u).state ≠ .inhibited)
    (hcauses : (s.unit u).causes.isEmpty = true → (f (s.unit u)).causes.isEmpty = true)
    (hmeets : ∀ x, (f (s.unit u)).meets u x → (s.unit u).meets u x) : UnitsRun (s.onUnit u f) := by
  refine ⟨hs.1.onUnit h, fun v => ?_⟩
  by_cases hv : v = u
  · subst hv
    refine (hs.2 v).lessens (t := s.onUnit v f) (.refl s) ?_ ?_ ?_ <;> rw [unit_onUnit_self]
    · exact hstate
    · exact hcauses
    · exact hmeets
  · exact (hs.2 v).onUnit_other hv

/-! ### Records -/

theorem activeAt_of_travel (h : p.travel.isSome = true) : p.activeAt = none := if_pos h

/-- A unit that enters INHIBITED agrees with its state, whatever it was. -/
theorem UnitSound.inhibit (htravel : ∀ w, p.travel = some w → p.position = none)
    (hpairing : ∀ st, (p.position = some st ∨ p.travel.map Travel.target = some st) → st ∈ near)
    (hunused : near = [] → p.causes.noLayout = true) : UnitSound p.inhibit near := by
  refine ⟨fun h => absurd rfl h, ⟨fun h => Bool.noConfusion h, fun ⟨t, h⟩ => ?_⟩, ⟨fun h => Bool.noConfusion h, fun ⟨t, h⟩ => ?_⟩,
    fun t h => ?_, fun w h => ⟨htravel w h, .inl rfl⟩, fun t h => ?_, fun h => ?_, fun st h => ?_, hunused⟩
  · exact UnitState.noConfusion h
  · exact UnitState.noConfusion h
  · exact UnitState.noConfusion h
  · exact UnitState.noConfusion h
  · rcases h with h | ⟨t, h⟩ <;> exact UnitState.noConfusion h
  · rcases h with h | h | h
    · exact hpairing st (.inl h)
    · exact hpairing st (.inr h)
    · exact UnitState.noConfusion h

theorem UnitSound.inhibited (h : UnitSound p near) : UnitSound p.inhibit near :=
  .inhibit (fun w hw => (h.travel w hw).1) (fun st hst => h.pairing st (hst.imp_right .inl)) h.unused

/-- In FEEDING and in RAMP_DOWN no travel is under way. -/
theorem UnitSound.no_travel (h : UnitSound p near) (hstate : p.state ≠ .inhibited) (hnot : ∀ t, p.state ≠ .switching t) : p.travel = none := by
  cases ht : p.travel with
  | none => rfl
  | some w =>
    rcases (h.travel w ht).2 with k | k
    · exact absurd k hstate
    · exact absurd k (hnot _)

/-- A unit at a position without a travel may feed. -/
theorem UnitSound.fed (h : UnitSound p near) (htravel : p.travel = none) (hpos : p.position.isSome = true) (dwell : Nat) :
    UnitSound (p.feed dwell) near := by
  refine ⟨fun _ => rfl, ⟨fun h => Bool.noConfusion h, fun ⟨t, h⟩ => ?_⟩, ⟨fun h => Bool.noConfusion h, fun ⟨t, h⟩ => ?_⟩,
    fun t h => ?_, fun w hw => ?_, fun t h => ?_, fun _ => hpos, fun st hst => ?_, h.unused⟩
  · exact UnitState.noConfusion h
  · exact UnitState.noConfusion h
  · exact UnitState.noConfusion h
  · exact absurd (htravel.symm.trans hw) (by simp)
  · exact UnitState.noConfusion h
  · rcases hst with k | k | k
    · exact h.pairing st (.inl k)
    · exact h.pairing st (.inr (.inl k))
    · exact UnitState.noConfusion k

/-- A FEEDING unit may ramp down toward a paired station. -/
theorem UnitSound.ramped (h : UnitSound p near) (hstate : p.state = .feeding) {o : Station} (ho : o ∈ near) (n : Nat) :
    UnitSound { p with state := .rampDown o, decayTimer := some n, grant := 0, origin := p.position } near := by
  have htravel := h.no_travel (by rw [hstate]; exact UnitState.noConfusion) (by rw [hstate]; exact fun _ => UnitState.noConfusion)
  have hsettle : p.settleTimer.isSome = false := by
    cases hs : p.settleTimer.isSome with
    | false => rfl
    | true =>
      obtain ⟨t, k⟩ := h.settle.mp hs
      exact UnitState.noConfusion (hstate.symm.trans k)
  refine ⟨fun k => absurd rfl k, ⟨fun _ => ⟨o, rfl⟩, fun _ => rfl⟩, ⟨fun k => ?_, fun ⟨t, k⟩ => ?_⟩, fun t k => ?_, fun w hw => ?_,
    fun t k => ?_, fun _ => h.placed (.inl hstate), fun st hst => ?_, h.unused⟩
  · exact absurd (hsettle.symm.trans k) (by decide)
  · exact UnitState.noConfusion k
  · exact UnitState.noConfusion k
  · exact absurd (htravel.symm.trans hw) (by simp)
  · exact UnitState.noConfusion k
  · rcases hst with k | k | k
    · exact h.pairing st (.inl k)
    · exact h.pairing st (.inr (.inl k))
    · cases k; exact ho

theorem meets_of_same {x : Target} (h : q.meets u x) (hactive : q.activeAt = p.activeAt) (htravel : q.travel = p.travel) : p.meets u x := by
  unfold PowerUnit.meets at h ⊢
  rwa [hactive, htravel] at h

theorem activeAt_of_state (h : p.travel = none) (hstate : ∀ t, p.state ≠ .switching t) : p.activeAt = p.position := by
  unfold PowerUnit.activeAt
  rw [h]
  cases hs : p.state with
  | switching t => exact absurd hs (hstate t)
  | _ => rfl

/-- Outside a travel the active station is the position. -/
theorem activeAt_same (htravel : p.travel = none) (hp : ∀ t, p.state ≠ .switching t) (htravel' : q.travel = none)
    (hq : ∀ t, q.state ≠ .switching t) (hpos : q.position = p.position) : q.activeAt = p.activeAt := by
  rw [activeAt_of_state htravel hp, activeAt_of_state htravel' hq, hpos]

/-! ### Shared work -/

theorem otherOf_paired {a o : Station} (h : s.otherOf u a = some o) : o ∈ s.paired u := List.mem_of_find?_eq_some h

theorem UnitsRun.changeover (hs : UnitsRun s) {o : Station} (hstate : (s.unit u).state = .feeding) (ho : o ∈ s.paired u) :
    UnitsRun (startChangeover u o s) := by
  have h := hs.1.units u
  have htravel := h.no_travel (by rw [hstate]; exact UnitState.noConfusion) (by rw [hstate]; exact fun _ => UnitState.noConfusion)
  refine hs.onUnit (h.ramped hstate ho Config.decayMs) (fun _ => by rw [hstate]; exact UnitState.noConfusion) id
    (fun x h => meets_of_same h ?_ rfl)
  exact activeAt_same htravel (by rw [hstate]; exact fun _ => UnitState.noConfusion) htravel (fun _ => UnitState.noConfusion) rfl

theorem UnitsSound.changeover (hs : UnitsSound s) {o : Station} (hstate : (s.unit u).state = .feeding) (ho : o ∈ s.paired u) :
    UnitsSound (startChangeover u o s) := hs.onUnit ((hs.units u).ramped hstate ho Config.decayMs)

theorem autoTarget_parts {o : Station} (h : s.autoTarget u = some o) : (s.unit u).state = .feeding ∧ o ∈ s.paired u := by
  unfold State.autoTarget at h
  split at h
  · next hstate =>
    split at h
    · split at h
      · next hother =>
        split at h
        · cases h
          exact ⟨hstate.1, otherOf_paired hother⟩
        · cases h
      · cases h
    · cases h
  · cases h

theorem mayFeed_parts (hs : UnitsSound s) (h : s.mayFeed u) : (s.unit u).travel = none ∧ (s.unit u).position.isSome = true ∧
    (∀ t, (s.unit u).state ≠ .switching t) := by
  rcases h.2 with ⟨hstate, htravel, hpos⟩ | ⟨t, hstate⟩
  · exact ⟨htravel, hpos, by rw [hstate]; exact fun _ => UnitState.noConfusion⟩
  · have hnot : ∀ o, (s.unit u).state ≠ .switching o := by rw [hstate]; exact fun _ => UnitState.noConfusion
    exact ⟨(hs.units u).no_travel (by rw [hstate]; exact UnitState.noConfusion) hnot, (hs.units u).placed (.inr ⟨t, hstate⟩), hnot⟩

/-- A unit that may feed is obeyed when it does. -/
theorem fed_obeys (hs : UnitsSound s) (h : s.mayFeed u) (dwell : Nat) : Obeys (s.onUnit u (PowerUnit.feed dwell)) u := by
  obtain ⟨htravel, -, hnot⟩ := mayFeed_parts hs h
  obtain ⟨hempty, hnone⟩ := tripsEmpty_iff.mp h.1
  intro _
  rw [tripsEmpty_iff, unit_onUnit_self]
  refine ⟨hempty, fun k hk hcounts => hnone k hk (meets_of_same hcounts ?_ rfl)⟩
  exact activeAt_same htravel hnot htravel (fun _ => UnitState.noConfusion) rfl

theorem inhibit_obeys (s : State) (u : UnitId) : Obeys (s.onUnit u PowerUnit.inhibit) u := fun h =>
  absurd (by rw [unit_onUnit_self]; rfl) h

theorem UnitsSound.sharedStep (hs : UnitsSound s) (h : SharedStep s t) : UnitsSound t := by
  cases h with
  | changeover h =>
    obtain ⟨hstate, ho⟩ := autoTarget_parts h
    exact hs.changeover hstate ho
  | inhibit u => exact hs.onUnit (hs.units u).inhibited
  | feed h =>
    obtain ⟨htravel, hpos, -⟩ := mayFeed_parts hs h
    exact hs.onUnit ((hs.units _).fed htravel hpos _)
  | _ => exact hs.congr rfl rfl rfl

theorem UnitsSound.shared (hs : UnitsSound s) (h : Shared s t) : UnitsSound t := h.keeps (fun _ _ k hx => hx.sharedStep k) hs

/-- A unit that is obeyed stays so through shared work. -/
theorem Obeys.sharedStep (hv : Obeys s v) (hs : UnitsSound s) (h : SharedStep s t) : Obeys t v := by
  cases h with
  | @changeover u o h =>
    obtain ⟨hstate, ho⟩ := autoTarget_parts h
    by_cases hv' : v = u
    · subst hv'
      have hk := hs.units v
      have htravel := hk.no_travel (by rw [hstate]; exact UnitState.noConfusion) (by rw [hstate]; exact fun _ => UnitState.noConfusion)
      refine hv.lessens (.of_same rfl rfl) ?_ ?_ ?_ <;> unfold startChangeover <;> rw [unit_onUnit_self]
      · exact fun _ => by rw [hstate]; exact UnitState.noConfusion
      · exact id
      · refine fun x h => meets_of_same h ?_ rfl
        exact activeAt_same htravel (by rw [hstate]; exact fun _ => UnitState.noConfusion) htravel (fun _ => UnitState.noConfusion) rfl
    · exact hv.onUnit_other hv'
  | inhibit u =>
    by_cases hv' : v = u
    · subst hv'; exact inhibit_obeys s v
    · exact hv.onUnit_other hv'
  | @feed u h =>
    by_cases hv' : v = u
    · subst hv'; exact fed_obeys hs h _
    · exact hv.onUnit_other hv'
  | _ => exact hv.same (.of_same rfl rfl) rfl

theorem Obeys.shared (hv : Obeys s v) (hs : UnitsSound s) (h : Shared s t) : Obeys t v :=
  (h.keeps (P := fun x => UnitsSound x ∧ Obeys x v) (fun _ _ k hx => ⟨hx.1.sharedStep k, hx.2.sharedStep hx.1 k⟩) ⟨hs, hv⟩).2

theorem UnitsRun.sharedStep (hs : UnitsRun s) (h : SharedStep s t) : UnitsRun t :=
  ⟨hs.1.sharedStep h, fun u => (hs.2 u).sharedStep hs.1 h⟩

theorem UnitsRun.shared (hs : UnitsRun s) (h : Shared s t) : UnitsRun t := h.keeps (fun _ _ k hx => hx.sharedStep k) hs

/-! ### Units judged (R71, R74, R82) -/

/-- What follows a unit's entry into INHIBITED. -/
theorem afterInhibit_shared (u : UnitId) (ended : Option ChangeoverEnd) : Shared (s.onUnit u PowerUnit.inhibit) (enterInhibited u ended s) := by
  have htrip : Shared (s.onUnit u PowerUnit.inhibit) ((s.onUnit u PowerUnit.inhibit).notify .trip (unitCode u) (nat (s.unit u).causes.bits)
    (nat (programBits (s.tripPrograms u))) (nat (stationOrNone (s.unit u).position))) := notify_shared _ ..
  unfold enterInhibited
  apply Shared.reexamined
  cases ended with
  | none => exact htrip
  | some how => exact htrip.notified ..

/-- A unit enters INHIBITED, its record then agreeing with its state. -/
theorem inhibited_run (hs : UnitsSound (s.onUnit u PowerUnit.inhibit)) (hothers : ∀ v, v ≠ u → Obeys s v) (ended : Option ChangeoverEnd) :
    UnitsRun (enterInhibited u ended s) := by
  have hrun : UnitsRun (s.onUnit u PowerUnit.inhibit) := by
    refine ⟨hs, fun v => ?_⟩
    by_cases hv : v = u
    · exact hv ▸ inhibit_obeys s u
    · exact (hothers v hv).onUnit_other hv
  exact hrun.shared (afterInhibit_shared u ended)

/-- What re-judging a unit does: nothing, where it is INHIBITED or nothing stands against it; or the unit becomes INHIBITED, or feeds. -/
theorem rejudge_outcome (s : State) (u : UnitId) :
    (((s.unit u).state = .inhibited ∨ s.tripsEmpty u = true) ∧ rejudge u s = s) ∨
    (s.tripsEmpty u = false ∧ (s.unit u).state ≠ .inhibited ∧ ∃ ended, rejudge u s = enterInhibited u ended s) ∨
    (s.mayFeed u ∧ (rejudge u s = leaveInhibited u s ∨ rejudge u s = abandonRamp u s)) := by
  rcases rejudge_cases s u with h | ⟨htrip, hstate, ended, h⟩ | ⟨htrip, hstate, htravel, hpos, h⟩ | ⟨htrip, t, ht, -, h⟩
  · by_cases hquiet : (s.unit u).state = .inhibited ∨ s.tripsEmpty u = true
    · exact .inl ⟨hquiet, h⟩
    · rw [not_or, Bool.not_eq_true] at hquiet
      refine .inr (.inl ⟨hquiet.2, hquiet.1, ?_⟩)
      unfold rejudge
      simp only [hquiet.2]
      cases hstate : (s.unit u).state with
      | inhibited => exact absurd hstate hquiet.1
      | rampDown | settling => exact ⟨some .abandoned, rfl⟩
      | feeding | switching => exact ⟨none, rfl⟩
  · exact .inr (.inl ⟨htrip, hstate, ended, h⟩)
  · exact .inr (.inr ⟨⟨htrip, .inl ⟨hstate, htravel, hpos⟩⟩, .inl h⟩)
  · exact .inr (.inr ⟨⟨htrip, .inr ⟨t, ht⟩⟩, .inr h⟩)

theorem rejudge_obeys (hs : UnitsSound s) : Obeys (rejudge u s) u := by
  rcases rejudge_outcome s u with ⟨hquiet, h⟩ | ⟨-, -, ended, h⟩ | ⟨hfeed, h⟩
  · rw [h]
    exact fun hstate => hquiet.resolve_left hstate
  · rw [h]
    exact (inhibit_obeys s u).shared (hs.onUnit (hs.units u).inhibited) (afterInhibit_shared u ended)
  · have hobeys := fed_obeys hs hfeed s.cfg.shop.minDwell
    have hsound := hs.sharedStep (.feed hfeed)
    rcases h with h | h <;> rw [h]
    · exact hobeys.shared hsound (Shared.reexamined ((notify_shared _ ..).trans (autoEvaluate_shared _ u)))
    · exact hobeys.shared hsound ((notify_shared _ ..).trans (autoEvaluate_shared _ u))

/-- Re-judging the one unit that may not be obeyed. -/
theorem rejudged_run (hs : UnitsSound s) (hothers : ∀ v, v ≠ u → Obeys s v) : UnitsRun (rejudge u s) := by
  refine ⟨hs.shared (rejudge_shared s u), fun v => ?_⟩
  by_cases hv : v = u
  · exact hv ▸ rejudge_obeys hs
  · exact (hothers v hv).shared hs (rejudge_shared s u)

end

end Sys2Proof.Machine

/-!
PROOFS. The requests and the events keep the units' invariant.
-/

namespace Sys2Proof.Machine

section
variable {s t : State} {u v : UnitId} {p q : PowerUnit} {near : List Station}

/-! ## Deeds outside the units -/

theorem Update.unitsRun {sc : Scope} (hsc : sc = .aside ∨ sc = .floor) (h : Update sc s t) (hs : UnitsRun s) : UnitsRun t := by
  have hunit : sc ∉ [Scope.units, .engine, .all] := by rcases hsc with rfl | rfl <;> decide
  have hruns : sc ∉ [Scope.engine, .all] := by rcases hsc with rfl | rfl <;> decide
  cases h with
  | unit _ _ h => exact absurd h hunit
  | runs _ h => exact absurd h hruns
  | _ => exact hs.same rfl rfl rfl rfl rfl

/-- What is done outside the units and the watch engine keeps the units. -/
theorem Deed.unitsRun {sc : Scope} (h : Deed sc s t) (hsc : sc = .aside ∨ sc = .floor) (hs : UnitsRun s) : UnitsRun t :=
  h.keeps (fun _ _ k hx => k.unitsRun hsc hx) (fun _ _ k hx => hx.sharedStep k) hs

/-! ## Units at rest -/

/-- A unit is INHIBITED with no travel under way. -/
def PowerUnit.atRest (p : PowerUnit) : Prop := p.state = .inhibited ∧ p.travel = none

theorem UnitSound.rest (h : UnitSound p near) (hstate : p.state = .inhibited) :
    p.grant = 0 ∧ p.decayTimer = none ∧ p.settleTimer = none := by
  refine ⟨?_, ?_, ?_⟩
  · by_contra hgrant
    exact UnitState.noConfusion (hstate.symm.trans (h.grant hgrant))
  · refine Option.not_isSome_iff_eq_none.mp (fun hd => ?_)
    obtain ⟨t, ht⟩ := h.decay.mp hd
    exact UnitState.noConfusion (hstate.symm.trans ht)
  · refine Option.not_isSome_iff_eq_none.mp (fun hd => ?_)
    obtain ⟨t, ht⟩ := h.settle.mp hd
    exact UnitState.noConfusion (hstate.symm.trans ht)

theorem sound_at_rest (hrest : p.atRest) (hgrant : p.grant = 0) (hdecay : p.decayTimer = none) (hsettle : p.settleTimer = none)
    (hpos : ∀ st, p.position = some st → st ∈ near) (hunused : near = [] → p.causes.noLayout = true) : UnitSound p near := by
  obtain ⟨hstate, htravel⟩ := hrest
  refine ⟨fun h => absurd hgrant h, ?_, ?_, fun t h => ?_, fun w hw => ?_, fun t h => ?_, fun h => ?_, fun st h => ?_, hunused⟩
  · rw [hdecay, hstate]; simp
  · rw [hsettle, hstate]; simp
  · rw [hstate] at h; exact UnitState.noConfusion h
  · rw [htravel] at hw; exact absurd hw (by simp)
  · rw [hstate] at h; exact UnitState.noConfusion h
  · rw [hstate] at h
    rcases h with h | ⟨t, h⟩ <;> exact UnitState.noConfusion h
  · rw [hstate, htravel] at h
    rcases h with h | h | h
    · exact hpos st h
    · exact absurd h (by simp)
    · exact UnitState.noConfusion h

theorem obeys_at_rest (h : (s.unit u).atRest) : Obeys s u := fun hne => absurd h.1 hne

theorem shown_paired {o : Station} (h : s.shown u = some o) : o ∈ s.paired u := by
  unfold State.shown at h
  simp only at h
  split at h
  · exact List.mem_of_getElem? h
  · exact List.mem_of_getElem? h
  · cases h

/-- Every unit at rest and sound. -/
def AllRest (s : State) : Prop := UnitsSound s ∧ ∀ u, (s.unit u).atRest

theorem AllRest.run (h : AllRest s) : UnitsRun s := ⟨h.1, fun u => obeys_at_rest (h.2 u)⟩

/-- A unit at rest takes another position and other causes. -/
theorem AllRest.onUnit (h : AllRest s) {f : PowerUnit → PowerUnit} (hrest : (f (s.unit u)).atRest) (hgrant : (f (s.unit u)).grant = (s.unit u).grant)
    (hdecay : (f (s.unit u)).decayTimer = (s.unit u).decayTimer) (hsettle : (f (s.unit u)).settleTimer = (s.unit u).settleTimer)
    (hpos : ∀ st, (f (s.unit u)).position = some st → st ∈ s.paired u) (hunused : s.paired u = [] → (f (s.unit u)).causes.noLayout = true) :
    AllRest (s.onUnit u f) := by
  obtain ⟨hzero, hnone, hnone'⟩ := (h.1.units u).rest (h.2 u).1
  refine ⟨h.1.onUnit (sound_at_rest hrest (hgrant.trans hzero) (hdecay.trans hnone) (hsettle.trans hnone') hpos hunused), fun v => ?_⟩
  rw [unit_onUnit]
  split
  · exact hrest
  · exact h.2 v

/-! ## LAYOUT (R3) -/

theorem adoptUnit_rest (h : AllRest s) (u : UnitId) : AllRest (adoptUnit s u) := by
  unfold adoptUnit
  split
  · next hused =>
    refine h.onUnit (h.2 u) rfl rfl rfl (fun st hst => shown_paired hst) (fun hnone => ?_)
    exact absurd hused (by rw [used_iff.mpr hnone]; decide)
  · exact h

theorem unloaded_rest (hs : UnitsRun s) (hblank : s.cfg.layout.loaded = false) : ∀ u, (s.unit u).atRest ∧ (s.unit u).position = none ∧
    (s.unit u).causes.noLayout = true := by
  intro u
  have h := hs.1.units u
  have hnone : s.paired u = [] := by
    rw [State.paired, List.filter_eq_nil_iff]
    intro st _
    simp [hs.1.blank hblank st]
  rw [hnone] at h
  have hlayout := h.unused rfl
  have hstate : (s.unit u).state = .inhibited := by
    by_contra hne
    have := (tripsEmpty_iff.mp (hs.2 u hne)).1
    simp [Causes.isEmpty, hlayout] at this
  refine ⟨⟨hstate, ?_⟩, ?_, hlayout⟩
  · cases ht : (s.unit u).travel with
    | none => rfl
    | some w => exact absurd (h.pairing w.target (.inr (.inl (by rw [ht]; rfl)))) List.not_mem_nil
  · cases hp : (s.unit u).position with
    | none => rfl
    | some st => exact absurd (h.pairing st (.inl hp)) List.not_mem_nil

theorem AllRest.congr (h : AllRest s) (hunits : t.units = s.units) (hlayout : t.cfg.layout = s.cfg.layout)
    (hheld : t.resetHeld = s.resetHeld) : AllRest t :=
  ⟨h.1.congr hunits hlayout hheld, fun u => by rw [State.unit, hunits]; exact h.2 u⟩

theorem adoptStation_rest (h : AllRest s) (st : Station) : AllRest (adoptStation s st) := by
  unfold adoptStation
  split
  · exact h.congr rfl rfl rfl
  · exact h

theorem AllRest.started (h : AllRest s) : UnitsRun (startPrograms (fun _ => true) (markEvaluated s)) := by
  have hmarked : AllRest (markEvaluated s) :=
    List.foldlRecOn (motive := AllRest) allCircuits _ h (fun _ hx k _ => hx.congr rfl rfl rfl)
  generalize markEvaluated s = x at hmarked
  exact AllRest.run (hmarked.congr rfl rfl rfl)

theorem AllRest.stations (h : AllRest s) : AllRest (allStations.foldl adoptStation s) :=
  List.foldlRecOn (motive := AllRest) allStations adoptStation h (fun _ hx st _ => adoptStation_rest hx st)

theorem AllRest.units (h : AllRest s) : AllRest (allUnits.foldl adoptUnit s) :=
  List.foldlRecOn (motive := AllRest) allUnits adoptUnit h (fun _ hx u _ => adoptUnit_rest hx u)

theorem UnitsRun.takeLayout (hs : UnitsRun s) (hblank : s.cfg.layout.loaded = false) {l : Layout} (hl : l.loaded = true) :
    UnitsRun (takeLayout l s) := by
  have hrest := unloaded_rest hs hblank
  have hlaid : AllRest (s.laidOut l) := by
    refine ⟨⟨fun u => ?_, fun h => absurd (hl.symm.trans h) (by decide), hs.1.running⟩, fun u => (hrest u).1⟩
    obtain ⟨hat, hpos, hcause⟩ := hrest u
    obtain ⟨hzero, hnone, hnone'⟩ := (hs.1.units u).rest hat.1
    exact sound_at_rest hat hzero hnone hnone' (fun st hst => absurd (hpos.symm.trans hst) (by simp)) (fun _ => hcause)
  rw [takeLayout_eq]
  exact hlaid.stations.units.started.shared (reexamine_shared _)

/-! ## The watch engine -/

theorem held_of_run {k : Program} (h : (s.run k).applied = none) : s.held k = .nothing := by
  unfold State.held
  rw [h]

/-- Another run state that holds no action. -/
theorem fewer_onRun {k : Program} {f : RunState → RunState} (h : (f (s.run k)).applied = none) : FewerTrips s (s.onRun k f) := by
  intro j hj
  by_cases hjk : k = j
  · subst hjk
    have hrun : (s.onRun k f).run k = f (s.run k) := (State.onRun_run s k k f).trans (if_pos rfl)
    rw [held_of_run (hrun.symm ▸ h)] at hj
    exact absurd hj (by decide)
  · have hrun : (s.onRun k f).run j = s.run j := (State.onRun_run s k j f).trans (if_neg hjk)
    exact ⟨by unfold State.held at hj ⊢; rwa [hrun] at hj, rfl⟩

theorem UnitsRun.withdrawInto (hs : UnitsRun s) {k : Program} {x : RunState} (h : x.applied = none) : UnitsRun (withdrawInto k x s) := by
  unfold Machine.withdrawInto
  refine UnitsRun.shared ?_ (handMembership_shared _ ..)
  exact hs.congr rfl rfl rfl (fewer_onRun h)

theorem UnitsRun.foldl {α : Type} {f : State → α → State} (h : ∀ x a, UnitsRun x → UnitsRun (f x a)) (xs : List α) (hs : UnitsRun s) :
    UnitsRun (xs.foldl f s) := List.foldlRecOn xs f hs (fun x hx a _ => h x a hx)

theorem UnitsRun.suspended (hs : UnitsRun s) (st : Station) : UnitsRun (suspendPrograms st s) := by
  refine hs.foldl (fun x k hx => ?_) allPrograms
  split
  · exact hx.withdrawInto rfl
  · exact hx

theorem UnitsRun.released (hs : UnitsRun s) (u : UnitId) : UnitsRun (releasePrograms u s) := by
  refine hs.foldl (fun x k hx => ?_) allPrograms
  split
  · exact hx.withdrawInto rfl
  · exact hx

/-- A fresh start of some programs: each program's run state is its old one or holds nothing. -/
theorem fewer_of_runs {x : State} (hprograms : x.cfg.programs = s.cfg.programs) (h : ∀ k, x.run k = s.run k ∨ (x.run k).applied = none) :
    FewerTrips s x := by
  intro k hk
  rcases h k with hrun | hnone
  · refine ⟨by unfold State.held at hk ⊢; rwa [hrun] at hk, ?_⟩
    rw [State.program, hprograms]
    rfl
  · rw [held_of_run hnone] at hk
    exact absurd hk (by decide)

theorem startPrograms_runs (which : Target → Bool) (s : State) (k : Program) :
    (startPrograms which s).run k = s.run k ∨ ((startPrograms which s).run k).applied = none := by
  refine List.foldlRecOn (motive := fun r => look r k = s.run k ∨ (look r k).applied = none) allPrograms _ (.inl rfl) (fun r hr j _ => ?_)
  split
  · rw [look_place]
    split
    · exact .inr rfl
    · exact hr
  · exact hr

theorem UnitsRun.started (hs : UnitsRun s) (which : Target → Bool) : UnitsRun (startPrograms which s) :=
  hs.congr rfl rfl rfl (fewer_of_runs rfl (startPrograms_runs which s))

theorem UnitsRun.enableStation (hs : UnitsRun s) (st : Station) : UnitsRun (enableStation st s) := by
  refine UnitsRun.shared (UnitsRun.started ?_ _) (reexamine_shared _)
  refine (markStation_deed _ st true).unitsRun (.inl rfl) ?_
  exact hs.same rfl rfl rfl rfl rfl

theorem UnitsRun.disableStation (hs : UnitsRun s) (st : Station) : UnitsRun (disableStation st s) := by
  refine UnitsRun.shared ?_ (Shared.reexamined (tellOff_shared _ st))
  refine (markStation_deed _ st false).unitsRun (.inl rfl) (UnitsRun.suspended (UnitsRun.shared ?_ (recompute_shared _ st)) st)
  exact hs.same rfl rfl rfl rfl rfl

/-! ### PROGRAM writes (R144) -/

theorem startRun_applied (x : State) (k : Program) : (x.startRun k).applied = none := by
  unfold State.startRun
  split <;> rfl

theorem UnitsRun.writeProgram (hs : UnitsRun s) {first count : Nat} {b : List Byte} {xs : List ProgramRec}
    (hxs : recordsOf programRecOf 19 count b = some xs) (hheld : ∀ k ∈ coveredPrograms first count, (s.held k).trips = false) :
    UnitsRun ((coveredPrograms first count).foldl rewriteRun
      (s.onCfg (fun c => { c with programs := storeFrom c.programs first (xs.map ProgramRec.clamped) }))) := by
  have hrewrite : ∀ (x : State) (k : Program), UnitsRun x → UnitsRun (rewriteRun x k) := fun x k hx => by
    have hfewer : FewerTrips x (x.onRun k (fun _ => x.startRun k)) := fewer_onRun (startRun_applied x k)
    exact hx.congr rfl rfl rfl hfewer
  refine UnitsRun.foldl hrewrite _ ?_
  refine hs.congr rfl rfl rfl (fun k hk => ⟨hk, ?_⟩)
  have hlen : (xs.map ProgramRec.clamped).length = count := by rw [List.length_map, (recordsOf_get hxs).1]
  have houtside : ¬ (first ≤ k.val ∧ k.val < first + (xs.map ProgramRec.clamped).length) := by
    rw [hlen]
    intro hin
    have hmem : k ∈ coveredPrograms first count := by
      simp only [coveredPrograms, List.mem_filter, Bool.and_eq_true, decide_eq_true_eq]
      exact ⟨mem_allPrograms k, hin⟩
    exact absurd ((hheld k hmem).symm.trans hk) (by decide)
  exact congrArg ProgramRec.target (look_storeFrom_outside houtside)

end

end Sys2Proof.Machine

/-!
PROOFS. The events of the units, the evaluation of a watch program and the resets keep the units' invariant; so every step does.
-/

namespace Sys2Proof.Machine

section
variable {s t : State} {u v : UnitId} {p q : PowerUnit} {near : List Station}

/-! ## A unit's record changes without anything new against it -/

theorem mem_paired_unit {st : Station} (h : st ∈ s.paired u) : (s.layoutOf st).present = true ∧ (s.layoutOf st).unit = some u :=
  mem_paired_iff.mp h

theorem changeoverStop_none {o : Station} (h : s.changeoverStop u o = none) : (s.unit u).state = .feeding ∧ o ∈ s.paired u := by
  unfold State.changeoverStop at h
  simp only [refusal_none, not_not] at h
  obtain ⟨hpaired, -, -, hstate, -⟩ := h
  exact ⟨hstate, mem_paired_iff.mpr hpaired⟩

/-- A unit takes another measured power, feeding mark or grant. -/
theorem UnitsRun.noted (hs : UnitsRun s) {f : PowerUnit → PowerUnit} (hf : ∀ p : PowerUnit, (f p).state = p.state ∧ (f p).position = p.position ∧
    (f p).travel = p.travel ∧ (f p).causes = p.causes ∧ (f p).decayTimer = p.decayTimer ∧ (f p).settleTimer = p.settleTimer)
    (hgrant : ∀ p : PowerUnit, (f p).grant ≠ 0 → p.grant ≠ 0 ∨ p.state = .feeding) : UnitsRun (s.onUnit u f) := by
  have h := hs.1.units u
  obtain ⟨hstate, hpos, htravel, hcauses, hdecay, hsettle⟩ := hf (s.unit u)
  have hactive : (f (s.unit u)).activeAt = (s.unit u).activeAt := by unfold PowerUnit.activeAt; rw [hstate, hpos, htravel]
  refine hs.onUnit ⟨?_, ?_, ?_, ?_, ?_, ?_, ?_, ?_, ?_⟩ (by rw [hstate]; exact id) (by rw [hcauses]; exact id)
    (fun x hx => meets_of_same hx hactive htravel)
  · intro hne
    rw [hstate]
    exact (hgrant _ hne).elim h.grant id
  · rw [hdecay, hstate]; exact h.decay
  · rw [hsettle, hstate]; exact h.settle
  · rw [hstate, htravel]; exact h.switching
  · rw [hstate, htravel, hpos]; exact h.travel
  · rw [hstate, hpos]; exact h.settling
  · rw [hstate, hpos]; exact h.placed
  · rw [hpos, htravel, hstate]; exact h.pairing
  · rw [hcauses]; exact h.unused

/-- A unit's causes change, and its record agrees with its state as before. -/
theorem UnitsSound.onCauses (hs : UnitsSound s) {f : Causes → Causes} (hf : ∀ c : Causes, c.noLayout = true → (f c).noLayout = true) :
    UnitsSound (onCauses u f s) := by
  have h := hs.units u
  exact hs.onUnit ⟨h.grant, h.decay, h.settle, h.switching, h.travel, h.settling, h.placed, h.pairing, fun hnone => hf _ (h.unused hnone)⟩

/-! ## Requests -/

theorem causesLeft_empty (h : (s.unit u).causes.isEmpty = true) : (s.causesLeft u).isEmpty = true := by
  simp only [Causes.isEmpty, Bool.and_eq_true, Bool.not_eq_true'] at h
  obtain ⟨⟨⟨⟨⟨hlayout, -⟩, hfault⟩, hpump⟩, hswitch⟩, hdecay⟩ := h
  simp [Causes.isEmpty, State.causesLeft, hlayout, hfault, hpump, hswitch, hdecay]

theorem UnitsRun.tripReset (hs : UnitsRun s) (u : UnitId) : UnitsRun (tripReset u s) := by
  have h := hs.1.units u
  have hcleared : UnitsRun (Machine.onCauses u (fun _ => s.causesLeft u) s) :=
    hs.onUnit ⟨h.grant, h.decay, h.settle, h.switching, h.travel, h.settling, h.placed, h.pairing, h.unused⟩ id causesLeft_empty
      (fun x hx => meets_of_same hx rfl rfl)
  exact (hcleared.released u).shared (rejudge_shared _ u)

theorem shopStored_units (s : State) (new : ShopRec) : (s.shopStored new).units = s.units ∧ (s.shopStored new).runs = s.runs ∧
    (s.shopStored new).resetHeld = s.resetHeld := by
  unfold State.shopStored
  simp only
  split <;> exact ⟨rfl, rfl, rfl⟩

theorem units_served {k : RequestKind} (h : Served s k t) (hs : UnitsRun s) : UnitsRun t := by
  have hdeed : ¬ writes k → scopeOf k = .aside ∨ scopeOf k = .floor → UnitsRun t := fun hk hsc => (served_deed h hk).unitsRun hsc hs
  cases h with
  | shopStatus | restart | writeCircuit | writeGrade | reline => exact hs.same rfl rfl rfl rfl rfl
  | layout hblank => exact hs.takeLayout hblank rfl
  | writeShop r =>
    obtain ⟨hunits, hruns, hheld⟩ := shopStored_units s r.clamped
    have hcfg := shopStored_cfg s r.clamped
    refine UnitsRun.shared ?_ (takeShop_shared s _)
    exact hs.same hunits (by rw [hcfg]) hheld hruns (by rw [hcfg])
  | writeStation =>
    refine UnitsRun.shared ?_ (reexamine_shared _)
    exact hs.same rfl rfl rfl rfl rfl
  | writeUnit =>
    refine UnitsRun.shared ?_ (evaluateAll_shared _ _)
    exact hs.same rfl rfl rfl rfl rfl
  | writeProgram _ hxs hheld => exact hs.writeProgram hxs hheld
  | writeLining =>
    refine UnitsRun.shared ?_ (liningEdges_shared _ s _)
    exact hs.same rfl rfl rfl rfl rfl
  | stationEnable => exact hs.enableStation _
  | stationDisable => exact hs.disableStation _
  | unitMode u m =>
    refine UnitsRun.shared ?_ (setMode_shared s u m)
    exact hs.same rfl rfl rfl rfl rfl
  | changeover h =>
    obtain ⟨hstate, ho⟩ := changeoverStop_none h
    exact hs.changeover hstate ho
  | tripReset u => exact hs.tripReset u
  | watchStatus =>
    refine hs.congr rfl rfl rfl (fun k hk => ⟨?_, rfl⟩)
    unfold State.held State.run at hk ⊢
    rw [look_overAll] at hk
    exact hk
  | _ => exact hdeed (by simp [writes]) (by simp [scopeOf])

/-! ## The units' events (R69, R70, R77 to R81) -/

/-- The ramp is over: the unit travels (R78). -/
theorem UnitSound.travels (h : UnitSound p near) {o : Station} (hstate : p.state = .rampDown o) (n : Nat) :
    UnitSound { p with state := .switching o, decayTimer := none, position := none, travel := some { target := o, timer := n } } near := by
  have hgrant : p.grant = 0 := by
    by_contra hne
    exact UnitState.noConfusion (hstate.symm.trans (h.grant hne))
  have hsettle : p.settleTimer = none := by
    refine Option.not_isSome_iff_eq_none.mp (fun hd => ?_)
    obtain ⟨t, ht⟩ := h.settle.mp hd
    exact UnitState.noConfusion (hstate.symm.trans ht)
  refine ⟨fun k => absurd hgrant k, ⟨fun k => Bool.noConfusion k, fun ⟨t, k⟩ => UnitState.noConfusion k⟩,
    ⟨fun k => absurd (hsettle ▸ k : (none : Option Nat).isSome = true) (by decide), fun ⟨t, k⟩ => UnitState.noConfusion k⟩, fun t k => ?_,
    fun w k => ?_, fun t k => UnitState.noConfusion k, fun k => ?_, fun st k => ?_, h.unused⟩
  · cases k; rfl
  · cases k; exact ⟨rfl, .inr rfl⟩
  · rcases k with k | ⟨t, k⟩ <;> exact UnitState.noConfusion k
  · rcases k with k | k | k
    · cases k
    · cases k; exact h.pairing o (.inr (.inr hstate))
    · exact UnitState.noConfusion k

theorem UnitsRun.takePower (hs : UnitsRun s) (u : UnitId) (kw : Nat) : UnitsRun (takePower u kw s) := by
  have hword : UnitsRun (s.onUnit u (fun p => { p with measured := min kw (s.powerTop u) })) :=
    hs.noted (fun _ => ⟨rfl, rfl, rfl, rfl, rfl, rfl⟩) (fun _ h => .inl h)
  unfold Machine.takePower
  simp only
  split
  · next o hstate =>
    split
    · refine rejudged_run (UnitsSound.onUnit hword.1 ?_) (fun v hv => (hword.2 v).onUnit_other hv)
      refine (hword.1.units u).travels ?_ _
      rw [unit_onUnit_self]
      exact hstate
    · exact hword
  · exact hword

theorem UnitsRun.decayExpired (hs : UnitsRun s) (u : UnitId) : UnitsRun (decayExpired u s) := by
  unfold Machine.decayExpired
  split
  · have hcaused : UnitsSound (Machine.onCauses u (fun c => { c with noDecay := true }) s) := hs.1.onCauses (fun _ => id)
    exact inhibited_run (hcaused.onUnit (hcaused.units u).inhibited) (fun v hv => (hs.2 v).onUnit_other hv) _
  · exact hs

/-- A travel has reached its target: the unit settles (R78, R81). -/
theorem UnitSound.settles (h : UnitSound p near) {w : Travel} (hw : p.travel = some w) (n : Nat) :
    UnitSound { p with position := some w.target, travel := none, state := .settling w.target, settleTimer := some n } near := by
  have hnot : p.state ≠ .feeding ∧ ∀ o, p.state ≠ .rampDown o := by
    rcases (h.travel w hw).2 with k | k <;> rw [k] <;> exact ⟨UnitState.noConfusion, fun _ => UnitState.noConfusion⟩
  have hgrant : p.grant = 0 := by
    by_contra hne
    exact hnot.1 (h.grant hne)
  have hdecay : p.decayTimer = none := by
    refine Option.not_isSome_iff_eq_none.mp (fun hd => ?_)
    obtain ⟨t, ht⟩ := h.decay.mp hd
    exact hnot.2 t ht
  refine ⟨fun k => absurd hgrant k, ⟨fun k => ?_, fun ⟨t, k⟩ => UnitState.noConfusion k⟩, ⟨fun _ => ⟨_, rfl⟩, fun _ => rfl⟩,
    fun t k => UnitState.noConfusion k, fun _ k => absurd k (by simp), fun t k => ?_, fun k => ?_, fun st k => ?_, h.unused⟩
  · exact absurd (hdecay ▸ k : (none : Option Nat).isSome = true) (by decide)
  · cases k; rfl
  · rcases k with k | ⟨t, k⟩ <;> exact UnitState.noConfusion k
  · rcases k with k | k | k
    · cases k; exact h.pairing w.target (.inr (.inl (by rw [hw]; rfl)))
    · cases k
    · exact UnitState.noConfusion k

theorem UnitSound.arrives (h : UnitSound p near) {w : Travel} (hw : p.travel = some w) (hstate : p.state = .inhibited) :
    UnitSound { p with position := some w.target, travel := none } near := by
  obtain ⟨hgrant, hdecay, hsettle⟩ := h.rest hstate
  refine sound_at_rest ⟨hstate, rfl⟩ hgrant hdecay hsettle (fun st hst => ?_) h.unused
  cases hst
  exact h.pairing w.target (.inr (.inl (by rw [hw]; rfl)))

/-- Of two changes of one place the second stands. -/
theorem place_place {α : Type} {n : Nat} (b : Bank α n) (i : Fin n) (x y : α) : place (place b i x) i y = place b i y := by
  unfold place
  exact Vector.set_set _ _

theorem onUnit_onUnit (s : State) (u : UnitId) (f g : PowerUnit → PowerUnit) : (s.onUnit u f).onUnit u g = s.onUnit u (fun p => g (f p)) := by
  unfold State.onUnit
  simp only [look_place_same, place_place]

theorem UnitsRun.endTravel (hs : UnitsRun s) {w : Travel} (hw : (s.unit u).travel = some w) : UnitsRun (endTravel u w.target s) := by
  have h := hs.1.units u
  unfold Machine.endTravel
  simp only
  split
  · next hstate =>
    have harrived : UnitsRun (s.onUnit u (fun p => { p with position := some w.target, travel := none })) := by
      refine ⟨hs.1.onUnit (h.arrives hw hstate), fun v => ?_⟩
      by_cases hv : v = u
      · subst hv
        exact fun hne => absurd (by rw [unit_onUnit_self]; exact hstate) hne
      · exact (hs.2 v).onUnit_other hv
    split
    · next hempty =>
      refine UnitsRun.shared ?_ (Shared.reexamined (noticeTripClear_shared _ u))
      rw [onUnit_onUnit]
      refine ⟨hs.1.onUnit (h.settles hw _), fun v => ?_⟩
      by_cases hv : v = u
      · subst hv
        intro _
        obtain ⟨hcauses, hnone⟩ := tripsEmpty_iff.mp hempty
        rw [unit_onUnit_self] at hcauses hnone
        rw [tripsEmpty_iff, unit_onUnit_self]
        exact ⟨hcauses, fun k hk hcounts => hnone k hk (meets_of_same hcounts (activeAt_same rfl
          (by rw [hstate]; exact fun _ => UnitState.noConfusion) rfl (fun _ => UnitState.noConfusion) rfl) rfl)⟩
      · exact (hs.2 v).onUnit_other hv
    · exact harrived.shared (noticeChangeover_shared _ u _)
  · next hstate =>
    rw [onUnit_onUnit]
    refine hs.onUnit (h.settles hw _) (fun _ => hstate) id (fun x hx => ?_)
    rcases hx with hx | ⟨st, hst, hx | hx⟩
    · exact .inl hx
    · refine .inr ⟨st, hst, .inr ?_⟩
      cases hx
      rw [hw]
      rfl
    · cases hx

/-- A unit record that follows its contacts (R70). -/
def PowerUnit.following (now : Option Station) (moved : Bool) (p : PowerUnit) : PowerUnit :=
  { p with position := now, causes := { p.causes with switch := p.causes.switch || moved } }

theorem followContacts_eq : followContacts u s =
    rejudge u (s.onUnit u (PowerUnit.following (s.shown u) ((s.shown u).isNone || s.shown u != (s.unit u).position))) := rfl

theorem onUnit_still {f : PowerUnit → PowerUnit} (h : f (s.unit u) = s.unit u) : s.onUnit u f = s := by
  unfold State.onUnit
  rw [show f (look s.units u) = look s.units u from h, place_look]

/-- Contacts that no longer show the position leave SWITCH against the unit. -/
theorem UnitsRun.moved (hs : UnitsRun s) (htravel : (s.unit u).travel = none) :
    UnitsRun (rejudge u (s.onUnit u (PowerUnit.following (s.shown u) true))) := by
  have h := hs.1.units u
  have hpaired : ∀ st, s.shown u = some st → st ∈ s.paired u := fun _ => shown_paired
  have hnot : (s.onUnit u (PowerUnit.following (s.shown u) true)).tripsEmpty u = false := by
    rw [← Bool.not_eq_true, tripsEmpty_iff, unit_onUnit_self]
    simp [Causes.isEmpty, PowerUnit.following]
  have hothers : ∀ v, v ≠ u → Obeys (s.onUnit u (PowerUnit.following (s.shown u) true)) v := fun v hv => (hs.2 v).onUnit_other hv
  rcases rejudge_outcome (s.onUnit u (PowerUnit.following (s.shown u) true)) u with
    ⟨hquiet, hrejudge⟩ | ⟨-, -, ended, hrejudge⟩ | ⟨hfeed, -⟩
  · rw [hrejudge]
    have hstate : (s.unit u).state = .inhibited := by
      have hst := hquiet.resolve_right (by rw [hnot]; decide)
      rwa [unit_onUnit_self] at hst
    obtain ⟨hgrant, hdecay, hsettle⟩ := h.rest hstate
    refine ⟨hs.1.onUnit (sound_at_rest ⟨hstate, htravel⟩ hgrant hdecay hsettle hpaired h.unused), fun v => ?_⟩
    by_cases hv : v = u
    · subst hv
      exact fun hne => absurd (by rw [unit_onUnit_self]; exact hstate) hne
    · exact hothers v hv
  · rw [hrejudge]
    refine inhibited_run ?_ hothers ended
    rw [onUnit_onUnit]
    refine hs.1.onUnit (UnitSound.inhibit (fun w hw => absurd (htravel.symm.trans hw) (by simp)) (fun st hst => ?_) h.unused)
    rcases hst with hst | hst
    · exact hpaired st hst
    · exact h.pairing st (.inr (.inl hst))
  · exact absurd hfeed.1 (by rw [hnot]; decide)

theorem UnitsRun.followContacts (hs : UnitsRun s) (u : UnitId) (htravel : (s.unit u).travel = none) : UnitsRun (followContacts u s) := by
  rw [followContacts_eq]
  cases hmoved : ((s.shown u).isNone || s.shown u != (s.unit u).position) with
  | true => exact hs.moved htravel
  | false =>
    simp only [Bool.or_eq_false_iff, bne_eq_false_iff_eq] at hmoved
    have hsame : PowerUnit.following (s.shown u) false (s.unit u) = s.unit u := by
      unfold PowerUnit.following
      rw [hmoved.2, Bool.or_false]
    rw [onUnit_still hsame]
    exact hs.shared (rejudge_shared s u)

theorem UnitsRun.takeContacts (hs : UnitsRun s) (u : UnitId) : UnitsRun (takeContacts u s) := by
  unfold Machine.takeContacts
  split
  · next w hw =>
    split
    · exact hs.endTravel hw
    · exact hs
  · next hw => exact hs.followContacts u hw

theorem UnitsRun.travelExpired (hs : UnitsRun s) (u : UnitId) : UnitsRun (travelExpired u s) := by
  have h := hs.1.units u
  unfold Machine.travelExpired
  split
  · next w hw =>
    simp only
    split
    · next hstate =>
      refine UnitsRun.shared ?_ (noticeChangeover_shared _ u _)
      obtain ⟨hgrant, hdecay, hsettle⟩ := h.rest hstate
      refine ⟨hs.1.onUnit (sound_at_rest ⟨hstate, rfl⟩ hgrant hdecay hsettle (fun st hst => absurd hst (by simp)) h.unused), fun v => ?_⟩
      by_cases hv : v = u
      · subst hv
        exact fun hne => absurd (by rw [unit_onUnit_self]; exact hstate) hne
      · exact (hs.2 v).onUnit_other hv
    · refine inhibited_run ?_ (fun v hv => (hs.2 v).onUnit_other hv) _
      rw [onUnit_onUnit]
      refine hs.1.onUnit (UnitSound.inhibit (fun w hw => rfl) (fun st hst => ?_) h.unused)
      rcases hst with hst | hst <;> exact absurd hst (by simp [-Option.map_eq_some_iff])
  · exact hs

theorem UnitsRun.settled (hs : UnitsRun s) (u : UnitId) : UnitsRun (settled u s) := by
  have h := hs.1.units u
  unfold Machine.settled
  split
  · next o hstate =>
    refine UnitsRun.shared ?_ ((noticeChangeover_shared _ u _).trans (autoEvaluate_shared _ u))
    have htravel := h.no_travel (by rw [hstate]; exact UnitState.noConfusion) (by rw [hstate]; exact fun _ => UnitState.noConfusion)
    refine hs.onUnit (h.fed htravel (by rw [h.settling o hstate]; rfl) _) (fun _ => by rw [hstate]; exact UnitState.noConfusion) id
      (fun x hx => meets_of_same hx ?_ rfl)
    exact activeAt_same htravel (by rw [hstate]; exact fun _ => UnitState.noConfusion) htravel (fun _ => UnitState.noConfusion) rfl
  · exact hs

theorem UnitsRun.dwellReached (hs : UnitsRun s) (u : UnitId) : UnitsRun (dwellReached u s) := by
  unfold Machine.dwellReached
  split
  · refine UnitsRun.shared ?_ (autoEvaluate_shared _ u)
    exact hs.noted (fun _ => ⟨rfl, rfl, rfl, rfl, rfl, rfl⟩) (fun _ h => .inl h)
  · exact hs

/-! ## The fault lines (R72) -/

theorem UnitsRun.faulted (hs : UnitsRun s) (u : UnitId) : UnitsRun (rejudge u (Machine.onCauses u (fun c => { c with unitFault := true }) s)) :=
  rejudged_run (hs.1.onCauses (fun _ => id)) (fun v hv => (hs.2 v).onUnit_other hv)

theorem UnitsRun.pumpFails (hs : UnitsRun s) : UnitsRun (pumpFails s) := by
  have hentered : UnitsSound (pumpEntered s) :=
    List.foldlRecOn (motive := UnitsSound) allUnits _ hs.1 (fun _ hx _ _ => hx.onCauses (fun _ => id))
  rw [pumpFails_eq]
  refine UnitsRun.shared ?_ (Shared.foldl (fun x st => openIfMetal_shared x causePump st) allStations _)
  generalize pumpEntered s = x at hentered
  have hfirst := hentered.shared (rejudge_shared x 0)
  have hobeys := (rejudge_obeys (u := 0) hentered).shared hfirst (rejudge_shared _ 1)
  refine ⟨hfirst.shared (rejudge_shared _ 1), fun v => ?_⟩
  match v with
  | 0 => exact hobeys
  | 1 => exact rejudge_obeys hfirst

/-! ## The allocator (R91) and the watch engine (R131) -/

theorem UnitsRun.handGrant (hs : UnitsRun s) (limit : Nat) (basis : State) (u : UnitId) : UnitsRun (handGrant limit basis s u) := by
  refine hs.noted (fun _ => ⟨rfl, rfl, rfl, rfl, rfl, rfl⟩) (fun p hne => ?_)
  by_cases hstate : p.state = .feeding
  · exact .inr hstate
  · exact absurd (if_neg hstate) hne

theorem UnitsRun.allocationPass (hs : UnitsRun s) : UnitsRun (allocationPass s) := by
  rw [allocationPass_eq]
  have hbasis : Deed .aside s (passBasis s) := (accountStage_deed s).trans (alloc_deed _ _)
  have hflushed : Deed .aside s (allUnits.foldl (flushStage (accountStage s).shopLimit (passBasis s)) (passBasis s)) :=
    hbasis.trans (Deed.foldl (fun x u => flushStage_deed x _ _ u) allUnits _)
  exact UnitsRun.foldl (fun x u hx => hx.handGrant _ _ u) allUnits (hflushed.unitsRun (.inl rfl) hs)

/-- A program whose set counts against a unit names the unit or a station paired with it. -/
theorem meets_named (h : UnitSound (s.unit u) (s.paired u)) {x : Target} (hx : (s.unit u).meets u x) :
    x = .unit u ∨ ∃ st, x = .station st ∧ st ∈ s.paired u := by
  rcases hx with hx | ⟨st, hst, hx | hx⟩
  · exact .inl hx
  · refine .inr ⟨st, hst, h.pairing st (.inl ?_)⟩
    unfold PowerUnit.activeAt at hx
    split at hx
    · cases hx
    · split at hx
      · cases hx
      · exact hx
  · exact .inr ⟨st, hst, h.pairing st (.inr (.inl hx))⟩

/-- A set has changed, and the unit it counts against is re-judged: whatever counted against that unit may have changed. -/
theorem handSetChange_run (hs : UnitsSound s) (x : Target) (wasBarred : Bool)
    (hothers : ∀ v, x ≠ .unit v → (∀ st, x = .station st → st ∉ s.paired v) → Obeys s v) : UnitsRun (handSetChange x wasBarred s) := by
  cases x with
  | unit u => exact rejudged_run hs (fun v hv => hothers v (fun k => hv (by cases k; rfl)) (fun _ k => Target.noConfusion k))
  | station st =>
    unfold handSetChange
    simp only
    refine UnitsRun.shared ?_ (barChange_shared _ st wasBarred)
    cases hunit : s.unitOf st with
    | none =>
      refine ⟨hs, fun v => hothers v (fun k => Target.noConfusion k) (fun o ho hmem => ?_)⟩
      cases ho
      have := (mem_paired_unit hmem).2
      exact absurd (hunit.symm.trans this) (by simp)
    | some u =>
      refine rejudged_run hs (fun v hv => hothers v (fun k => Target.noConfusion k) (fun o ho hmem => ?_))
      cases ho
      have := (mem_paired_unit hmem).2
      exact hv (Option.some.inj (this.symm.trans hunit))

/-- A program's run state has changed: its set is handed on if its membership has (R73, R141). -/
theorem UnitsRun.membership (hs : UnitsRun s) {k : Program} {r : RunState} {x : State} (htold : Shared (s.onRun k (fun _ => r)) x)
    (wasBarred : Bool) :
    UnitsRun (handMembership (s.program k).target (s.held k) ((s.onRun k (fun _ => r)).held k) wasBarred x) := by
  have hstored : UnitsSound (s.onRun k (fun _ => r)) := hs.1.congr rfl rfl rfl
  have hheld : ∀ j, j ≠ k → (s.onRun k (fun _ => r)).held j = s.held j := fun j hj => by
    have hother : (s.onRun k (fun _ => r)).run j = s.run j := (State.onRun_run s k j _).trans (if_neg (Ne.symm hj))
    unfold State.held
    rw [hother]
  unfold handMembership
  split
  · next hsame =>
    refine UnitsRun.shared ?_ htold
    refine hs.congr rfl rfl rfl (fun j hj => ⟨?_, rfl⟩)
    by_cases hjk : j = k
    · subst hjk; rwa [hsame]
    · rwa [hheld j hjk] at hj
  · have hx : x.paired = s.paired := by
      funext v
      have hcfg : x.cfg = s.cfg := htold.internal.rest.cfg
      simp only [State.paired, State.layoutOf, hcfg]
    refine handSetChange_run (hstored.shared htold) _ _ (fun w hne hnear => Obeys.shared ?_ hstored htold)
    intro hstate
    obtain ⟨hcauses, hnone⟩ := tripsEmpty_iff.mp (hs.2 w hstate)
    refine tripsEmpty_iff.mpr ⟨hcauses, fun j hj hcounts => ?_⟩
    by_cases hjk : j = k
    · subst hjk
      rcases meets_named (hs.1.units w) hcounts with hname | ⟨st, hname, hmem⟩
      · exact hne hname
      · exact hnear st hname (by rw [hx]; exact hmem)
    · rw [hheld j hjk] at hj
      exact hnone j hj hcounts

theorem UnitsRun.handOn (hs : UnitsRun s) (k : Program) (v : Option Int) (h : Handed) : UnitsRun (handOn k v h s) := by
  have hmembership := fun x htold => hs.membership (k := k) (r := h.run) (x := x) htold (s.targetBarred (s.program k).target)
  unfold Machine.handOn
  simp only
  have htold : Shared (s.onRun k (fun _ => h.run)) (match h.cleared with
      | some a => noticeWatch k 3 a v (s.onRun k (fun _ => h.run))
      | none => s.onRun k (fun _ => h.run)) := by
    split
    · exact notify_shared _ ..
    · exact .refl
  split
  · exact (hmembership _ htold).shared (handEntry_shared _ ..)
  · exact hmembership _ htold

/-! ## The resets (R14, R84) -/

theorem rereadUnit_rest (h : AllRest s) (u : UnitId) : AllRest (rereadUnit s u) := by
  have hold := h.2 u
  unfold rereadUnit
  simp only
  by_cases hused : s.used u = true
  · simp only [hused, if_true]
    refine h.onUnit hold rfl rfl rfl (fun st hst => shown_paired hst) (fun hnone => ?_)
    exact absurd hused (by rw [used_iff.mpr hnone]; decide)
  · simp only [hused]
    refine h.onUnit hold rfl rfl rfl (fun st hst => (h.1.units u).pairing st (.inl hst)) (h.1.units u).unused

theorem AllRest.resumed (h : AllRest { s with resetHeld := false, clockMs := 0 }) : UnitsRun (resume s) := by
  have hread := List.foldlRecOn (motive := AllRest) allUnits rereadUnit h (fun _ hx u _ => rereadUnit_rest hx u)
  exact hread.run.shared (waterUnknown_shared _)

/-- A held part's units are at rest. -/
theorem held_rest (hs : UnitsFit s) (hheld : s.resetHeld = true) : AllRest { s with resetHeld := false, clockMs := 0 } := by
  refine ⟨⟨fun u => ?_, hs.blank, rfl⟩, fun u => (hs.units u).held hheld⟩
  have h := hs.units u
  exact ⟨h.grant, h.decay, h.settle, h.switching, h.travel, h.settling, h.placed, h.pairing, fun hnone => h.unused (used_iff.mpr hnone)⟩

theorem restartUnit_sound (s : State) (u : UnitId) : UnitSound (s.restartUnit u) (s.paired u) := by
  refine sound_at_rest ⟨rfl, rfl⟩ rfl rfl rfl (fun st hst => ?_) (fun hnone => ?_)
  · have hshown : (if s.used u then s.shown u else none) = some st := hst
    split at hshown
    · exact shown_paired hshown
    · cases hshown
  · show (!s.used u) = true
    rw [used_iff.mpr hnone]
    rfl

theorem restartState_unit (s : State) (u : UnitId) : (restartState s).unit u = s.restartUnit u := by
  match u with
  | 0 => rfl
  | 1 => rfl

/-- A restart puts every unit at rest. -/
theorem restart_rest (hblank : s.cfg.layout.loaded = false → ∀ st, (s.layoutOf st).present = false) :
    AllRest { restartState s with resetHeld := false, clockMs := 0 } := by
  refine ⟨⟨fun u => ?_, hblank, rfl⟩, fun u => ?_⟩
  · show UnitSound ((restartState s).unit u) (s.paired u)
    rw [restartState_unit]
    exact restartUnit_sound s u
  · show ((restartState s).unit u).atRest
    rw [restartState_unit]
    exact ⟨rfl, rfl⟩

/-- Units at rest fit a held part too. -/
theorem AllRest.fits (h : AllRest { s with resetHeld := false, clockMs := 0 }) : UnitsFit s := by
  obtain ⟨hsound, hrest⟩ := h
  refine ⟨fun u => ?_, hsound.blank⟩
  have k : UnitSound (s.unit u) (s.paired u) := hsound.units u
  have hat : (s.unit u).atRest := hrest u
  exact ⟨fun hne => absurd hat.1 hne, k.grant, k.decay, k.settle, k.switching, k.travel, k.settling, k.placed, k.pairing,
    fun hused => k.unused (used_iff.mp hused), fun _ => hat⟩

theorem poweredOn_rest (lines : Lines) (low : Bool) (cs : List Instr) : AllRest (State.poweredOn lines low cs) := by
  have hunit : ∀ u, (State.poweredOn lines low cs).unit u = PowerUnit.afterReset
      { Causes.clear with noLayout := true, unitFault := look lines.unitFault u, pump := lines.pumpFault } none := fun u => look_overAll _ _ u
  have hpresent : ∀ st, ((State.poweredOn lines low cs).layoutOf st).present = false := fun st => by
    show (look (Vector.replicate 4 LayoutStation.absent) st).present = false
    rw [look_replicate]
    rfl
  refine ⟨⟨fun u => ?_, fun _ => hpresent, rfl⟩, fun u => ?_⟩
  · rw [hunit]
    exact sound_at_rest ⟨rfl, rfl⟩ rfl rfl rfl (fun st hst => absurd hst (by simp [PowerUnit.afterReset])) (fun _ => rfl)
  · rw [hunit]
    exact ⟨rfl, rfl⟩

/-! ## Every step -/

theorem UnitsRun.modelStep (hs : UnitsRun s) (st : Station) : UnitsRun (modelStep st s) := by
  refine UnitsRun.shared ?_ (modelStep_shared s st)
  exact hs.same rfl rfl rfl rfl rfl

theorem UnitsRun.silenced (hs : UnitsRun s) : UnitsRun (enterSilence s) := by
  refine UnitsRun.shared ?_ (recomputeMelting_shared _)
  exact hs.same rfl rfl rfl rfl rfl

theorem units_happens {c : Instr} (hc : c ≠ .resetLineActive) (h : Happens s c t) (hs : UnitsRun s) : UnitsRun t := by
  cases h with
  | powerOn => exact (poweredOn_rest s.lines s.link.lineLow s.pending).run
  | hold => exact absurd rfl hc
  | resume h => exact absurd h (by rw [hs.1.running]; decide)
  | restart => exact (restart_rest hs.1.blank).resumed
  | silence => exact hs.silenced
  | modelStep => exact hs.modelStep _
  | measuredPower u kw => exact hs.takePower u kw
  | decayTimeout u => exact hs.decayExpired u
  | contacts => exact hs.same rfl rfl rfl rfl rfl
  | switchContacts u =>
    refine UnitsRun.takeContacts ?_ u
    exact hs.same rfl rfl rfl rfl rfl
  | travelTimeout u => exact hs.travelExpired u
  | settleExpiry u => exact hs.settled u
  | dwellExpiry u => exact hs.dwellReached u
  | faultLine => exact hs.same rfl rfl rfl rfl rfl
  | unitFault u =>
    refine UnitsRun.faulted ?_ u
    exact hs.same rfl rfl rfl rfl rfl
  | pumpLine => exact hs.same rfl rfl rfl rfl rfl
  | pumpFault =>
    refine UnitsRun.pumpFails ?_
    exact hs.same rfl rfl rfl rfl rfl
  | allocationPass => exact hs.allocationPass
  | channel => exact hs.same rfl rfl rfl rfl rfl
  | flowPulse k => exact hs.same rfl rfl rfl rfl rfl
  | circuitGate k => exact (circuitGate_deed s k).unitsRun (.inl rfl) hs
  | programEvaluation => exact hs.handOn ..
  | permitExpiry => exact (expirePermit_deed s ..).unitsRun (.inr rfl) hs

theorem kept_units {c : Instr} (hc : c ≠ .resetLineActive) : Kept UnitsRun (fun _ => True) c where
  link := fun _ _ _ hs => hs.same rfl rfl rfl rfl rfl
  shared := fun _ _ h hs => hs.sharedStep h
  served := fun _ _ _ _ h hs => units_served h hs
  happens := fun _ _ h hs => units_happens hc h hs

theorem UnitsFit.same (hs : UnitsFit s) (hunits : t.units = s.units) (hlayout : t.cfg.layout = s.cfg.layout)
    (hheld : t.resetHeld = s.resetHeld) (hruns : t.runs = s.runs) (hprograms : t.cfg.programs = s.cfg.programs) : UnitsFit t := by
  cases hval : s.resetHeld with
  | false => exact (unitsRun_iff.mp ((unitsRun_iff.mpr ⟨hs, hval⟩).same hunits hlayout hheld hruns hprograms)).1
  | true =>
    refine AllRest.fits (AllRest.congr (held_rest hs hval) hunits hlayout rfl)

/-- A held part takes the levels of its lines, a power-on and the release of the reset line alone. -/
theorem UnitsFit.execHeld {c : Instr} (hs : UnitsFit s) (hheld : s.resetHeld = true) (he : exec c s = .next t) : UnitsFit t := by
  have hclosed : s.dispatchOpen = false := by simp [State.dispatchOpen, hheld]
  have hnot : s.resetHeld ≠ false := by rw [hheld]; decide
  cases exec_course he with
  | still => exact hs
  | reset hc h =>
    rcases hc with rfl | rfl
    · cases h with
      | powerOn => exact (unitsRun_iff.mp (poweredOn_rest s.lines s.link.lineLow s.pending).run).1
      | faultLine _ _ _ hc => rcases hc with h | h <;> cases h
      | pumpLine _ _ hc => rcases hc with h | h <;> cases h
      | channel _ _ _ hc => rcases hc with ⟨_, h⟩ | h <;> cases h
    · cases h with
      | hold h => exact absurd h hnot
      | faultLine _ _ _ hc => rcases hc with h | h <;> cases h
      | pumpLine _ _ hc => rcases hc with h | h <;> cases h
      | channel _ _ _ hc => rcases hc with ⟨_, h⟩ | h <;> cases h
  | recorded => exact hs.same rfl rfl rfl rfl rfl
  | event hiff h =>
    have hc := hiff.mp hheld
    subst hc
    cases h with
    | resume =>
      have hrun := (held_rest hs hheld).resumed
      exact (unitsRun_iff.mp ((kept_units (c := .powerOn) Instr.noConfusion).nextFrame hrun)).1
    | faultLine _ _ _ hc => rcases hc with h | h <;> cases h
    | pumpLine _ _ hc => rcases hc with h | h <;> cases h
    | channel _ _ _ hc => rcases hc with ⟨_, h⟩ | h <;> cases h
  | request k tag p hc h =>
    unfold serveRequest serve at h
    rw [hclosed] at h
    cases h
    exact hs
  | unknown kind tag p h =>
    unfold serve at h
    rw [hclosed] at h
    cases h
    exact hs
  | level => exact hs.same rfl rfl rfl rfl rfl
  | idle h | bytes h | gap h | broken h | mended h | sent h => exact absurd h hnot

theorem UnitsFit.exec {c : Instr} (hs : UnitsFit s) (he : exec c s = .next t) : UnitsFit t := by
  cases hheld : s.resetHeld with
  | true => exact hs.execHeld hheld he
  | false =>
    by_cases hc : c = .resetLineActive
    · subst hc
      change execResetLineActive s = .next t at he
      unfold execResetLineActive at he
      rw [hheld] at he
      cases he
      exact AllRest.fits (restart_rest hs.blank)
    · have hrun := (kept_units hc).exec (fun _ _ _ _ => trivial) (fun _ _ => trivial) he (unitsRun_iff.mpr ⟨hs, hheld⟩)
      exact (unitsRun_iff.mp hrun).1

theorem UnitSound.tick (h : UnitSound p near) : UnitSound p.tick near := by
  have htarget : p.tick.travel.map Travel.target = p.travel.map Travel.target := by
    unfold PowerUnit.tick
    cases p.travel <;> rfl
  refine ⟨h.grant, ?_, ?_, fun t k => htarget.trans (h.switching t k), fun w k => ?_, h.settling, h.placed, fun st k => ?_, h.unused⟩
  · show (runDown p.decayTimer).isSome = true ↔ _
    rw [runDown, Option.isSome_map]
    exact h.decay
  · show (runDown p.settleTimer).isSome = true ↔ _
    rw [runDown, Option.isSome_map]
    exact h.settle
  · obtain ⟨w', hw', rfl⟩ := Option.map_eq_some_iff.mp k
    exact h.travel w' hw'
  · rw [htarget] at k
    exact h.pairing st k

theorem UnitsRun.ticked (hs : UnitsRun s) (hunits : ∀ u, t.unit u = (s.unit u).tick) (hlayout : t.cfg = s.cfg)
    (hheld : t.resetHeld = s.resetHeld) (hruns : ∀ k, (t.run k).applied = (s.run k).applied) : UnitsRun t := by
  have hl : ∀ st, t.layoutOf st = s.layoutOf st := fun st => by rw [State.layoutOf, hlayout]; rfl
  have hp : ∀ u, t.paired u = s.paired u := fun u => by simp only [State.paired, hl]
  have htrips : FewerTrips s t := fun k hk => by
    refine ⟨?_, by rw [State.program, hlayout]; rfl⟩
    unfold State.held at hk ⊢
    rwa [hruns] at hk
  refine ⟨⟨fun u => ?_, fun h st => ?_, hheld.trans hs.1.running⟩, fun u => (hs.2 u).lessens htrips ?_ ?_ ?_⟩
  · rw [hunits, hp]; exact (hs.1.units u).tick
  · rw [hl]; exact hs.1.blank (by rw [← hlayout]; exact h) st
  · rw [hunits]; exact id
  · rw [hunits]; exact id
  · intro x hx
    rw [hunits] at hx
    rcases hx with hx | ⟨st, hst, hx⟩
    · exact .inl hx
    · refine .inr ⟨st, hst, ?_⟩
      have htarget : (s.unit u).tick.travel.map Travel.target = (s.unit u).travel.map Travel.target := by
        unfold PowerUnit.tick
        cases (s.unit u).travel <;> rfl
      have hactive : (s.unit u).tick.activeAt = (s.unit u).activeAt := by
        unfold PowerUnit.activeAt PowerUnit.tick
        simp only [Option.isSome_map]
      rw [htarget, hactive] at hx
      exact hx

theorem UnitsFit.tick (hs : UnitsFit s) : UnitsFit (tick s) := by
  unfold Machine.tick
  split
  · exact hs
  · next hheld =>
    have hrun := unitsRun_iff.mpr ⟨hs, by simpa using hheld⟩
    refine (unitsRun_iff.mp (UnitsRun.ticked (s := s) (t := { s with
      clockMs := s.clockMs + 1
      heats := overAll StationHeat.tick s.heats
      units := overAll PowerUnit.tick s.units
      alloc := s.alloc.tick
      channels := overAll ChannelSt.tick s.channels
      circuits := overAll CircuitSt.tick s.circuits
      runs := overAll RunState.tick s.runs
      taps := { s.taps with entries := s.taps.entries.map QueueEntry.tick }
      link := s.link.tick }) hrun (fun u => ?_) rfl rfl (fun k => ?_))).1
    · show look (overAll PowerUnit.tick s.units) u = _
      rw [look_overAll]
      rfl
    · show (look (overAll RunState.tick s.runs) k).applied = _
      rw [look_overAll]
      rfl

/-- Settles O10: shared work keeps each unit's record and what stands against it; each event is its own update, after which the unit is
re-judged. -/
theorem stepKeepsUnits : Obligations.StepKeepsUnits := by
  intro s t hs he
  unfold Machine.step at he
  split at he
  · next c rest _ =>
    refine UnitsFit.exec (s := { s with pending := rest }) ?_ he
    exact hs.same rfl rfl rfl rfl rfl
  · cases he; exact hs.tick

end

end Sys2Proof.Machine

/-!
PROOFS. The watch engine's invariant: the transition of a run state keeps its shape, and what starts, suspends, withdraws or rewrites a program
keeps OFF to the programs that are not live.
-/

namespace Sys2Proof.Machine

/-! ## The transition of a run state (R132 to R137) -/

/-- The shape of a run state that is live: its state allows what it holds. -/
def RunState.shaped (x : RunState) : Prop := x.fits ∧ x.state ≠ .off

section
variable {r : ProgramRec} {d : Dir} {x : RunState}

/-- What the shapes of the live states ask of a run state whose period timer runs. -/
theorem shaped_watch (hstate : x.state = .watch) (hdir : x.direction = none) (hlatched : x.latchedDir = none) (happlied : x.applied = none)
    (ht : x.periodTimer.isSome = true) : x.shaped := by
  refine ⟨?_, by rw [hstate]; decide⟩
  unfold RunState.fits
  rw [hstate]
  exact ⟨hdir, hlatched, happlied, ht⟩

theorem shaped_latched {o : Option Dir} (hsome : o.isSome = true) (happlied : x.applied.isSome = true) (ht : x.periodTimer.isSome = true) :
    (enterLatched o x).shaped := ⟨⟨hsome, rfl, happlied, ht⟩, ProgState.noConfusion⟩

theorem enterWatch_shaped (ht : x.periodTimer.isSome = true) : (enterWatch x).shaped := ⟨⟨rfl, rfl, rfl, ht⟩, ProgState.noConfusion⟩

theorem enterActive_shaped (ht : x.periodTimer.isSome = true) : (enterActive r d x).shaped := ⟨⟨rfl, rfl, ht⟩, ProgState.noConfusion⟩

theorem enterStale_shaped (ht : x.periodTimer.isSome = true) : (enterStale r x).shaped := ⟨⟨rfl, rfl, ht⟩, ProgState.noConfusion⟩

theorem countTo_shaped {n : Nat} {c : Option Action} (happlied : x.applied.isSome = x.latchedDir.isSome) (ht : x.periodTimer.isSome = true) :
    (countTo r d n c x).run.shaped := by
  unfold countTo
  split
  · exact enterActive_shaped ht
  · exact ⟨⟨rfl, happlied, ht⟩, ProgState.noConfusion⟩

/-- What a live run state holds beside its direction: an applied action exactly with a latched direction, outside ACTIVE and STALE. -/
theorem shaped_applied (h : x.shaped) (hactive : x.state ≠ .active) (hstale : x.state ≠ .stale) :
    x.applied.isSome = x.latchedDir.isSome := by
  obtain ⟨hfits, hoff⟩ := h
  unfold RunState.fits at hfits
  cases hstate : x.state <;> rw [hstate] at hfits <;> simp only at hfits
  case off => exact absurd hstate hoff
  case watch =>
    obtain ⟨-, hlatched, happlied, -⟩ := hfits
    rw [hlatched, happlied]
    rfl
  case count => exact hfits.2.1
  case active => exact absurd hstate hactive
  case latched =>
    obtain ⟨hdir, hlatched, happlied, -⟩ := hfits
    rw [happlied, hlatched, hdir]
  case stale => exact absurd hstate hstale

theorem shaped_timer (h : x.shaped) : x.periodTimer.isSome = true := by
  obtain ⟨hfits, hoff⟩ := h
  unfold RunState.fits at hfits
  cases hstate : x.state <;> rw [hstate] at hfits <;> simp only at hfits
  case off => exact absurd hstate hoff
  case watch => exact hfits.2.2.2
  case count => exact hfits.2.2
  case active => exact hfits.2.2
  case latched => exact hfits.2.2.2
  case stale => exact hfits.2.2

theorem judgeIdle_shaped {o : Option Dir} {c : Option Action} (h : x.shaped) (hactive : x.state ≠ .active) (hstale : x.state ≠ .stale) :
    (judgeIdle r o c x).run.shaped := by
  cases o with
  | none => exact h
  | some d => exact countTo_shaped (shaped_applied h hactive hstale) (shaped_timer h)

theorem endCount_shaped (h : x.shaped) (hstate : x.state = .count) : (endCount x).shaped := by
  have happlied := shaped_applied h (by rw [hstate]; decide) (by rw [hstate]; decide)
  unfold endCount
  split
  · next hsome => exact shaped_latched (happlied ▸ hsome) hsome (shaped_timer h)
  · exact enterWatch_shaped (shaped_timer h)

theorem judgeActive_shaped {v : Int} (h : x.shaped) (hstate : x.state = .active) : (judgeActive r d v x).run.shaped := by
  have hcounted : ∀ n, ({ x with debounce := n } : RunState).shaped := fun n => by
    obtain ⟨hfits, hoff⟩ := h
    refine ⟨?_, hoff⟩
    unfold RunState.fits at hfits ⊢
    rw [hstate] at hfits
    simp only [hstate]
    exact hfits
  unfold judgeActive
  split
  · split
    · split
      · next hlatch => exact shaped_latched rfl hlatch.2 (shaped_timer h)
      · exact enterWatch_shaped (shaped_timer h)
    · exact hcounted _
  · exact hcounted _

/-- Readings, counts and the period timer do not belong to the shape of a live state. -/
theorem shaped_counted (h : x.shaped) (stale debounce : Nat) (res : Option Finding) (hd : x.state ≠ .off) :
    ({ x with stale := stale, debounce := debounce, lastResult := res } : RunState).shaped := by
  obtain ⟨hfits, hoff⟩ := h
  refine ⟨?_, hoff⟩
  unfold RunState.fits at hfits ⊢
  cases hstate : x.state <;> rw [hstate] at hfits <;> simp only at hfits ⊢
  case off => exact absurd hstate hd
  all_goals exact hfits

theorem judgeValid_shaped {v : Int} (h : x.shaped) : (judgeValid r v x).run.shaped := by
  have hx := fun res => shaped_counted h 0 x.debounce res h.2
  unfold judgeValid
  simp only
  have hne : ∀ {p q : ProgState}, x.state = p → p ≠ q → x.state ≠ q := fun hp hpq hq => hpq (hp.symm.trans hq)
  split
  · next hstate => exact absurd hstate h.2
  · next hstate => exact judgeIdle_shaped (hx _) (hne hstate ProgState.noConfusion) (hne hstate ProgState.noConfusion)
  · next hstate => exact judgeIdle_shaped (hx _) (hne hstate ProgState.noConfusion) (hne hstate ProgState.noConfusion)
  · next hstate =>
    split
    · exact countTo_shaped (shaped_applied (hx _) (hne hstate ProgState.noConfusion) (hne hstate ProgState.noConfusion)) (shaped_timer (hx _))
    · exact endCount_shaped (hx _) hstate
  · next hstate => exact judgeActive_shaped (hx _) hstate
  · split
    · next hlatch => exact judgeIdle_shaped (shaped_latched rfl hlatch.2 (shaped_timer (hx _))) ProgState.noConfusion ProgState.noConfusion
    · exact judgeIdle_shaped (enterWatch_shaped (shaped_timer (hx _))) ProgState.noConfusion ProgState.noConfusion

theorem judgeInvalid_shaped (h : x.shaped) : (judgeInvalid r x).run.shaped := by
  have hx := fun k => shaped_counted h (min r.staleLimit (x.stale + 1)) k (some .invalid) h.2
  have hy : (match ({ x with stale := min r.staleLimit (x.stale + 1), lastResult := some .invalid } : RunState).state with
      | .count => endCount { x with stale := min r.staleLimit (x.stale + 1), lastResult := some .invalid }
      | _ => { x with stale := min r.staleLimit (x.stale + 1), lastResult := some .invalid, debounce := 0 } : RunState).shaped := by
    split
    · next hstate => exact endCount_shaped (hx x.debounce) hstate
    · exact hx 0
  unfold judgeInvalid
  simp only
  split
  · exact enterStale_shaped (shaped_timer hy)
  · exact hy

/-- An evaluation of a live run state leaves a live one of a shape its state allows. -/
theorem evaluate_shaped (v : Option Int) (h : x.shaped) : (evaluate r v x).run.shaped := by
  have hx : ({ x with periodTimer := some r.period } : RunState).shaped := by
    obtain ⟨hfits, hoff⟩ := h
    refine ⟨?_, hoff⟩
    unfold RunState.fits at hfits ⊢
    cases hstate : x.state <;> rw [hstate] at hfits <;> simp only at hfits ⊢
    case off => exact absurd hstate hoff
    case watch => exact ⟨hfits.1, hfits.2.1, hfits.2.2.1, rfl⟩
    case count => exact ⟨hfits.1, hfits.2.1, rfl⟩
    case active => exact ⟨hfits.1, hfits.2.1, rfl⟩
    case latched => exact ⟨hfits.1, hfits.2.1, hfits.2.2.1, rfl⟩
    case stale => exact ⟨hfits.1, hfits.2.1, rfl⟩
  cases v with
  | none => exact judgeInvalid_shaped hx
  | some v => exact judgeValid_shaped hx

end

/-! ## The invariant by enables -/

/-- A program is live, by the enables of its target (7.2). -/
def State.liveBy (s : State) (k : Program) : Bool :=
  (s.program k).enabled && (match (s.program k).target with
    | .unit u => s.used u
    | .station st => look s.enabled st)

/-- The watch engine's invariant, by the enables of the targets. -/
def ProgramsOk (s : State) : Prop := ∀ k, (s.run k).fits ∧ ((s.run k).state = .off ↔ s.liveBy k = false)

section
variable {s t : State} {k : Program} {d : Int}

theorem live_eq (hs : ∀ st, s.phase st = .off ↔ look s.enabled st = false) (k : Program) : s.live k = s.liveBy k := by
  unfold State.live State.liveBy State.suspended
  cases (s.program k).target with
  | unit u => simp only [Bool.not_not]
  | station st =>
    have hoff : (s.phase st == .off) = !look s.enabled st := by
      rw [Bool.eq_iff_iff, beq_iff_eq, Bool.not_eq_true']
      exact hs st
    simp only [hoff, Bool.not_not]

theorem ShopOff.live_eq (hs : ShopOff d s) (k : Program) : s.live k = s.liveBy k := Machine.live_eq (fun st => (hs.stations st).off) k

theorem programsOk_iff (hs : ShopOff d s) : ProgramsOk s ↔ ProgramsFit s := by
  unfold ProgramsOk ProgramsFit
  simp only [hs.live_eq]

theorem liveBy_congr (henabled : t.enabled = s.enabled) (hlayout : t.cfg.layout = s.cfg.layout)
    (hprograms : t.cfg.programs = s.cfg.programs) (k : Program) : t.liveBy k = s.liveBy k := by
  simp only [State.liveBy, State.program, State.used, State.paired, State.layoutOf, henabled, hlayout, hprograms]

theorem ProgramsOk.congr (hs : ProgramsOk s) (henabled : t.enabled = s.enabled) (hlayout : t.cfg.layout = s.cfg.layout)
    (hprograms : t.cfg.programs = s.cfg.programs) (hruns : t.runs = s.runs) : ProgramsOk t := fun k => by
  rw [liveBy_congr henabled hlayout hprograms, State.run, hruns]
  exact hs k

theorem ProgramsOk.sharedStep (hs : ProgramsOk s) (h : SharedStep s t) : ProgramsOk t := by
  have hrest := h.internal.rest
  exact hs.congr hrest.enabled (congrArg Settings.layout hrest.cfg) (congrArg Settings.programs hrest.cfg) hrest.runs

theorem ProgramsOk.shared (hs : ProgramsOk s) (h : Shared s t) : ProgramsOk t := h.keeps (fun _ _ k hx => hx.sharedStep k) hs

theorem Update.programsOk {sc : Scope} (hsc : sc ≠ .engine ∧ sc ≠ .all) (h : Update sc s t) (hs : ProgramsOk s) : ProgramsOk t := by
  cases h with
  | runs _ h => exact absurd h (by simp [hsc])
  | enabled _ h => exact absurd h hsc.2
  | _ => exact hs.congr rfl rfl rfl rfl

/-- What is done outside the watch engine and the enables keeps the programs. -/
theorem Deed.programsOk {sc : Scope} (h : Deed sc s t) (hsc : sc ≠ .engine ∧ sc ≠ .all) (hs : ProgramsOk s) : ProgramsOk t :=
  h.keeps (fun _ _ k hx => k.programsOk hsc hx) (fun _ _ k hx => hx.sharedStep k) hs

/-! ## Runs that start (R130) -/

theorem fresh_shaped (n : Nat) : (RunState.fresh n).shaped := ⟨⟨rfl, rfl, rfl, rfl⟩, ProgState.noConfusion⟩

theorem off_fits : RunState.off.fits := ⟨rfl, rfl, rfl, rfl, rfl, rfl, rfl, rfl⟩

/-- A bank in which the chosen places of a list have been written. -/
theorem look_foldl_place {α : Type} {n : Nat} (c : Fin n → Bool) (f : Fin n → α) (is : List (Fin n)) (b : Bank α n) (i : Fin n) :
    look (is.foldl (fun b j => if c j then place b j (f j) else b) b) i = if i ∈ is ∧ c i = true then f i else look b i := by
  induction is generalizing b with
  | nil => simp
  | cons j is ih =>
    rw [List.foldl_cons, ih]
    by_cases hmem : i ∈ is ∧ c i = true
    · rw [if_pos hmem, if_pos ⟨List.mem_cons_of_mem _ hmem.1, hmem.2⟩]
    · rw [if_neg hmem]
      by_cases hij : j = i
      · subst hij
        cases hc : c j with
        | true => rw [if_pos rfl, look_place, if_pos rfl, if_pos ⟨List.mem_cons_self, rfl⟩]
        | false => rw [if_neg (by simp), if_neg (by simp)]
      · have hnot : ¬ (i ∈ j :: is ∧ c i = true) := fun ⟨h, hc⟩ =>
          (List.mem_cons.mp h).elim (fun k => hij k.symm) (fun k => hmem ⟨k, hc⟩)
        rw [if_neg hnot]
        split
        · rw [look_place, if_neg hij]
        · rfl

theorem startPrograms_run (which : Target → Bool) (s : State) (k : Program) : (startPrograms which s).run k =
    if which (s.program k).target = true ∧ s.live k = true then RunState.fresh (s.program k).period else s.run k := by
  have h : (startPrograms which s).run k = if k ∈ allPrograms ∧ (which (s.program k).target && s.live k) = true
      then RunState.fresh (s.program k).period else s.run k :=
    look_foldl_place (fun j => which (s.program j).target && s.live j) (fun j => RunState.fresh (s.program j).period) allPrograms s.runs k
  rw [h]
  simp only [mem_allPrograms, true_and, Bool.and_eq_true]

/-- Programs started on a state whose other programs are as they should be. -/
theorem ProgramsOk.started (hs : ShopOff d s) (which : Target → Bool)
    (h : ∀ k, (s.run k).fits ∧ ((s.run k).state = .off ↔ ¬ (s.liveBy k = true ∧ which (s.program k).target = false))) :
    ProgramsOk (startPrograms which s) := by
  intro k
  have hlive : (startPrograms which s).liveBy k = s.liveBy k := liveBy_congr rfl rfl rfl k
  obtain ⟨hfits, hoff⟩ := h k
  rw [hlive, startPrograms_run, hs.live_eq]
  split
  · next hstart =>
    obtain ⟨hshape, hne⟩ := fresh_shaped (s.program k).period
    exact ⟨hshape, ⟨fun hk => absurd hk hne, fun hk => absurd (hstart.2.symm.trans hk) (by decide)⟩⟩
  · next hstart =>
    refine ⟨hfits, hoff.trans ?_⟩
    cases hw : which (s.program k).target <;> cases hl : s.liveBy k <;> simp_all

end

end Sys2Proof.Machine

/-!
PROOFS. The requests, the events and the resets keep each watch program OFF exactly while it is not live.
-/

namespace Sys2Proof.Machine

section
variable {s t x : State} {k : Program} {d : Int} {st : Station} {u : UnitId}

/-! ## Layouts and enables (R3, R8, R9) -/

theorem liveBy_unit (h : (s.program k).target = .unit u) : s.liveBy k = ((s.program k).enabled && s.used u) := by
  unfold State.liveBy
  rw [h]

theorem liveBy_station (h : (s.program k).target = .station st) : s.liveBy k = ((s.program k).enabled && look s.enabled st) := by
  unfold State.liveBy
  rw [h]

/-- A program whose target is another station, or a unit, is as live as before. -/
theorem liveBy_other (hlayout : x.cfg = s.cfg) (henabled : ∀ o, o ≠ st → look x.enabled o = look s.enabled o)
    (h : (s.program k).target ≠ .station st) : x.liveBy k = s.liveBy k := by
  have hp : x.program k = s.program k := by rw [State.program, hlayout]; rfl
  unfold State.liveBy
  rw [hp]
  cases htarget : (s.program k).target with
  | unit u => simp only [State.used, State.paired, State.layoutOf, hlayout]
  | station o => simp only [henabled o (fun ho => h (by rw [htarget, ho]))]

theorem look_enabled_other {v : Bool} : ∀ o, o ≠ st → look (place s.enabled st v) o = look s.enabled o := fun o ho => by
  rw [look_place, if_neg (Ne.symm ho)]

theorem unused_blank (hs : ShopOff d s) (hblank : s.cfg.layout.loaded = false) : s.liveBy k = false := by
  unfold State.liveBy
  rw [Bool.and_eq_false_iff]
  right
  split
  · next u _ =>
    rw [used_iff, State.paired, List.filter_eq_nil_iff]
    intro o _
    simp [hs.blank hblank o]
  · next o _ => exact unenabled hs (hs.blank hblank o)

theorem ProgramsOk.takeLayout (hp : ProgramsOk s) (hs : ShopOff d s) (hblank : s.cfg.layout.loaded = false) {l : Layout}
    (hl : l.loaded = true) : ProgramsOk (takeLayout l s) := by
  have hoff : ∀ k, (s.run k).fits ∧ (s.run k).state = .off := fun k => ⟨(hp k).1, (hp k).2.mpr (unused_blank hs hblank)⟩
  have hadopted := hs.adopted hblank hl
  have hruns : (allStations.foldl adoptStation (s.laidOut l)).runs = s.runs := by
    refine List.foldlRecOn (motive := fun x => x.runs = s.runs) allStations adoptStation
      (show (s.laidOut l).runs = s.runs from rfl) (fun x hx st _ => ?_)
    unfold adoptStation
    split <;> exact hx
  have hunits : ∀ x : State, Deed .units x (allUnits.foldl adoptUnit x) := Deed.foldl (fun x u => Deed.ite (unit_deed x u _) .refl) allUnits
  rw [takeLayout_eq]
  refine ProgramsOk.shared ?_ (reexamine_shared _)
  unfold adoptLayout
  generalize allStations.foldl adoptStation (s.laidOut l) = y at hadopted hruns
  have hz := ((hunits y).trans (markEvaluated_deed _)).shopOff (by decide) hadopted
  have hzruns : (markEvaluated (allUnits.foldl adoptUnit y)).runs = s.runs := by
    refine List.foldlRecOn (motive := fun x : State => x.runs = s.runs) allCircuits _ ?_ (fun x hx c _ => hx)
    refine List.foldlRecOn (motive := fun x : State => x.runs = s.runs) allUnits _ hruns (fun x hx u _ => ?_)
    unfold adoptUnit
    split <;> exact hx
  generalize markEvaluated (allUnits.foldl adoptUnit y) = z at hz hzruns
  refine ProgramsOk.started hz _ (fun k => ?_)
  have hrun : z.run k = s.run k := by rw [State.run, hzruns]; rfl
  rw [hrun]
  exact ⟨(hoff k).1, ⟨fun _ => by simp, fun _ => (hoff k).2⟩⟩

theorem ProgramsOk.enableStation (hp : ProgramsOk s) (hs : ShopOff d s) (hpresent : (s.layoutOf st).present = true)
    (hoff : look s.enabled st = false) : ProgramsOk (enableStation st s) := by
  have hopened := hs.opened hpresent (.inl ((hs.stations st).off.mpr hoff))
  have hmarked := (markStation_deed _ st true).shopOff (sc := .aside) (by decide) hopened
  refine ProgramsOk.shared (ProgramsOk.started hmarked _ (fun k => ?_)) (reexamine_shared _)
  obtain ⟨hfits, hstate⟩ := hp k
  refine ⟨hfits, hstate.trans ?_⟩
  by_cases htarget : (s.program k).target = .station st
  · have hnot : s.liveBy k = false := by rw [liveBy_station htarget, hoff, Bool.and_false]
    refine ⟨fun _ hlive => ?_, fun _ => hnot⟩
    have hother : ((s.program k).target == Target.station st) = false := hlive.2
    rw [htarget, beq_self_eq_true] at hother
    exact absurd hother (by decide)
  · have hlive := liveBy_other (s := s) (x := { s.onHeat st (fun _ => StationHeat.clear .empty) with enabled := place s.enabled st true })
      rfl look_enabled_other htarget
    have hother : ((s.program k).target == Target.station st) = false := by simpa using htarget
    have hsame : (markStation st true { s.onHeat st (fun _ => StationHeat.clear .empty) with enabled := place s.enabled st true }).liveBy k =
        s.liveBy k := hlive
    rw [hsame]
    show s.liveBy k = false ↔ ¬ (s.liveBy k = true ∧ ((s.program k).target == Target.station st) = false)
    rw [hother]
    simp

theorem withdrawInto_rest (k : Program) (r : RunState) (s : State) : (withdrawInto k r s).cfg = s.cfg ∧ (withdrawInto k r s).enabled = s.enabled ∧
    ∀ j, (withdrawInto k r s).run j = if k = j then r else s.run j := by
  unfold withdrawInto
  have hrest := (handMembership_shared (s.onRun k (fun _ => r)) (s.program k).target (s.held k) .nothing
    (s.targetBarred (s.program k).target)).internal.rest
  refine ⟨hrest.cfg, hrest.enabled, fun j => ?_⟩
  rw [State.run, hrest.runs]
  exact State.onRun_run s k j _

theorem suspendPrograms_rest (st : Station) (ks : List Program) (s : State) :
    (ks.foldl (fun s p => if (s.program p).target = .station st then withdrawInto p (suspendRun (s.run p)) s else s) s).cfg = s.cfg ∧
    (ks.foldl (fun s p => if (s.program p).target = .station st then withdrawInto p (suspendRun (s.run p)) s else s) s).enabled = s.enabled ∧
    ∀ j, (ks.foldl (fun s p => if (s.program p).target = .station st then withdrawInto p (suspendRun (s.run p)) s else s) s).run j =
      if j ∈ ks ∧ (s.program j).target = .station st then suspendRun (s.run j) else s.run j := by
  induction ks generalizing s with
  | nil => exact ⟨rfl, rfl, fun j => by simp⟩
  | cons k ks ih =>
    rw [List.foldl_cons]
    by_cases htarget : (s.program k).target = .station st
    · rw [if_pos htarget]
      obtain ⟨hcfg, henabled, hrun⟩ := withdrawInto_rest k (suspendRun (s.run k)) s
      obtain ⟨hcfg', henabled', hrun'⟩ := ih (withdrawInto k (suspendRun (s.run k)) s)
      refine ⟨hcfg'.trans hcfg, henabled'.trans henabled, fun j => ?_⟩
      have hprogram : (withdrawInto k (suspendRun (s.run k)) s).program j = s.program j := by rw [State.program, hcfg]; rfl
      rw [hrun', hrun, hprogram]
      by_cases hkj : k = j
      · subst hkj
        rw [if_pos rfl, if_pos (⟨List.mem_cons_self, htarget⟩ : k ∈ k :: ks ∧ (s.program k).target = .station st)]
        split <;> rfl
      · rw [if_neg hkj]
        simp only [List.mem_cons, Ne.symm hkj, false_or]
    · rw [if_neg htarget]
      obtain ⟨hcfg, henabled, hrun⟩ := ih s
      refine ⟨hcfg, henabled, fun j => ?_⟩
      rw [hrun]
      by_cases hkj : j = k
      · subst hkj
        simp [htarget]
      · simp only [List.mem_cons, hkj, false_or]

theorem suspended_fits (r : RunState) : (suspendRun r).fits := ⟨rfl, rfl, rfl, rfl, rfl, rfl, rfl, rfl⟩

theorem ProgramsOk.disableStation (hp : ProgramsOk s) (st : Station) : ProgramsOk (disableStation st s) := by
  refine ProgramsOk.shared ?_ (Shared.reexamined (tellOff_shared _ st))
  refine (markStation_deed _ st false).programsOk (sc := .aside) (by decide) ?_
  have hrest := (recompute_shared ({ s.onHeat st (StationHeat.cleared .off) with enabled := place s.enabled st false } : State) st).internal.rest
  generalize recompute st ({ s.onHeat st (StationHeat.cleared .off) with enabled := place s.enabled st false } : State) = y at hrest
  have hcfg : y.cfg = s.cfg := hrest.cfg
  have henabled : y.enabled = place s.enabled st false := hrest.enabled
  obtain ⟨hcfg', henabled', hrun⟩ := suspendPrograms_rest st allPrograms y
  intro k
  have hprogram : y.program k = s.program k := by rw [State.program, hcfg]; rfl
  have hyrun : y.run k = s.run k := by rw [State.run, hrest.runs]; rfl
  have hlive : (suspendPrograms st y).liveBy k = y.liveBy k :=
    liveBy_congr henabled' (congrArg Settings.layout hcfg') (congrArg Settings.programs hcfg') k
  have hrunk : (suspendPrograms st y).run k = _ := hrun k
  rw [hlive, hrunk, hprogram, hyrun]
  by_cases htarget : (s.program k).target = .station st
  · rw [if_pos ⟨mem_allPrograms k, htarget⟩]
    refine ⟨suspended_fits _, ⟨fun _ => ?_, fun _ => rfl⟩⟩
    rw [liveBy_station (hprogram.symm ▸ htarget), henabled, look_place, if_pos rfl, Bool.and_false]
  · rw [if_neg (fun h => htarget h.2), liveBy_other hcfg (fun o ho => by rw [henabled]; exact look_enabled_other o ho) htarget]
    exact hp k

/-! ## Runs (R89, R144, R146) -/

/-- A live program takes another live run state. -/
theorem ProgramsOk.withdrawn (hp : ProgramsOk s) {r : RunState} (hr : r.shaped) (hlive : (s.run k).state ≠ .off) :
    ProgramsOk (withdrawInto k r s) := by
  obtain ⟨hcfg, henabled, hrun⟩ := withdrawInto_rest k r s
  intro j
  rw [liveBy_congr henabled (congrArg Settings.layout hcfg) (congrArg Settings.programs hcfg), hrun]
  split
  · next hkj =>
    subst hkj
    exact ⟨hr.1, ⟨fun h => absurd h hr.2, fun h => absurd ((hp k).2.mpr h) hlive⟩⟩
  · exact hp j

theorem releaseRun_shaped {r : RunState} (h : r.shaped) : (releaseRun r).shaped := by
  have ht := shaped_timer h
  exact ⟨⟨rfl, rfl, rfl, ht⟩, ProgState.noConfusion⟩

theorem ProgramsOk.released (hp : ProgramsOk s) (u : UnitId) : ProgramsOk (releasePrograms u s) := by
  refine List.foldlRecOn (motive := ProgramsOk) allPrograms _ hp (fun x hx k _ => ?_)
  split
  · next hreleasable =>
    have hstate : (x.run k).state = .latched := by
      unfold State.releasable at hreleasable
      simp only [Bool.and_eq_true, decide_eq_true_eq] at hreleasable
      exact hreleasable.1.1
    have hlive : (x.run k).state ≠ .off := by rw [hstate]; exact ProgState.noConfusion
    exact hx.withdrawn (releaseRun_shaped ⟨(hx k).1, hlive⟩) hlive
  · exact hx

theorem rewriteRuns_run (ks : List Program) (x : State) (k : Program) :
    (ks.foldl rewriteRun x).run k = if k ∈ ks then x.startRun k else x.run k := by
  induction ks generalizing x with
  | nil => rfl
  | cons j ks ih =>
    rw [List.foldl_cons, ih]
    have hrun : (rewriteRun x j).run k = if j = k then x.startRun j else x.run k := State.onRun_run x j k _
    by_cases hjk : j = k
    · subst hjk
      rw [hrun, if_pos rfl, if_pos List.mem_cons_self]
      split <;> rfl
    · rw [hrun, if_neg hjk]
      simp only [List.mem_cons, Ne.symm hjk, false_or]
      rfl

/-- A run state that starts: WATCH for a live program, OFF for another (R130). -/
theorem startRun_ok (hs : ShopOff d s) (k : Program) : (s.startRun k).fits ∧ ((s.startRun k).state = .off ↔ s.liveBy k = false) := by
  unfold State.startRun
  rw [hs.live_eq]
  cases s.liveBy k
  · exact ⟨off_fits, ⟨fun _ => rfl, fun _ => rfl⟩⟩
  · exact ⟨(fresh_shaped _).1, ⟨fun h => absurd h (fresh_shaped _).2, fun h => absurd h (by decide)⟩⟩

theorem ProgramsOk.writeProgram (hp : ProgramsOk s) (hs : ShopOff d s) {first count : Nat} {b : List Byte} {xs : List ProgramRec}
    (hxs : recordsOf programRecOf 19 count b = some xs) :
    ProgramsOk ((coveredPrograms first count).foldl rewriteRun
      (s.onCfg (fun c => { c with programs := storeFrom c.programs first (xs.map ProgramRec.clamped) }))) := by
  have hwritten : ShopOff d (s.onCfg (fun c => { c with programs := storeFrom c.programs first (xs.map ProgramRec.clamped) })) :=
    hs.congr rfl rfl rfl rfl rfl rfl rfl rfl rfl
  have hrest := (rewriteRuns_deed (s.onCfg (fun c => { c with programs := storeFrom c.programs first (xs.map ProgramRec.clamped) }))
    (coveredPrograms first count)).standing
  have henabled : ∀ (ks : List Program) (y : State), (ks.foldl rewriteRun y).enabled = y.enabled := fun ks y =>
    List.foldlRecOn (motive := fun z => z.enabled = y.enabled) ks rewriteRun rfl (fun _ hz j _ => (State.onRun_enabled _ j _).trans hz)
  intro k
  rw [rewriteRuns_run, liveBy_congr (henabled _ _) (congrArg Settings.layout hrest.cfg) (congrArg Settings.programs hrest.cfg)]
  split
  · exact startRun_ok hwritten k
  · next hmem =>
    have hlen : (xs.map ProgramRec.clamped).length = count := by rw [List.length_map, (recordsOf_get hxs).1]
    have houtside : ¬ (first ≤ k.val ∧ k.val < first + (xs.map ProgramRec.clamped).length) := by
      rw [hlen]
      intro hin
      refine hmem ?_
      simp only [coveredPrograms, List.mem_filter, Bool.and_eq_true, decide_eq_true_eq]
      exact ⟨mem_allPrograms k, hin⟩
    have hprogram : (s.onCfg (fun c => { c with programs := storeFrom c.programs first (xs.map ProgramRec.clamped) })).program k =
        s.program k := look_storeFrom_outside houtside
    have hlive : (s.onCfg (fun c => { c with programs := storeFrom c.programs first (xs.map ProgramRec.clamped) })).liveBy k =
        s.liveBy k := by
      unfold State.liveBy
      rw [hprogram]
      rfl
    rw [hlive]
    exact hp k

/-! ## The resets (R130) -/

/-- The runs of a restart: each program starts, on the phases the restart leaves. -/
theorem restarted_run (x : State) (k : Program) : ({ x with runs := x.restartRuns } : State).run k =
    ({ x with runs := x.restartRuns } : State).startRun k := by
  have h := look_foldl_place (fun _ => true) x.startRun allPrograms x.runs k
  rw [if_pos ⟨mem_allPrograms k, rfl⟩] at h
  exact h

theorem restartState_run (s : State) (k : Program) : (restartState s).run k = (restartState s).startRun k := restarted_run _ k

theorem ProgramsOk.restart (hs : ShopOff d s) : ProgramsOk (restartState s) := fun k => by
  rw [restartState_run]
  exact startRun_ok hs.restart k

theorem ProgramsOk.poweredOn (lines : Lines) (low : Bool) (cs : List Instr) : ProgramsOk (State.poweredOn lines low cs) := fun k => by
  have hrun : (State.poweredOn lines low cs).run k = RunState.off := look_replicate _ k
  have hlive : (State.poweredOn lines low cs).liveBy k = false := by
    have hprogram : (State.poweredOn lines low cs).program k = ProgramRec.default := look_replicate _ k
    unfold State.liveBy
    rw [hprogram]
    rfl
  rw [hrun, hlive]
  exact ⟨off_fits, ⟨fun _ => rfl, fun _ => rfl⟩⟩

theorem ProgramsOk.resumed (hp : ProgramsOk s) : ProgramsOk (resume s) :=
  (resume_deed s).programsOk (by decide) (hp.congr rfl rfl rfl rfl)

/-! ## Every command -/

/-- What follows a new run state: its notices, its membership and its entry. -/
theorem handOn_shared (s : State) (k : Program) (v : Option Int) (h : Handed) : Shared (s.onRun k (fun _ => h.run)) (handOn k v h s) := by
  unfold Machine.handOn
  simp only
  have htold : Shared (s.onRun k (fun _ => h.run)) (match h.cleared with
      | some a => noticeWatch k 3 a v (s.onRun k (fun _ => h.run))
      | none => s.onRun k (fun _ => h.run)) := by
    split
    · exact notify_shared _ ..
    · exact .refl
  split
  · exact (htold.trans (handMembership_shared _ ..)).trans (handEntry_shared _ ..)
  · exact htold.trans (handMembership_shared _ ..)

theorem ProgramsOk.handOn (hp : ProgramsOk s) {h : Handed} (hr : h.run.shaped) (hlive : (s.run k).state ≠ .off) (v : Option Int) :
    ProgramsOk (handOn k v h s) := by
  refine ProgramsOk.shared (s := s.onRun k (fun _ => h.run)) (fun j => ?_) (handOn_shared s k v h)
  have hrun : (s.onRun k (fun _ => h.run)).run j = if k = j then h.run else s.run j := State.onRun_run s k j _
  rw [hrun, liveBy_congr (t := s.onRun k (fun _ => h.run)) (s := s) rfl rfl rfl]
  split
  · next hkj =>
    subst hkj
    exact ⟨hr.1, ⟨fun hoff => absurd hoff hr.2, fun hnot => absurd ((hp k).2.mpr hnot) hlive⟩⟩
  · exact hp j

theorem programs_served {r : RequestKind} (h : Served s r t) (hs : ShopOff d s) (hp : ProgramsOk s) : ProgramsOk t := by
  have hdeed : ¬ writes r → scopeOf r ≠ .engine ∧ scopeOf r ≠ .all → ProgramsOk t := fun hk hsc => (served_deed h hk).programsOk hsc hp
  cases h with
  | shopStatus | restart | writeCircuit | writeGrade | reline => exact hp.congr rfl rfl rfl rfl
  | layout hblank => exact hp.takeLayout hs hblank rfl
  | writeShop r =>
    obtain ⟨-, hruns, -⟩ := shopStored_units s r.clamped
    obtain ⟨henabled, -⟩ := shopStored_rest s r.clamped
    have hcfg := shopStored_cfg s r.clamped
    refine ProgramsOk.shared ?_ (takeShop_shared s _)
    exact hp.congr henabled (by rw [hcfg]) (by rw [hcfg]) hruns
  | writeStation =>
    refine ProgramsOk.shared ?_ (reexamine_shared _)
    exact hp.congr rfl rfl rfl rfl
  | writeUnit =>
    refine ProgramsOk.shared ?_ (evaluateAll_shared _ _)
    exact hp.congr rfl rfl rfl rfl
  | writeProgram _ hxs => exact hp.writeProgram hs hxs
  | writeLining =>
    refine ProgramsOk.shared ?_ (liningEdges_shared _ s _)
    exact hp.congr rfl rfl rfl rfl
  | stationEnable _ hpresent hoff => exact hp.enableStation hs hpresent hoff
  | stationDisable => exact hp.disableStation _
  | unitMode u m =>
    refine ProgramsOk.shared ?_ (setMode_shared s u m)
    exact hp.congr rfl rfl rfl rfl
  | tripReset u =>
    refine ProgramsOk.shared (ProgramsOk.released ?_ u) (rejudge_shared _ u)
    exact hp.congr rfl rfl rfl rfl
  | watchStatus =>
    intro k
    have hrun : ∀ y : State, y.runs = overAll (fun r => { r with positive := false, negative := false }) s.runs →
        y.run k = { s.run k with positive := false, negative := false } := fun y hy => by
      rw [State.run, hy, look_overAll]
      rfl
    rw [hrun _ rfl]
    exact hp k
  | _ => exact hdeed (by simp [writes]) ⟨Scope.noConfusion, Scope.noConfusion⟩

theorem programs_happens {c : Instr} (h : Happens s c t) (hs : ShopOff 0 s) (hp : ProgramsOk s) : ProgramsOk t := by
  have hdeed : stands c → eventScope c ≠ .engine → ProgramsOk t := fun hc hscope => by
    refine (happens_deed h hc).programsOk ⟨hscope, ?_⟩ hp
    cases c <;> exact Scope.noConfusion
  cases h with
  | powerOn => exact .poweredOn s.lines s.link.lineLow s.pending
  | hold => exact (ProgramsOk.restart hs).congr rfl rfl rfl rfl
  | resume => exact hp.resumed
  | restart => exact (ProgramsOk.restart hs).resumed
  | silence =>
    refine ProgramsOk.shared ?_ (recomputeMelting_shared _)
    exact hp.congr rfl rfl rfl rfl
  | modelStep =>
    refine ProgramsOk.shared ?_ (modelStep_shared s _)
    exact hp.congr rfl rfl rfl rfl
  | programEvaluation hlive =>
    have hstate : (s.run _).state ≠ .off := fun hoff => by
      have hnot := (hp _).2.mp hoff
      rw [← hs.live_eq, hlive] at hnot
      exact absurd hnot (by decide)
    exact hp.handOn (evaluate_shaped _ ⟨(hp _).1, hstate⟩) hstate _
  | faultLine | pumpLine | channel => exact hp.congr rfl rfl rfl rfl
  | _ => exact hdeed trivial Scope.noConfusion

theorem kept_programs (c : Instr) : Kept (fun s => ShopOff 0 s ∧ ProgramsOk s) (fun _ => True) c where
  link := fun _ _ _ ⟨hs, hp⟩ => ⟨hs.congr rfl rfl rfl rfl rfl rfl rfl rfl rfl, hp.congr rfl rfl rfl rfl⟩
  shared := fun _ _ h ⟨hs, hp⟩ => ⟨hs.sharedStep h, hp.sharedStep h⟩
  served := fun _ _ _ _ h ⟨hs, hp⟩ => ⟨shop_served h hs, programs_served h hs hp⟩
  happens := fun _ _ h ⟨hs, hp⟩ => ⟨shop_happens h hs, programs_happens h hs hp⟩

theorem ProgramsOk.tick (hp : ProgramsOk s) : ProgramsOk (tick s) := by
  unfold Machine.tick
  split
  · exact hp
  · intro k
    have hrun : ∀ y : State, y.runs = overAll RunState.tick s.runs → y.run k = (s.run k).tick := fun y hy => by
      rw [State.run, hy, look_overAll]
      rfl
    rw [hrun _ rfl]
    obtain ⟨hfits, hoff⟩ := hp k
    refine ⟨?_, hoff⟩
    have hdown : ∀ o : Option Nat, (runDown o).isSome = o.isSome := fun o => by rw [runDown, Option.isSome_map]
    unfold RunState.fits at hfits ⊢
    unfold RunState.tick
    cases hstate : (s.run k).state <;> rw [hstate] at hfits <;> simp only [hdown] at hfits ⊢
    case off =>
      obtain ⟨h1, h2, h3, h4, h5, h6, h7, ht⟩ := hfits
      exact ⟨h1, h2, h3, h4, h5, h6, h7, by rw [ht]; rfl⟩
    all_goals exact hfits

/-- Settles O13: beside the shop floor, every command and a millisecond keep each program's run state to its shape and to its target's enable. -/
theorem stepKeepsPrograms : Obligations.StepKeepsPrograms := by
  intro s t hs hp he
  have hs := shopOff_zero.mpr hs
  have hpending : ∀ (x : State) (cs : List Instr), ShopOff 0 x ∧ ProgramsOk x → ShopOff 0 { x with pending := cs } ∧
      ProgramsOk { x with pending := cs } :=
    fun _ _ ⟨hx, hxp⟩ => ⟨hx.congr rfl rfl rfl rfl rfl rfl rfl rfl rfl, hxp.congr rfl rfl rfl rfl⟩
  obtain ⟨ht, htp⟩ := step_keeps kept_programs (fun _ ⟨hx, hxp⟩ => ⟨hx.tick, hxp.tick⟩) hpending he ⟨hs, (programsOk_iff hs).mpr hp⟩
  exact (programsOk_iff ht).mp htp

end

end Sys2Proof.Machine

/-!
PROOFS. The step and the commands as a whole: the front of the queue, the idle millisecond, what is not taken, power-on and the two restarts.
-/

namespace Sys2Proof.Machine

section
variable {s t : State}

/-! ## The step -/

/-- Settles O1: the step's own first case. -/
theorem stepRunsFrontCommand : Obligations.StepRunsFrontCommand := by
  intro c rest s hpending
  unfold Machine.step
  rw [hpending]

/-- Settles O2: the millisecond's own fields, and each bank's image under its tick. -/
theorem idleStepIsOneMillisecond : Obligations.IdleStepIsOneMillisecond := by
  intro s hpending
  have hstep : step s = .next (tick s) := by
    unfold Machine.step
    rw [hpending]
  refine ⟨fun hheld => ?_, fun hheld => ⟨tick s, hstep, ?_⟩⟩
  · rw [hstep]
    unfold tick
    rw [if_pos hheld]
  · have htick : tick s = { s with
        clockMs := s.clockMs + 1
        heats := overAll StationHeat.tick s.heats
        units := overAll PowerUnit.tick s.units
        alloc := s.alloc.tick
        channels := overAll ChannelSt.tick s.channels
        circuits := overAll CircuitSt.tick s.circuits
        runs := overAll RunState.tick s.runs
        taps := { s.taps with entries := s.taps.entries.map QueueEntry.tick }
        link := s.link.tick } := by
      unfold tick
      rw [if_neg (by rw [hheld]; decide)]
    have hentry : QueueEntry.tick = fun e =>
        { e with permit := e.permit.map (fun p => { p with leftMs := if p.started then p.leftMs else p.leftMs - 1 }) } := by
      funext e
      have hpermit : Permit.tick = fun p => { p with leftMs := if p.started then p.leftMs else p.leftMs - 1 } := by
        funext p
        unfold Permit.tick
        split <;> rfl
      unfold QueueEntry.tick
      rw [hpermit]
    rw [htick]
    refine ⟨?_, fun st => look_overAll _ _ st, fun u => look_overAll _ _ u, fun c => look_overAll _ _ c, fun c => look_overAll _ _ c,
      fun p => look_overAll _ _ p⟩
    rw [hentry]
    rfl

/-! ## What is not taken -/

/-- A part that does not take a frame keeps it waiting. -/
theorem serve_untaken {i : Instr} {kind tag : Byte} {p : List Byte} {judge : State → Answer} (hf : i.frame = some (kind, tag, p))
    (h : s.takes i = false) : serve kind tag p judge s = .next s := by
  unfold serve
  split
  · next hopen =>
    have hhead : s.takeHead { kind, tag, payload := p } = none := by
      simp only [State.dispatchOpen] at hopen
      simp only [State.takes, hf, hopen, Bool.true_and, Bool.or_eq_false_iff, decide_eq_false_iff_not] at h
      obtain ⟨hsome, hother⟩ := h
      unfold State.takeHead
      cases hrx : s.link.rx with
      | nil => simp [hrx] at hsome
      | cons g rest =>
        rw [hrx] at hother
        exact if_neg (fun hg => hother (congrArg some hg))
    rw [hhead]
  · rfl

/-- A row without a frame is not taken while, and only while, the part is held. -/
theorem held_of_untaken {i : Instr} (hf : i.frame = none) (h : s.takes i = false) : s.resetHeld = true := by
  simpa only [State.takes, hf, Bool.not_eq_false'] using h

/-- Settles O4: a request that cannot be dispatched waits; an event finds the part held, and leaves the levels of its own lines. -/
theorem untakenCommandChangesNothing : Obligations.UntakenCommandChangesNothing := by
  intro c s hpower hreleased h
  cases c with
  | powerOn => exact absurd rfl hpower
  | resetLineReleased => exact absurd rfl hreleased
  | resetLineActive => exact ⟨s, if_pos (held_of_untaken rfl h), rfl⟩
  | restartTakesEffect =>
    refine ⟨s, if_neg ?_, rfl⟩
    rw [held_of_untaken rfl h]
    exact Bool.false_ne_true
  | lineBreak bytes => exact ⟨lineLevel true s, if_pos (held_of_untaken rfl h), rfl⟩
  | transmitFrameEnd => exact ⟨s, if_pos (held_of_untaken rfl h), rfl⟩
  | unknownKind kind tag payload =>
    refine ⟨s, ?_, rfl⟩
    show execUnknownKind kind tag payload s = .next s
    unfold execUnknownKind
    split
    · rfl
    · exact serve_untaken rfl h
  | breakEnd => exact ⟨lineLevel false s, if_pos (held_of_untaken rfl h), rfl⟩
  | unitFaultActive u => exact ⟨faultLine u true s, if_pos (held_of_untaken rfl h), rfl⟩
  | unitFaultInactive u => exact ⟨faultLine u false s, if_pos (held_of_untaken rfl h), rfl⟩
  | pumpFaultActive => exact ⟨pumpLine true s, if_pos (held_of_untaken rfl h), rfl⟩
  | pumpFaultInactive => exact ⟨pumpLine false s, if_pos (held_of_untaken rfl h), rfl⟩
  | switchContacts u a b =>
    exact ⟨{ s with lines := { s.lines with contacts := place s.lines.contacts u { a, b } } },
      if_pos (held_of_untaken rfl h), rfl⟩
  | frameReceived | interByteGap | silenceTimerExpiry | modelStep | measuredPower | decayTimeout | travelTimeout | settleExpiry | dwellExpiry |
    allocationPass | channelArrival | channelTimeout | flowPulse | circuitGate | programEvaluation | permitExpiry | frameLenAbandoned =>
    exact ⟨s, if_pos (held_of_untaken rfl h), rfl⟩
  | _ => exact ⟨s, serve_untaken rfl h, rfl⟩

/-! ## Power-on and the restarts (1.4) -/

/-- Settles O5: the values are those of the model's own power-on state. -/
theorem powerOnValues : Obligations.PowerOnValues :=
  ⟨State.poweredOn, fun _ _ _ => rfl, fun _ => rfl, rfl⟩

/-- Settles O6: each bank of the restart read in one place. -/
theorem resetLineRestartsAndHolds : Obligations.ResetLineRestartsAndHolds := by
  intro s
  refine ⟨fun hheld => if_pos hheld, fun hheld => ⟨{ restartState s with resetHeld := true }, if_neg (by rw [hheld]; decide), rfl,
    restartState_heat s, restartState_unit s, fun c => look_overAll _ _ c, fun p => ?run⟩⟩
  case run =>
    have hrun : (restartState s).run p = (if (restartState s).live p then RunState.fresh (s.program p).period else RunState.off) :=
      restartState_run s p
    show (restartState s).run p = _
    rw [hrun]
    show _ = RunState.mk (if (restartState s).live p then .watch else .off) none none none 0 0 none none false false
      (if (restartState s).live p then some (s.program p).period else none)
    split <;> rfl

/-! ### The resumption (R84, R122) -/

/-- Opening the valves of stations that hold metal, as a fold: valves and link alone change. -/
theorem openValves_alone (cause : Nat) (sts : List Station) (s : State) :
    sts.foldl (openIfMetal cause) s =
      { s with valves := (sts.foldl (openIfMetal cause) s).valves, link := (sts.foldl (openIfMetal cause) s).link } := by
  refine List.foldlRecOn (motive := fun x : State => x = { s with valves := x.valves, link := x.link }) sts _ rfl (fun x hx st _ => ?_)
  unfold openIfMetal openValve
  split
  · split
    · exact hx
    · rw [hx]
      rfl
  · exact hx

/-- Each valve once a list of stations has been given emergency water: those listed that hold metal are OPEN. -/
theorem openValves_valve (cause : Nat) (sts : List Station) (s : State) (st : Station) :
    look (sts.foldl (openIfMetal cause) s).valves st = (look s.valves st || (decide (st ∈ sts) && (s.phase st).holdsMetal)) := by
  induction sts generalizing s with
  | nil => simp
  | cons a sts ih =>
    have hphase : (openIfMetal cause s a).phase st = s.phase st := by
      unfold openIfMetal
      split
      · exact congrArg (fun b => (look b st).record.phase) (openValve_heats s cause a)
      · rfl
    have hvalve : look (openIfMetal cause s a).valves st = (look s.valves st || (decide (st = a) && (s.phase st).holdsMetal)) := by
      unfold openIfMetal
      split
      · next hmetal =>
        rw [openValve_valves, look_place]
        by_cases h : a = st
        · subst h
          simp [hmetal]
        · simp [h, Ne.symm h]
      · next hmetal =>
        by_cases h : a = st
        · subst h
          simp [hmetal]
        · simp [Ne.symm h]
    rw [List.foldl_cons, ih, hphase, hvalve, Bool.or_assoc, ← Bool.and_or_distrib_right]
    simp only [List.mem_cons, Bool.decide_or]

/-- A unit as the part resumes: its lines read again (R84). -/
def State.reread (s : State) (u : UnitId) : PowerUnit :=
  { s.unit u with
    position := if s.used u then s.shown u else (s.unit u).position
    causes := { (s.unit u).causes with
      unitFault := (s.unit u).causes.unitFault || look s.lines.unitFault u
      pump := (s.unit u).causes.pump || s.lines.pumpFault
      switch := (s.unit u).causes.switch || (s.used u && ((s.shown u).isNone || s.shown u != (s.unit u).position)) } }

theorem rereadUnit_eq (s : State) (u : UnitId) : rereadUnit s u = s.onUnit u (fun _ => s.reread u) := by
  unfold rereadUnit State.reread State.onUnit
  cases s.used u <;> simp [State.unit, Bool.or_assoc]

/-- The resumption before the valves: both units read their lines, part time 0, the line released. -/
def State.resumed (s : State) : State :=
  { s with units := place (place s.units 0 (s.reread 0)) 1 (s.reread 1), resetHeld := false, clockMs := 0 }

theorem resumed_unit (s : State) (u : UnitId) : s.resumed.unit u = s.reread u := by
  show look (place (place s.units 0 (s.reread 0)) 1 (s.reread 1)) u = s.reread u
  simp only [look_place]
  match u with
  | 0 => rfl
  | 1 => rfl

/-- What a unit reads of its lines does not hang on the other unit. -/
theorem reread_onUnit_other {f : PowerUnit → PowerUnit} {u v : UnitId} (h : u ≠ v) : (s.onUnit u f).reread v = s.reread v := by
  have hunit : (s.onUnit u f).unit v = s.unit v := unit_onUnit_other f (Ne.symm h)
  unfold State.reread
  rw [hunit]
  rfl

theorem resume_eq (s : State) : resume s = waterUnknown s.resumed := by
  have hfold : allUnits.foldl rereadUnit { s with resetHeld := false, clockMs := 0 } = s.resumed := by
    simp only [allUnits, List.foldl_cons, List.foldl_nil, rereadUnit_eq, reread_onUnit_other (show (0 : UnitId) ≠ 1 by decide)]
    rfl
  exact congrArg waterUnknown hfold

theorem waterUnknown_alone (s : State) : waterUnknown s = { s with valves := (waterUnknown s).valves, link := (waterUnknown s).link } := by
  unfold waterUnknown
  split
  · exact openValves_alone causePump allStations s
  · rfl

theorem waterUnknown_valve (s : State) (st : Station) :
    look (waterUnknown s).valves st = (look s.valves st || (s.lines.pumpFault && (s.phase st).holdsMetal)) := by
  unfold waterUnknown
  cases hpump : s.lines.pumpFault with
  | true => simp [openValves_valve, mem_allStations]
  | false => simp

/-- Notices and the transmitter's choice keep the link but for its notices and the frame in hand. -/
theorem linkKept_nextFrame {s t : State} (h : Noted s.link t.link) : LinkKept s (nextFrame t) := by
  have halone := h.alone
  unfold LinkKept
  rcases nextFrame_cases t with he | ⟨r, -, -, he⟩ | ⟨n, rest, -, -, -, he⟩ <;> rw [he]
  · rw [halone]
  · rw [State.onLink_link, halone]
  · rw [State.onLink_link, halone]

/-- Settles O7: the resumption is that of `State.resumed` with its valves; a restart that is due holds and releases the part. -/
theorem partResumesAfterRestart : Obligations.PartResumesAfterRestart := by
  intro s
  refine ⟨fun hheld => ?held, fun hheld => if_neg (by rw [hheld]; decide), fun hheld hdue => ?due, fun h => if_neg ?_⟩
  case held =>
    have hunits : (nextFrame (resume s)).units = s.resumed.units := by
      rw [nextFrame_units, resume_eq, waterUnknown_alone]
    obtain ⟨l, hlink⟩ := nextFrame_link_alone (resume s)
    refine ⟨nextFrame (resume s), if_pos hheld, ?_, linkKept_nextFrame (resume_standing s).link, ?_, fun u => ?_, fun st => ?_⟩
    · rw [hlink, resume_eq, waterUnknown_alone]
      rfl
    · intro resumed
      have hresumed : resumed = s.resumed := by
        simp only [resumed, hunits]
        rfl
      rw [hresumed, resume_eq]
      rfl
    · exact (congrArg (fun b => look b u) hunits).trans (resumed_unit s u)
    · rw [nextFrame_valves, resume_eq]
      exact waterUnknown_valve s.resumed st
  case due =>
    have hreset : execResetLineActive s = .next { restartState s with resetHeld := true } := if_neg (by rw [hheld]; decide)
    refine ⟨{ restartState s with resetHeld := true }, nextFrame (resume (restartState s)), hreset, rfl, if_pos ?_⟩
    rw [hheld, hdue]
    decide
  · rcases h with h | h <;> simp [h]

/-! ## The invariants at reset -/

/-- Settles O8: each invariant holds of the part right after power is applied, whatever the lines. -/
theorem resetMeetsEveryInvariant : Obligations.ResetMeetsEveryInvariant := by
  have hshop : ShopOff 0 State.reset := ShopOff.poweredOn ..
  refine ⟨shopOff_zero.mp hshop, AllRest.fits (s := State.reset) (poweredOn_rest ..), ?_, .default rfl rfl, ?_⟩
  · exact .of_calm (afterReset_calm (silence := 10) (low := false) rfl) (fun _ _ _ => ⟨rfl, rfl⟩) rfl
  · exact (programsOk_iff hshop).mp (ProgramsOk.poweredOn Lines.quiet false [])

end

end Sys2Proof.Machine

/-!
PROOFS. The link's commands as they are judged: the rows of the frames, the frame received, silence, the transmitter, and what is refused before its
owner looks at it.
-/

namespace Sys2Proof.Machine

/-! ## The row of a frame (R169, R170) -/

section
variable {s t : State}

theorem exec_commandOf (k : RequestKind) (tag : Byte) (p : List Byte) (s : State) :
    exec (commandOf k tag p) s = serveRequest k tag p (ownerOf k p) s := by
  cases k <;> rfl

theorem frame_commandOf (k : RequestKind) (tag : Byte) (p : List Byte) : (commandOf k tag p).frame = some (k.code, tag, p) := by
  cases k <;> rfl

theorem ofCode_code (k : RequestKind) : RequestKind.ofCode k.code = some k := by
  cases k <;> decide

theorem ofCode_some {kind : Byte} {k : RequestKind} (h : RequestKind.ofCode kind = some k) : k.code = kind :=
  eq_of_beq (List.find?_some (p := fun k : RequestKind => k.code == kind) h)

theorem ofCode_none_iff {kind : Byte} : RequestKind.ofCode kind = none ↔ ∀ k : RequestKind, k.code ≠ kind := by
  constructor
  · intro h k hk
    rw [← hk, ofCode_code] at h
    cases h
  · intro h
    cases hk : RequestKind.ofCode kind with
    | none => rfl
    | some k => exact absurd (ofCode_some hk) (h k)

/-- The row that stands for a frame dispatches it. -/
theorem exec_row (f : Frame) (s : State) : exec f.row s = serve f.kind f.tag f.payload (judgeFrame f) s := by
  unfold Frame.row
  cases hk : RequestKind.ofCode f.kind with
  | some k =>
    have hjudge : judgeFrame f = judged k f.payload (ownerOf k f.payload) := by
      funext x
      simp only [judgeFrame, hk]
    rw [hjudge, ← ofCode_some hk]
    exact exec_commandOf k f.tag f.payload s
  | none =>
    have hjudge : judgeFrame f = fun x => refuse x .unknownKind := by
      funext x
      simp only [judgeFrame, hk]
    rw [hjudge]
    show execUnknownKind f.kind f.tag f.payload s = _
    unfold execUnknownKind
    rw [hk]

theorem frame_row (f : Frame) : f.row.frame = some (f.kind, f.tag, f.payload) := by
  unfold Frame.row
  cases hk : RequestKind.ofCode f.kind with
  | some k =>
    rw [← ofCode_some hk]
    exact frame_commandOf k f.tag f.payload
  | none => rfl

/-- With no frame waiting there is none to take from the queue. -/
theorem popped_empty (h : s.link.rx = []) : s.popped = s := by
  have hlink : { s.link with rx := s.link.rx.tail } = s.link := by rw [h, List.tail_nil, ← h]
  exact congrArg (fun l => { s with link := l }) hlink

/-- The dispatch of a frame at the head of the queue, or of one that came otherwise while the queue is empty. -/
theorem serve_open {kind tag : Byte} {p : List Byte} {judge : State → Answer} (hopen : s.dispatchOpen = true)
    (hx : s.link.rx = [] ∨ s.link.rx.head? = some { kind, tag, payload := p }) :
    serve kind tag p judge s = .next (placeReply kind tag (judge s.popped)) := by
  have hhead : s.takeHead { kind, tag, payload := p } = some s.popped := by
    unfold State.takeHead
    cases hrx : s.link.rx with
    | nil => rw [popped_empty hrx]
    | cons g rest =>
      have hg : g = { kind, tag, payload := p } := by
        rcases hx with hx | hx
        · rw [hrx] at hx
          cases hx
        · rw [hrx] at hx
          exact Option.some.inj hx
      unfold State.popped
      simp only [hg, if_true, hrx]
      rfl
  unfold serve
  rw [if_pos hopen, hhead]

theorem exec_row_open {f : Frame} (hopen : s.dispatchOpen = true) (hx : s.link.rx = [] ∨ s.link.rx.head? = some f) :
    exec f.row s = .next (placeReply f.kind f.tag (judgeFrame f s.popped)) := by
  rw [exec_row]
  exact serve_open hopen hx

theorem takes_row {f : Frame} : s.takes f.row = (s.dispatchOpen && (s.link.rx.isEmpty || decide (s.link.rx.head? = some f))) := by
  simp only [State.takes, frame_row]
  rfl

/-! ## The transmitter (R177) -/

theorem nextFrame_nextFrame (s : State) : nextFrame (nextFrame s) = nextFrame s := by
  rcases nextFrame_cases s with h | ⟨r, -, -, h⟩ | ⟨n, rest, -, -, -, h⟩
  · rw [h, h]
  · rw [h]
    exact nextFrame_busy _ rfl
  · rw [h]
    exact nextFrame_busy _ rfl

section
variable (hheld : s.resetHeld = false) (hdue : s.link.restart ≠ .due) (hidle : s.link.sending = none)
include hheld hdue hidle

/-- The idle transmitter of a running part takes the pending reply. -/
theorem nextFrame_takesReply {r : Reply} (hr : s.link.pendingReply = some r) :
    nextFrame s = s.onLink (fun l => { l with sending := some (.reply r), pendingReply := none }) := by
  unfold nextFrame
  rw [if_neg (by simp [hheld, hdue, hidle]), hr]

/-- With no reply pending it takes the oldest notice. -/
theorem nextFrame_takesNotice {n : Notice} {rest : List Notice} (hr : s.link.pendingReply = none) (hn : s.link.notices = n :: rest) :
    nextFrame s = s.onLink (fun l => { l with sending := some (.notice n), notices := rest }) := by
  unfold nextFrame
  rw [if_neg (by simp [hheld, hdue, hidle]), hr, hn]

end

theorem nextFrame_stopped (h : s.resetHeld = true ∨ s.link.restart = .due ∨ s.link.sending ≠ none) : nextFrame s = s := by
  unfold nextFrame
  refine if_pos ?_
  rcases h with h | h | h
  · simp [h]
  · simp [h]
  · simp [Option.isSome_iff_ne_none.mpr h]

theorem placeReply_rx {kind tag : Byte} {a : Answer} : (placeReply kind tag a).link.rx = a.state.link.rx := by
  unfold placeReply
  rw [nextFrame_rx]
  rfl

/-- The frames that wait are dispatched head first, each as its row is. -/
theorem dispatchWaiting_head {f : Frame} {rest : List Frame} (hrx : s.link.rx = f :: rest) (hopen : s.dispatchOpen = true) :
    dispatchWaiting s = dispatchWaiting (placeReply f.kind f.tag (judgeFrame f s.popped)) ∧
      (placeReply f.kind f.tag (judgeFrame f s.popped)).link.rx = rest := by
  have hrest : (placeReply f.kind f.tag (judgeFrame f s.popped)).link.rx = rest := by
    rw [placeReply_rx, (judgeFrame_answers (f := f)).rx]
    show s.link.rx.tail = rest
    rw [hrx]
    rfl
  refine ⟨?_, hrest⟩
  unfold dispatchWaiting
  rw [hrest, hrx]
  show dispatchUpTo (rest.length + 1) s = _
  rw [dispatchUpTo, if_pos hopen, hrx]
  have hpopped : s.onLink (fun l => { l with rx := rest }) = s.popped := by
    unfold State.popped
    rw [hrx]
    rfl
  simp only [hpopped]

/-- The end of a frame on the line of a running part. -/
theorem exec_transmitFrameEnd (hheld : s.resetHeld = false) :
    exec .transmitFrameEnd s = .next (dispatchWaiting (nextFrame (endTransmission s))) := if_neg (by rw [hheld]; decide)

/-- Settles O22: the choice by cases of the link, the end of each sort of frame, and the head of the queue as its row. -/
theorem transmitterSendsRepliesFirst : Obligations.TransmitterSendsRepliesFirst := by
  refine ⟨fun s => ⟨nextFrame_stopped, fun hheld hdue hidle => ⟨fun r hr => ?reply, fun n rest hr hn => ?notice, nextFrame_idle s⟩⟩,
    fun s hheld => ⟨fun hidle => ?idle, fun r hr => ?replied, fun n hn => ?noticed⟩, fun s => ⟨fun h => ?still, fun f rest hrx hopen => ?head⟩⟩
  case reply => exact nextFrame_takesReply hheld hdue hidle hr
  case notice => exact nextFrame_takesNotice hheld hdue hidle hr hn
  case idle =>
    have hend : endTransmission s = s := by simp only [endTransmission, hidle]
    rw [exec_transmitFrameEnd hheld, hend]
  case replied =>
    have hend : endTransmission s = { s with link := { s.link with
        sending := none
        restart := if s.link.restart = .replying ∧ s.link.pendingReply = none then .due else s.link.restart } } := by
      simp [endTransmission, hr, Link.answersRestart, State.onLink]
    rw [exec_transmitFrameEnd hheld, hend]
  case noticed =>
    have hend : endTransmission s = { s with link := { s.link with sending := none } } := by
      simp [endTransmission, hn, Link.answersRestart, State.onLink]
    rw [exec_transmitFrameEnd hheld, hend]
  case still => exact h.elim (dispatchWaiting_empty s) (dispatchWaiting_closed s)
  case head =>
    obtain ⟨hwaiting, hrest⟩ := dispatchWaiting_head hrx hopen
    exact ⟨_, exec_row_open hopen (.inr (by rw [hrx]; rfl)), hrest, hwaiting⟩

/-! ## Whole frames (R166, R167) -/

/-- A hunting receiver takes a whole frame as one. -/
theorem rxBytes_whole {bytes : List Byte} (hlow : s.link.lineLow = false) (hr : s.link.receiver = .hunt) (h : isWholeFrame bytes = true) :
    rxBytes bytes s = completeFrame bytes s := by
  rcases bytes with _ | ⟨sync, _ | ⟨len, rest⟩⟩
  · cases h
  · cases h
  · simp only [isWholeFrame, Bool.and_eq_true, beq_iff_eq, decide_eq_true_eq] at h
    obtain ⟨⟨⟨rfl, h1⟩, h2⟩, hlen⟩ := h
    obtain ⟨front, last, rfl⟩ : ∃ front last, rest = front ++ [last] :=
      ⟨rest.dropLast, rest.getLast (by intro h; simp [h] at hlen), (List.dropLast_append_getLast _).symm⟩
    simp only [List.length_append, List.length_cons, List.length_nil] at hlen
    have hpart : isPartFrame (Config.syncByte :: len :: front) = true := by
      simp only [isPartFrame, Bool.and_eq_true, beq_self_eq_true, decide_eq_true_eq]
      exact ⟨⟨⟨trivial, h1⟩, h2⟩, by omega⟩
    have hfull : (Config.syncByte :: len :: front ++ [last]).length = len.toNat + 5 := by
      simp only [List.length_append, List.length_cons, List.length_nil]
      omega
    calc rxBytes (Config.syncByte :: len :: (front ++ [last])) s
      _ = rxByte (rxBytes (Config.syncByte :: len :: front) s) last := by
          unfold rxBytes
          rw [← List.cons_append, ← List.cons_append, List.foldl_append]
          rfl
      _ = rxByte (s.receiving (Config.syncByte :: len :: front)) last := by rw [rxBytes_part hlow hr hpart]
      _ = completeFrame (Config.syncByte :: len :: front ++ [last]) s.hunting :=
          (if_neg (by simp [State.receiving, hlow])).trans (if_pos hfull)
      _ = completeFrame (Config.syncByte :: len :: (front ++ [last])) s := by rw [hunting_of_hunt hr]; rfl

theorem frameOf_check {sync len kind tag : Byte} {payload check : List Byte} (hlen : payload.length + 1 = len.toNat)
    (hcheck : check ≠ crcBytes (crc (len :: kind :: tag :: payload))) :
    frameOf (sync :: len :: kind :: tag :: (payload ++ check)) = none := by
  have hpayload : len.toNat - 1 = payload.length := by omega
  simp only [frameOf, hpayload, List.take_left, List.drop_left, if_neg hcheck]

theorem validFrame_standing_link (s : State) : (validFrame s).link.rx = s.link.rx ∧ (validFrame s).link.discarded = s.link.discarded := by
  unfold validFrame
  simp only
  split
  · have hnoticed := notify_shared (s.onLink (fun l => { l with silent := false, silenceTimer := some (s.cfg.shop.silenceTime * 1000) }))
      .link 0 (nat (s.link.silentMs / 1000)) none none
    have hwork := Shared.reexamined (hnoticed.trans (recomputeMelting_shared _))
    rw [(Shared.standing hwork).link.alone]
    exact ⟨rfl, rfl⟩
  · exact ⟨rfl, rfl⟩

/-- The state with a frame behind those that wait. -/
def State.queueing (s : State) (f : Frame) : State := s.onLink (fun l => { l with rx := l.rx ++ [f] })

/-- A lone frame taken from the queue leaves the state before it came. -/
theorem queueing_popped {f : Frame} (h : s.link.rx = []) : (s.queueing f).popped = s := by
  have hlink : { s.link with rx := (s.link.rx ++ [f]).tail } = s.link := by rw [h, List.nil_append, List.tail_cons, ← h]
  exact congrArg (fun l => { s with link := l }) hlink

/-- Settles O19: a whole frame is taken as one; what a valid one does is `validFrame`, and a lone one that may be dispatched is dispatched as its
row. -/
theorem frameReceivedQueuesOrDiscards : Obligations.FrameReceivedQueuesOrDiscards := by
  intro s hheld hlow hr
  refine ⟨fun kind tag payload hlen => ?valid, fun len kind tag payload check h1 h2 hlen hcheck hbad => ?invalid⟩
  case valid =>
    intro c f heard ended
    have hended : validFrame s = ended := rfl
    have hexec : exec c s = .next (nextFrame (acceptFrame f s)) := by
      rw [exec_frameReceived hheld, rxBytes_whole hlow hr (isWholeFrame_frameBytes kind tag hlen)]
      unfold completeFrame
      rw [frameOf_frameBytes kind tag hlen]
    obtain ⟨hrx, hdiscarded⟩ := validFrame_standing_link s
    rw [hended] at hrx hdiscarded
    have hopen : ended.dispatchOpen = s.dispatchOpen := validFrame_dispatchOpen
    have haccept : acceptFrame f s = if s.link.rx.length < 4 then dispatchWaiting (ended.queueing f) else countDiscard ended := by
      rw [← hrx]
      rfl
    refine ⟨fun hfull => ?_, fun hroom hclosed => ?_, fun hempty hyes => ?_⟩
    · rw [hexec, haccept, if_neg (by omega), ← hdiscarded]
      rfl
    · have hwaits : dispatchWaiting (ended.queueing f) = ended.queueing f := dispatchWaiting_closed _ (hopen.trans hclosed)
      rw [hexec, haccept, if_pos hroom, hwaits, ← hrx]
      rfl
    · have hended_empty : ended.link.rx = [] := hrx.trans hempty
      have hended_open : ended.dispatchOpen = true := hopen.trans hyes
      have hqueued : (ended.queueing f).link.rx = [f] := congrArg (· ++ [f]) hended_empty
      obtain ⟨hwaiting, hrest⟩ := dispatchWaiting_head (s := ended.queueing f) hqueued hended_open
      refine ⟨?_, ?_⟩
      · rw [hexec, haccept, if_pos (by rw [hempty]; decide), hwaiting, dispatchWaiting_empty _ hrest, queueing_popped hended_empty,
          exec_row_open hended_open (.inl hended_empty), popped_empty hended_empty]
        exact congrArg _ (nextFrame_nextFrame _)
      · rw [takes_row, hended_open, hended_empty]
        rfl
  case invalid =>
    have hwhole : isWholeFrame (0x5A :: len :: kind :: tag :: (payload ++ check)) = true := by
      simp only [isWholeFrame, Bool.and_eq_true, beq_iff_eq, decide_eq_true_eq, List.length_cons, List.length_append]
      exact ⟨⟨⟨rfl, h1⟩, h2⟩, by omega⟩
    rw [exec_frameReceived hheld, rxBytes_whole hlow hr hwhole]
    unfold completeFrame
    rw [frameOf_check hlen hbad]
    rfl

/-! ## Silence (R178) -/

/-- The request a MELT station has while the link is silent: its balance power, within the rating (R35). -/
def State.balanceRequest (s : State) (st : Station) : Nat := min (s.stationRating st) (balancePower (s.stationRec st) (s.record st))

theorem demand_melt_silent {st : Station} (h : s.phase st = .melt) (hsilent : s.link.silent = true) :
    (s.demand st).1 = s.balanceRequest st := by
  have hphase : (s.record st).phase = .melt := h
  unfold State.demand State.balanceRequest
  simp only [hphase, hsilent, if_true]

/-- The recomputation of one station's request where it melts (R178, R179). -/
def recomputeIfMelting (s : State) (st : Station) : State := if s.phase st = .melt then recompute st s else s

theorem recomputeMelting_eq (s : State) : recomputeMelting s = allStations.foldl recomputeIfMelting s := rfl

theorem recompute_heat (s : State) (a b : Station) : (recompute a s).heat b =
    if a = b then { s.heat a with request := (s.demand a).1, need := (s.demand a).2 } else s.heat b := by
  simp only [State.heat, recompute_heats, look_place]

theorem recomputeIfMelting_heat (s : State) (a b : Station) : (recomputeIfMelting s a).heat b =
    if a = b ∧ s.phase b = .melt then { s.heat b with request := (s.demand b).1, need := (s.demand b).2 } else s.heat b := by
  unfold recomputeIfMelting
  by_cases hmelt : s.phase a = .melt
  · rw [if_pos hmelt, recompute_heat]
    by_cases h : a = b
    · subst h
      rw [if_pos rfl, if_pos ⟨rfl, hmelt⟩]
    · rw [if_neg h, if_neg (fun k => h k.1)]
  · rw [if_neg hmelt, if_neg]
    rintro ⟨rfl, hb⟩
    exact hmelt hb

theorem recomputeIfMelting_shared (s : State) (st : Station) : Shared s (recomputeIfMelting s st) := by
  unfold recomputeIfMelting
  split
  · exact recompute_shared s st
  · exact .refl

theorem recomputeIfMelting_record (s : State) (a b : Station) : (recomputeIfMelting s a).record b = s.record b := by
  unfold recomputeIfMelting
  split
  · exact recompute_record s a b
  · rfl

/-- What the recomputations of the MELT stations leave, while the link is silent. -/
theorem recomputeAll_silent (sts : List Station) (s : State) (hsilent : s.link.silent = true) (b : Station) :
    (sts.foldl recomputeIfMelting s).record b = s.record b ∧
      (s.phase b ≠ .melt → (sts.foldl recomputeIfMelting s).heat b = s.heat b) ∧
      (s.phase b = .melt → b ∈ sts ∨ (s.heat b).request = s.balanceRequest b →
        ((sts.foldl recomputeIfMelting s).heat b).request = s.balanceRequest b) := by
  induction sts generalizing s with
  | nil => exact ⟨rfl, fun _ => rfl, fun _ h => h.resolve_left (List.not_mem_nil)⟩
  | cons a sts ih =>
    have hshared := recomputeIfMelting_shared s a
    have hrecord : (recomputeIfMelting s a).record b = s.record b := recomputeIfMelting_record s a b
    have hphase : (recomputeIfMelting s a).phase b = s.phase b := congrArg HeatRec.phase hrecord
    have hrequest : (recomputeIfMelting s a).balanceRequest b = s.balanceRequest b := by
      unfold State.balanceRequest State.stationRating State.unitOf State.rating State.layoutOf State.stationRec
      rw [hshared.cfg, hrecord]
    obtain ⟨ihrecord, ihother, ihmelt⟩ := ih (recomputeIfMelting s a) (hshared.internal.silent.trans hsilent)
    rw [hphase] at ihother ihmelt
    rw [List.foldl_cons]
    refine ⟨ihrecord.trans hrecord, fun hother => ?_, fun hmelt hb => ?_⟩
    · rw [ihother hother, recomputeIfMelting_heat, if_neg (fun k => hother k.2)]
    · rw [ihmelt hmelt ?_, hrequest]
      rw [hrequest, recomputeIfMelting_heat]
      by_cases h : a = b
      · rw [if_pos ⟨h, hmelt⟩]
        exact .inr (demand_melt_silent hmelt hsilent)
      · rw [if_neg (fun k : a = b ∧ _ => h k.1)]
        exact hb.imp_left (fun k => (List.mem_cons.mp k).resolve_left (Ne.symm h))

/-- Settles O21: the expiry is `enterSilence`, in whose course each MELT station is recomputed once. -/
theorem silenceBeginsAtExpiry : Obligations.SilenceBeginsAtExpiry := by
  intro s hheld
  have hexec : exec .silenceTimerExpiry s =
      .next (nextFrame (if s.link.silent || s.link.silenceTimer != some 0 then s else enterSilence s)) :=
    whileRunning_taken (fun s => if s.link.silent || s.link.silenceTimer != some 0 then s else enterSilence s) s hheld
  refine ⟨fun h => ?still, fun hsounding hdue => ?expiry⟩
  case still => rw [hexec, if_pos (by rcases h with h | h <;> simp [h])]
  case expiry =>
    refine ⟨enterSilence s, ?_⟩
    intro silenced
    have hall := recomputeAll_silent allStations silenced rfl
    refine ⟨rfl, by rw [hexec, if_neg (by simp [hsounding, hdue])], fun st hst => ?_, fun st hst => (hall st).2.1 hst, fun st => (hall st).1⟩
    exact (hall st).2.2 hst (.inl (mem_allStations st))

/-! ## Refusals before the owner (R5, R7, R170) -/

/-- A request row that is taken and refused sends the code alone. -/
theorem exec_commandOf_refused {k : RequestKind} {tag : Byte} {p : List Byte} {code : ReplyCode} (ht : s.takes (commandOf k tag p) = true)
    (hj : judged k p (ownerOf k p) s.popped = refuse s.popped code) :
    exec (commandOf k tag p) s = .next (s.refused (commandOf k tag p) code) := by
  obtain ⟨hheld, hpending, hrestart, hx⟩ := takes_parts (frame_commandOf k tag p) ht
  have hopen : (judged k p (ownerOf k p) s.popped).state.resetHeld = false ∧
      (judged k p (ownerOf k p) s.popped).state.link.restart ≠ .due := by
    rw [hj]
    exact ⟨hheld, by rw [refuse, popped_restart, hrestart]; decide⟩
  rw [exec_commandOf, serveRequest, serve_taken k.code tag p _ s hheld hpending hrestart hx hopen.1 hopen.2, hj]
  simp only [State.refused, replyTo, frame_commandOf]
  rfl

/-- Settles O23: the KIND and the length are judged before any owner. -/
theorem unfitFramesAreRefused : Obligations.UnfitFramesAreRefused := by
  refine ⟨fun s kind tag payload ht => ⟨fun hnone => ?unknown, fun hsome => ?known⟩, fun s k tag payload ht hlen => ?length, rfl, rfl⟩
  case unknown =>
    obtain ⟨hheld, hpending, hrestart, hx⟩ := takes_parts (i := .unknownKind kind tag payload) rfl ht
    show execUnknownKind kind tag payload s = _
    unfold execUnknownKind
    rw [ofCode_none_iff.mpr hnone]
    have hdue : s.link.restart ≠ .due := by
      rw [hrestart]
      decide
    exact serve_taken kind tag payload (fun x => refuse x .unknownKind) s hheld hpending hrestart hx hheld hdue
  case known =>
    obtain ⟨k, rfl⟩ := hsome
    show execUnknownKind k.code tag payload s = _
    unfold execUnknownKind
    rw [ofCode_code]
  case length =>
    have hfits : k.fits payload = false := by
      unfold RequestKind.fits
      split
      · rw [if_pos rfl] at hlen
        exact decide_eq_false (by omega)
      · next hk =>
        rw [if_neg (fun h => hk h)] at hlen
        exact beq_eq_false_iff_ne.mpr hlen
    exact exec_commandOf_refused ht (if_neg (by rw [hfits]; decide))

theorem withLayout_unloaded {body : Answer} (h : s.cfg.layout.loaded = false) : withLayout s body = refuse s .noLayout :=
  if_neg (by rw [h]; decide)

theorem unitNumber_outside {n : Nat} (h : n < 1 ∨ 2 < n) : unitNumber n = none := dif_neg (by omega)

theorem namingUnit_badValue {n : Nat} (body : UnitId → Answer) (hl : s.cfg.layout.loaded = true) (hn : n < 1 ∨ 2 < n) :
    namingUnit s n body = refuse s .badValue := by
  simp [namingUnit, withLayout, hl, unitNumber_outside hn]

/-- A request whose second number is out of range is refused whatever its first. -/
theorem namingStation_refused {n : Nat} {body : Station → Answer} (hl : s.cfg.layout.loaded = true)
    (hbody : ∀ st, body st = refuse s .badValue) : namingStation s n body = refuse s .badValue := by
  unfold namingStation
  rw [withLayout, if_pos hl]
  split
  · exact hbody _
  · rfl

theorem namingUnit_refused {n : Nat} {body : UnitId → Answer} (hl : s.cfg.layout.loaded = true)
    (hbody : ∀ u, body u = refuse s .badValue) : namingUnit s n body = refuse s .badValue := by
  unfold namingUnit
  rw [withLayout, if_pos hl]
  split
  · exact hbody _
  · rfl

theorem forStation_off {n : Nat} {st : Station} (body : Station → Answer) (hl : s.cfg.layout.loaded = true) (hn : n = stationCode st)
    (hoff : s.phase st = .off) : forStation s n body = refuse s .stationOff := by
  rw [forStation, namingStation_named _ hl hn, if_pos hoff]

/-- A number within S1 to S4 is the code of a station. -/
theorem stationCode_of_range {n : Nat} (h1 : 1 ≤ n) (h4 : n ≤ 4) : ∃ st, n = stationCode st :=
  ⟨⟨n - 1, by omega⟩, by simp only [stationCode]; omega⟩

theorem transferOwner_off {p : List Byte} {a b : Station} (hl : s.cfg.layout.loaded = true) (ha : u8At p 0 = stationCode a)
    (hb : u8At p 1 = stationCode b) (hoff : s.phase a = .off ∨ s.phase b = .off) : transferOwner p s = refuse s .stationOff := by
  rw [transferOwner, namingStation_named _ hl ha, namingStation_named _ hl hb, if_pos hoff]

/-- Settles O24: each owner begins with the check of the layout, then of its numbers, then of the station's phase. -/
theorem subjectIsCheckedFirst : Obligations.SubjectIsCheckedFirst := by
  intro s k tag p c ht hlen
  have hrefused : ∀ code, ownerOf k p s.popped = refuse s.popped code → exec c s = .next (s.refused c code) := fun code ho =>
    exec_commandOf_refused ht ((if_pos (fits_of_length hlen)).trans ho)
  refine ⟨fun hnone hk => hrefused _ ?noLayout, fun hl => ⟨fun hk hn => hrefused _ ?station, fun hk hn => hrefused _ ?second,
    fun hk hn => hrefused _ ?unit, fun st hoff => ⟨fun hk hn => hrefused _ ?off, fun hk hn => hrefused _ ?transferOff⟩⟩⟩
  case noLayout =>
    have hl : s.popped.cfg.layout.loaded = false := hnone
    cases k with
    | shopStatus | layout | tableRead | tableWrite | restart => exact absurd (by decide) hk
    | _ => exact withLayout_unloaded hl
  case station =>
    have hl : s.popped.cfg.layout.loaded = true := hl
    cases k with
    | stationEnable | stationDisable | reline | charge | dip | transfer | heatRead | heatLoad | heatDeclare | heatEmpty | flagsClear |
      dipHistory | ewClose => exact namingStation_badValue _ hl hn
    | _ => exact absurd hk (by decide)
  case second =>
    have hl : s.popped.cfg.layout.loaded = true := hl
    cases k with
    | transfer => exact namingStation_refused hl (fun a => namingStation_badValue _ hl hn)
    | changeover => exact namingUnit_refused hl (fun u => namingStation_badValue _ hl hn)
    | _ => exact absurd hk (by decide)
  case unit =>
    have hl : s.popped.cfg.layout.loaded = true := hl
    cases k with
    | unitMode | changeover | tripReset => exact namingUnit_badValue _ hl hn
    | _ => exact absurd hk (by decide)
  case off =>
    have hl : s.popped.cfg.layout.loaded = true := hl
    cases k with
    | stationDisable | charge | dip | heatRead | heatLoad | heatDeclare | heatEmpty | flagsClear | dipHistory | ewClose =>
      exact forStation_off _ hl hn hoff
    | _ => exact absurd hk (by decide)
  case transferOff =>
    have hl : s.popped.cfg.layout.loaded = true := hl
    subst hk
    rcases hn with ⟨ha, h1, h4⟩ | ⟨hb, h1, h4⟩
    · obtain ⟨b, hb⟩ := stationCode_of_range h1 h4
      exact transferOwner_off hl ha hb (.inl hoff)
    · obtain ⟨a, ha⟩ := stationCode_of_range h1 h4
      exact transferOwner_off hl ha hb (.inr hoff)

end

end Sys2Proof.Machine

/-!
PROOFS. The shop requests: the readers, the writes of the tables, the layout, and the stations' enables.
-/

namespace Sys2Proof.Machine

/-! ## Requests as they are answered -/

section
variable {s t : State} {k : RequestKind} {tag : Byte} {p : List Byte} {code : ReplyCode} {data : List Byte}

/-- A request row that is taken and answered leaves its owner's state with the reply placed. -/
theorem exec_commandOf_answered (ht : s.takes (commandOf k tag p) = true) (hj : judged k p (ownerOf k p) s.popped = { state := t, code, data })
    (hopen : t.resetHeld = s.resetHeld ∧ t.link.restart = s.link.restart) :
    exec (commandOf k tag p) s = .next (t.replied (commandOf k tag p) code data) := by
  obtain ⟨hheld, hpending, hrestart, hx⟩ := takes_parts (frame_commandOf k tag p) ht
  have hjudged : (judged k p (ownerOf k p) s.popped).state.resetHeld = false ∧
      (judged k p (ownerOf k p) s.popped).state.link.restart ≠ .due := by
    rw [hj]
    exact ⟨hopen.1.trans hheld, by rw [hopen.2, hrestart]; decide⟩
  rw [exec_commandOf, serveRequest, serve_taken k.code tag p _ s hheld hpending hrestart hx hjudged.1 hjudged.2, hj]
  simp only [State.replied, replyTo, frame_commandOf]

/-- What leaves settings, hold and link but for its notices leaves what a reply needs. -/
theorem Standing.open (h : Standing s t) : t.resetHeld = s.resetHeld ∧ t.link.restart = s.link.restart :=
  ⟨h.resetHeld, by rw [h.link.alone]⟩

theorem Deed.open {sc : Scope} (h : Deed sc s t) : t.resetHeld = s.resetHeld ∧ t.link.restart = s.link.restart := h.standing.open

end

/-! ## The readers (R52, R59, R143, R150, R171) -/

theorem tableOf_none {n : Nat} (h : 7 < n) : tableOf n = none := by
  match n, h with
  | n + 8, _ => rfl

section
variable {s : State} {p : List Byte}

theorem covered_eq {t : Table} (ht : tableOf (u8At p 0) = some t) : covered p =
    if t.count < u8At p 1 + (u8At p 2 + 1) ∨ 245 < (u8At p 2 + 1) * t.size then none
    else some { table := t, first := u8At p 1, count := u8At p 2 + 1 } := by
  unfold covered
  rw [ht]

theorem covered_refused {t : Table} (ht : tableOf (u8At p 0) = some t)
    (h : t.count < u8At p 1 + (u8At p 2 + 1) ∨ 245 < (u8At p 2 + 1) * t.size) : covered p = none := (covered_eq ht).trans (if_pos h)

theorem covered_taken {t : Table} (ht : tableOf (u8At p 0) = some t) (hcount : u8At p 1 + (u8At p 2 + 1) ≤ t.count)
    (hsize : (u8At p 2 + 1) * t.size ≤ 245) : covered p = some { table := t, first := u8At p 1, count := u8At p 2 + 1 } :=
  (covered_eq ht).trans (if_neg (by omega))

theorem covered_noTable (h : 7 < u8At p 0) : covered p = none := by
  unfold covered
  rw [tableOf_none h]

theorem tableReadOwner_refused (h : covered p = none) : tableReadOwner p s = refuse s .badValue := by
  unfold tableReadOwner
  rw [h]

theorem tableReadOwner_taken {c : Covered} (h : covered p = some c) (hlen : p.length = 3) : tableReadOwner p s =
    { state := s, code := .ok, data := p ++ (((s.tableBytes c.table).drop c.first).take c.count).flatten } := by
  unfold tableReadOwner
  rw [h]
  simp only [← hlen, List.take_length]

end

/-- The elements of a bank in the order of their places. -/
theorem toList_eq_map {α : Type} {n : Nat} (b : Bank α n) : b.toList = (List.finRange n).map (look b) := by
  refine List.ext_getElem (by simp) (fun i h1 h2 => ?_)
  simp [look]


theorem shownDirection_eq (x : RunState) : x.shownDirection =
    if x.state = .count ∨ x.state = .active ∨ x.state = .latched then x.direction.map Dir.code else none := by
  unfold RunState.shownDirection
  cases x.state <;> simp

theorem bitIf_eq (b : Bool) (k : Nat) : bitIf b k = if b then 2 ^ k else 0 := rfl

/-- Settles O26: each reader's owner answers with the bytes its chapter gives, and only WATCH STATUS leaves another state. -/
theorem readersAnswerWhatStands : Obligations.ReadersAnswerWhatStands := by
  intro s tag p
  refine ⟨fun ht hlen => ⟨fun t htable => ⟨fun hbad => ?badTable, fun hcount hsize => ?table⟩, fun hnone => ?noTable⟩,
    fun st hst hoff => ⟨fun ha => ?heat, fun ha => ?dips⟩, fun ha => ?queue, fun ha => ?watch⟩
  case badTable =>
    exact exec_commandOf_refused (k := .tableRead) ht
      ((if_pos (fits_of_length hlen)).trans (tableReadOwner_refused (covered_refused htable hbad)))
  case noTable =>
    exact exec_commandOf_refused (k := .tableRead) ht
      ((if_pos (fits_of_length hlen)).trans (tableReadOwner_refused (covered_noTable hnone)))
  case table =>
    exact exec_commandOf_answered (k := .tableRead) (t := s.popped) ht
      ((if_pos (fits_of_length hlen)).trans (tableReadOwner_taken (covered_taken htable hcount hsize) hlen)) ⟨rfl, rfl⟩
  case heat =>
    have hl : s.popped.cfg.layout.loaded = true := ha.loaded
    intro r
    exact ha.answered (k := .heatRead) (t := s.popped) rfl (forStation_named _ hl hst hoff) ⟨rfl, rfl⟩
  case dips =>
    have hl : s.popped.cfg.layout.loaded = true := ha.loaded
    exact ha.answered (k := .dipHistory) (t := s.popped) rfl (forStation_named _ hl hst hoff) ⟨rfl, rfl⟩
  case queue =>
    have hl : s.popped.cfg.layout.loaded = true := ha.loaded
    exact ha.answered (k := .queueRead) (owner := queueReadOwner) (t := s.popped) rfl (if_pos hl) ⟨rfl, rfl⟩
  case watch =>
    have hl : s.popped.cfg.layout.loaded = true := ha.loaded
    refine ⟨overAll (fun r => { r with positive := false, negative := false }) s.runs, fun w => look_overAll _ _ w, ?_⟩
    intro absent shown
    have hshown : RunState.bytes = shown := by
      funext x
      simp only [RunState.bytes, shownDirection_eq, bitIf_eq, shown, Nat.pow_zero, Nat.pow_one]
      rfl
    have hbytes : (s.runs.toList.map RunState.bytes).flatten = (allPrograms.map (fun w => shown (s.run w))).flatten := by
      rw [hshown, toList_eq_map, List.map_map]
      rfl
    rw [← hbytes]
    exact ha.answered (k := .watchStatus) (owner := watchStatusOwner) rfl (if_pos hl) ⟨rfl, rfl⟩

end Sys2Proof.Machine

/-!
PROOFS. The writes of the tables (R172): the records a write covers, each stored within its ranges, and what each block does with them.
-/

namespace Sys2Proof.Machine

/-! ## The checks of a write (R171, R172) -/

section
variable {s : State} {tag : Byte} {p : List Byte} {code : ReplyCode}

theorem tableWrite_fits (h : 3 ≤ p.length) : RequestKind.tableWrite.fits p = true := decide_eq_true h

theorem exec_tableWrite_refused (ht : s.takes (.tableWrite tag p) = true) (hlen : 3 ≤ p.length)
    (ho : tableWriteOwner p s.popped = refuse s.popped code) :
    exec (.tableWrite tag p) s = .next (s.refused (.tableWrite tag p) code) :=
  exec_commandOf_refused (k := .tableWrite) ht ((if_pos (tableWrite_fits hlen)).trans ho)

theorem exec_tableWrite_answered {t : State} {data : List Byte} (ht : s.takes (.tableWrite tag p) = true) (hlen : 3 ≤ p.length)
    (ho : tableWriteOwner p s.popped = { state := t, code, data })
    (hopen : t.resetHeld = s.resetHeld ∧ t.link.restart = s.link.restart) :
    exec (.tableWrite tag p) s = .next (t.replied (.tableWrite tag p) code data) :=
  exec_commandOf_answered (k := .tableWrite) ht ((if_pos (tableWrite_fits hlen)).trans ho) hopen

theorem tableWriteOwner_uncovered (h : covered p = none) : tableWriteOwner p s = refuse s .badValue := by
  unfold tableWriteOwner
  rw [h]

theorem tableWriteOwner_layout (h : u8At p 0 = 0) : tableWriteOwner p s = refuse s .badValue := by
  unfold tableWriteOwner
  rw [covered_eq (t := .layout) (by rw [h]; rfl)]
  split
  · next c hc =>
    split at hc
    · cases hc
    · cases hc
      rfl
  · rfl

section
variable {t : Table} (ht : tableOf (u8At p 0) = some t) (hlayout : t ≠ .layout) (hcount : u8At p 1 + (u8At p 2 + 1) ≤ t.count)
  (hsize : (u8At p 2 + 1) * t.size ≤ 245)
include ht hlayout hcount hsize

theorem tableWriteOwner_badLength (hlen : p.length ≠ 3 + (u8At p 2 + 1) * t.size) : tableWriteOwner p s = refuse s .badLength := by
  unfold tableWriteOwner
  rw [covered_taken ht hcount hsize]
  exact (if_neg hlayout).trans (if_pos hlen)

theorem tableWriteOwner_table (hlen : p.length = 3 + (u8At p 2 + 1) * t.size) :
    tableWriteOwner p s = writeTable { table := t, first := u8At p 1, count := u8At p 2 + 1 } (p.drop 3) s := by
  unfold tableWriteOwner
  rw [covered_taken ht hcount hsize]
  exact (if_neg hlayout).trans (if_neg (not_not.mpr hlen))

end

end

/-! ## The SHOP table -/

/-- The SHOP record within its ranges, field by field. -/
theorem ShopRec.clamped_eq (r : ShopRec) : r.clamped =
    { c10 := min 120 (max 50 r.c10), h := min 1600 (max 900 r.h), tMelt := min 13500 (max 11500 r.tMelt)
      dipAgeMax := min 1800 (max 60 r.dipAgeMax), driftTol := min 1000 (max 50 r.driftTol)
      transferDrop := min 600 r.transferDrop, minDwell := min 600 r.minDwell
      contract := if r.contract = 0 then 0 else min 16000 (max 500 r.contract)
      interval := min 3600 (max 300 (r.interval / 60 * 60)), baseLoad := min 5000 r.baseLoad
      holdReserve := min 2000 r.holdReserve, demandSync := r.demandSync, lInst := min 16000 (max 500 r.lInst)
      coolStart := min 450 (max 200 r.coolStart), coolStop := min 600 (max (min 450 (max 200 r.coolStart) + 20) r.coolStop)
      reservoir := min 50000 (max 500 r.reservoir), permitTime := min 600 (max 30 r.permitTime), expiryLimit := min 9 (max 1 r.expiryLimit)
      silenceTime := min 60 (max 2 r.silenceTime) } := by
  simp only [ShopRec.clamped, contractFor, clampTo, Nat.zero_max]

theorem shopStored_eq (s : State) (new : ShopRec) : s.shopStored new =
    { s with
      cfg := { s.cfg with shop := new }
      heats := (s.shopStored new).heats
      alloc := { s.alloc with syncLost := s.alloc.syncLost && !(s.cfg.shop.demandSync && !new.demandSync) }
      link := { s.link with silenceTimer := if s.link.silent then s.link.silenceTimer else some (new.silenceTime * 1000) } } := by
  unfold State.shopStored
  simp only
  split <;> rfl

theorem shopStored_heat (s : State) (new : ShopRec) (st : Station) : (s.shopStored new).heat st =
    if new.tMelt ≠ s.cfg.shop.tMelt ∧ 0 < (s.record st).solid then { s.heat st with record := { s.record st with tEst := new.tMelt } }
    else s.heat st := by
  have hmoved : ∀ h : StationHeat, moveMelting new.tMelt h =
      if 0 < h.record.solid then { h with record := { h.record with tEst := new.tMelt } } else h := fun _ => rfl
  unfold State.shopStored
  simp only
  by_cases hsame : new.tMelt = s.cfg.shop.tMelt
  · rw [if_pos hsame, if_neg (fun h => h.1 hsame)]
    rfl
  · rw [if_neg hsame]
    show look (overAll (moveMelting new.tMelt) s.heats) st = _
    rw [look_overAll, hmoved]
    by_cases hsolid : 0 < (s.record st).solid
    · exact (if_pos hsolid).trans (if_pos ⟨hsame, hsolid⟩).symm
    · exact (if_neg hsolid).trans (if_neg (fun h => hsolid h.2)).symm

theorem writeCode_cases {α : Type} [DecidableEq α] (xs ys : List α) : writeCode xs ys = .ok ∨ writeCode xs ys = .clamped := by
  unfold writeCode
  split
  · exact .inl rfl
  · exact .inr rfl

theorem writeCode_ok {α : Type} [DecidableEq α] {xs ys : List α} : writeCode xs ys = .ok ↔ xs = ys := by
  unfold writeCode
  split
  · next h => exact ⟨fun _ => h, fun _ => rfl⟩
  · next h => exact ⟨fun hc => ReplyCode.noConfusion hc, fun hc => absurd hc h⟩

section
variable {s : State} {b : List Byte}

theorem writeShop_refused (hlen : b.length = 34) (h : shopOf b = none) : writeShop b s = refuse s .badValue := by
  have hread : recordsOf shopOf 34 1 b = none := by
    rw [recordsOf, List.take_of_length_le (Nat.le_of_eq hlen), h]
  unfold writeShop
  rw [hread]
  rfl

theorem writeShop_taken (hlen : b.length = 34) {r : ShopRec} (h : shopOf b = some r) : writeShop b s =
    { state := takeShop r.clamped s, code := writeCode [r] [r.clamped], data := [] } := by
  have hread : recordsOf shopOf 34 1 b = some [r] := by
    rw [recordsOf, List.take_of_length_le (Nat.le_of_eq hlen), h]
    rfl
  unfold writeShop
  rw [hread]
  rfl

end

/-- Settles O27: the checks in their order, then one SHOP record stored as `State.shopStored` has it and both units evaluated. -/
theorem shopTableIsWritten : Obligations.ShopTableIsWritten := by
  intro s tag p c ht hlen
  refine ⟨fun h => exec_tableWrite_refused ht hlen ?noTable, fun t htable hlayout => ⟨fun h => exec_tableWrite_refused ht hlen ?uncovered,
    fun hcount hsize hbad => exec_tableWrite_refused ht hlen ?length⟩, fun hshop hfirst hcount hbytes => ?shop⟩
  case noTable => exact h.elim tableWriteOwner_layout (fun hn => tableWriteOwner_uncovered (covered_noTable hn))
  case uncovered => exact tableWriteOwner_uncovered (covered_refused htable h)
  case length => exact tableWriteOwner_badLength htable hlayout hcount hsize hbad
  case shop =>
    have htable : tableOf (u8At p 0) = some .shop := by rw [hshop]; rfl
    have hcovers : u8At p 1 + (u8At p 2 + 1) ≤ Table.shop.count := by rw [hfirst, hcount]; decide
    have hsize : (u8At p 2 + 1) * Table.shop.size ≤ 245 := by rw [hcount]; decide
    have howner : tableWriteOwner p s.popped = writeShop (p.drop 3) s.popped :=
      tableWriteOwner_table htable (by decide) hcovers hsize (by rw [hcount, hbytes]; decide)
    have hrecord : (p.drop 3).length = 34 := by rw [List.length_drop, hbytes]
    refine ⟨fun hnone => exec_tableWrite_refused ht hlen (howner.trans (writeShop_refused hrecord hnone)), fun r hr => ?_⟩
    intro start kept
    have hkept : r.clamped = kept := r.clamped_eq
    refine ⟨(s.popped.shopStored kept).heats, shopStored_heat s.popped kept, ?_⟩
    have htaken : takeShop kept s.popped = autoEvaluate 1 (autoEvaluate 0 (s.popped.shopStored kept)) := rfl
    have hsync : kept.demandSync = r.demandSync := rfl
    have hcode : writeCode [r] [kept] = if kept = r then .ok else .clamped := by
      simp only [writeCode, List.cons.injEq, and_true, eq_comm]
    have hopen := ((takeShop_shared s.popped kept).internal.open)
    rw [shopStored_resetHeld, shopStored_link] at hopen
    rw [← hcode, ← hsync]
    refine (exec_tableWrite_answered ht hlen (howner.trans (writeShop_taken hrecord hr)) ?_).trans ?_
    · rw [hkept]
      exact hopen
    · rw [hkept, htaken, shopStored_eq s.popped kept]
      rfl

end Sys2Proof.Machine

/-!
PROOFS. The writes of the STATION, UNIT, CIRCUIT, PROGRAM, GRADE and LINING tables.
-/

namespace Sys2Proof.Machine

/-! ## A run of records stored -/

/-- The bytes of the record at a place of the table, in a write from a first place on. -/
def recordBytes (p : List Byte) (first size i : Nat) : List Byte := ((p.drop 3).drop ((i - first) * size)).take size

section
variable {α : Type} {n first count size : Nat} {parse : List Byte → Option α} {p : List Byte} {xs ys : List α} {old : Bank α n}

/-- A write that can be read has a record for every place it covers. -/
theorem recordsOf_read (hfits : first + count ≤ n)
    (hall : ∀ i : Fin n, (first ≤ i.val ∧ i.val < first + count) → parse (recordBytes p first size i.val) ≠ none) :
    ∃ xs, recordsOf parse size count (p.drop 3) = some xs := by
  cases hread : recordsOf parse size count (p.drop 3) with
  | some xs => exact ⟨xs, rfl⟩
  | none =>
    obtain ⟨j, hj, hnone⟩ := recordsOf_eq_none.mp hread
    have hbytes : recordBytes p first size (first + j) = ((p.drop 3).drop (j * size)).take size := by
      unfold recordBytes
      rw [Nat.add_sub_cancel_left]
    exact absurd (hbytes ▸ hnone) (hall ⟨first + j, by omega⟩ ⟨Nat.le_add_right _ _, Nat.add_lt_add_left hj _⟩)

/-- A write with a record that cannot be read cannot be read. -/
theorem recordsOf_unread {i : Fin n} (hi : first ≤ i.val ∧ i.val < first + count) (hnone : parse (recordBytes p first size i.val) = none) :
    recordsOf parse size count (p.drop 3) = none := recordsOf_eq_none.mpr ⟨i.val - first, by omega, hnone⟩

/-- Each covered place takes its own record as kept, and every other place stays. -/
theorem storeFrom_stored (hread : recordsOf parse size count (p.drop 3) = some xs) {kept : Fin n → α → α} (hlen : ys.length = count)
    (hys : ∀ (i : Fin n) x, first ≤ i.val → xs[i.val - first]? = some x → ys[i.val - first]? = some (kept i x)) (i : Fin n) :
    ((first ≤ i.val ∧ i.val < first + count) →
      ∃ x, parse (recordBytes p first size i.val) = some x ∧ look (storeFrom old first ys) i = kept i x) ∧
    (¬ (first ≤ i.val ∧ i.val < first + count) → look (storeFrom old first ys) i = look old i) := by
  obtain ⟨hcount, hget⟩ := recordsOf_get hread
  refine ⟨fun hi => ?_, fun hi => look_storeFrom_outside (by rw [hlen]; exact hi)⟩
  have hj : i.val - first < xs.length := by omega
  have hx : xs[i.val - first]? = some xs[i.val - first] := List.getElem?_eq_getElem hj
  exact ⟨xs[i.val - first], (hget _ (by omega)).trans hx, look_storeFrom_inside hi.1 (hys i _ hi.1 hx)⟩

/-- The reply is OK where every record is stored as it was written (R172). -/
theorem writeCode_stored [DecidableEq α] (hread : recordsOf parse size count (p.drop 3) = some xs) (hfits : first + count ≤ n)
    (hlen : ys.length = count) : writeCode xs ys = .ok ↔ ∀ i : Fin n, (first ≤ i.val ∧ i.val < first + count) →
      parse (recordBytes p first size i.val) = some (look (storeFrom old first ys) i) := by
  obtain ⟨hcount, hget⟩ := recordsOf_get hread
  have hstored : ∀ i : Fin n, (first ≤ i.val ∧ i.val < first + count) →
      ys[i.val - first]? = some (look (storeFrom old first ys) i) := fun i hi => by
    have hj : i.val - first < ys.length := by omega
    have hy : ys[i.val - first]? = some ys[i.val - first] := List.getElem?_eq_getElem hj
    rw [hy, look_storeFrom_inside hi.1 hy]
  rw [writeCode_ok]
  constructor
  · rintro rfl i hi
    exact (hget _ (by omega)).trans (hstored i hi)
  · intro h
    refine List.ext_getElem? (fun j => ?_)
    by_cases hj : j < count
    · have hi : first ≤ first + j ∧ first + j < first + count := by omega
      have hstored := hstored ⟨first + j, by omega⟩ hi
      have hparsed := (h ⟨first + j, by omega⟩ hi).symm.trans (hget (first + j - first) (by omega))
      simp only [Nat.add_sub_cancel_left] at hstored hparsed
      rw [hstored, hparsed]
    · rw [List.getElem?_eq_none (by omega), List.getElem?_eq_none (by omega)]

/-- Records kept one by one, whatever their place. -/
theorem map_kept {f : α → α} (i : Nat) (x : α) (h : xs[i]? = some x) : (xs.map f)[i]? = some (f x) := by
  rw [List.getElem?_map, h]
  rfl

end

/-! ## The tables one by one -/

section
variable {s : State} {p : List Byte} {first count : Nat}

theorem StationRec.clamped_eq (capacity : Nat) (r : StationRec) : r.clamped capacity =
    { lRef := min 400 (max 20 r.lRef), eta := min 950 (max 500 r.eta), heelMin := min (capacity / 2) r.heelMin,
      coilMinFlow := min 10000 r.coilMinFlow, mask := r.mask } := by
  simp only [StationRec.clamped, clampTo, Nat.zero_max]

theorem UnitRec.clamped_eq (r : UnitRec) : r.clamped =
    { minPower := min 200 (max 50 r.minPower), rampRate := min 2000 (max 10 r.rampRate), travelTime := min 20 (max 2 r.travelTime),
      mode := r.mode } := rfl

theorem ProgramRec.clamped_eq (r : ProgramRec) : r.clamped =
    { r with hysteresis := min 1000 r.hysteresis, debounce := min 60 (max 1 r.debounce), percent := min 90 r.percent,
             staleLimit := min 60 (max 1 r.staleLimit) } := by
  simp only [ProgramRec.clamped, clampTo, Nat.zero_max]

theorem GradeRec.clamped_eq (r : GradeRec) : r.clamped =
    { tapTarget := min 16000 (max 13000 r.tapTarget), tapWindow := min 300 (max 20 r.tapWindow),
      holdTarget := min 15500 (max 12500 r.holdTarget), holdBand := min 300 (max 20 r.holdBand),
      maximum := min 16500 (max 13500 r.maximum) } := rfl

theorem LiningRec.clamped_eq (r : LiningRec) : r.clamped = { r with peak := min 16500 r.peak } := by
  simp only [LiningRec.clamped, clampTo, Nat.zero_max]

/-- Each record of a STATION write is kept within the ranges of its own station. -/
theorem stations_kept (hfits : first + count ≤ 4) {xs : List StationRec} (hlen : xs.length = count) (capacity : Station → Nat) :
    (List.zipWith (fun st r => r.clamped (capacity st)) (coveredStations first count) xs).length = count ∧
      ∀ (st : Station) r, first ≤ st.val → xs[st.val - first]? = some r →
        (List.zipWith (fun st r => r.clamped (capacity st)) (coveredStations first count) xs)[st.val - first]? =
          some (r.clamped (capacity st)) := by
  refine ⟨by simp [coveredStations_length hfits, hlen], fun st r hst hr => ?_⟩
  have hj : st.val - first < count := by
    rw [← hlen]
    exact (List.getElem?_eq_some_iff.mp hr).1
  rw [List.getElem?_zipWith, coveredStations_get hfits hst (by omega), hr]

theorem foldl_rewriteRun_alone (ks : List Program) (x : State) : ks.foldl rewriteRun x = { x with runs := (ks.foldl rewriteRun x).runs } :=
  List.foldlRecOn (motive := fun y : State => y = { x with runs := y.runs }) ks rewriteRun rfl (fun y hy k _ => by
    unfold rewriteRun State.onRun
    rw [hy])

theorem mem_coveredPrograms {w : Program} : w ∈ coveredPrograms first count ↔ first ≤ w.val ∧ w.val < first + count := by
  simp [coveredPrograms, mem_allPrograms]

theorem mem_coveredStations {st : Station} : st ∈ coveredStations first count ↔ first ≤ st.val ∧ st.val < first + count := by
  simp [coveredStations, mem_allStations]

theorem trips_iff {a : Action} : a.trips = true ↔ a = .trip ∨ a = .emergency := by
  cases a <;> simp [Action.trips]

theorem GradeRec.fits_iff {r : GradeRec} : r.fits = true ↔
    r.holdTarget + r.holdBand + r.tapWindow ≤ r.tapTarget ∧ r.tapTarget + r.tapWindow ≤ r.maximum := by
  simp [GradeRec.fits]

theorem liningOpen_iff {st : Station} : s.liningOpen st = true ↔ s.phase st = .off ∨ s.phase st = .empty := by
  simp [State.liningOpen]

/-- The notice of a lining that becomes spent by a write that leaves `v` (R11). -/
def reportSpent (old v : Bank LiningRec 4) (x : State) (st : Station) : State :=
  if (look old st).spent = false ∧ (look v st).spent = true then
    x.notify .lining (stationCode st) (nat (look v st).melted) (nat (look v st).limit) none
  else x

theorem reportSpent_linings (old v : Bank LiningRec 4) (x : State) (st : Station) : (reportSpent old v x st).linings = x.linings := by
  unfold reportSpent
  split <;> rfl

theorem liningEdge_eq {old v : Bank LiningRec 4} {x : State} (hx : x.linings = v) (st : Station) :
    liningEdge st (look old st) x = reportSpent old v x st := by
  subst hx
  unfold liningEdge reportSpent
  simp only [Bool.and_eq_true, Bool.not_eq_true']
  rfl

/-- The covered linings are judged in station order; the others have not changed, and are not reported. -/
theorem liningEdges_eq {old v : Bank LiningRec 4} (hv : ∀ st : Station, ¬ (first ≤ st.val ∧ st.val < first + count) → look v st = look old st)
    (x : State) (hx : x.linings = v) :
    (coveredStations first count).foldl (fun y st => liningEdge st (look old st) y) x = allStations.foldl (reportSpent old v) x := by
  unfold coveredStations
  generalize allStations = sts
  induction sts generalizing x with
  | nil => rfl
  | cons st sts ih =>
    have hnext : (reportSpent old v x st).linings = v := (reportSpent_linings old v x st).trans hx
    rw [List.foldl_cons, ← ih _ hnext, List.filter_cons]
    by_cases hin : first ≤ st.val ∧ st.val < first + count
    · rw [if_pos (by simpa using hin), List.foldl_cons, liningEdge_eq hx]
    · have hstill : reportSpent old v x st = x := by
        refine if_neg (fun h => ?_)
        rw [hv st hin, h.1] at h
        exact Bool.noConfusion h.2
      rw [if_neg (by simpa using hin), hstill]

end

/-! ## What the writes answer -/

section
variable {s : State} {first count : Nat} {b : List Byte}

theorem writeUnit_unread (h : recordsOf unitRecOf 5 count b = none) : writeUnit first count b s = refuse s .badValue := by
  unfold writeUnit
  rw [h]
  rfl

theorem writeUnit_read {xs : List UnitRec} (h : recordsOf unitRecOf 5 count b = some xs) : writeUnit first count b s =
    { state := (coveredUnits first count).foldl (fun s u => autoEvaluate u s)
        (s.onCfg (fun c => { c with units := storeFrom c.units first (xs.map UnitRec.clamped) }))
      code := writeCode xs (xs.map UnitRec.clamped), data := [] } := by
  unfold writeUnit
  rw [h]
  rfl

theorem writeStation_read {xs : List StationRec} (h : recordsOf stationRecOf 9 count b = some xs) : writeStation first count b s =
    { state := reexamine (s.onCfg (fun c =>
        { c with stations := storeFrom c.stations first (List.zipWith (fun st r => r.clamped (s.capacity st)) (coveredStations first count) xs) }))
      code := writeCode xs (List.zipWith (fun st r => r.clamped (s.capacity st)) (coveredStations first count) xs), data := [] } := by
  unfold writeStation
  rw [h]
  rfl

theorem writeCircuit_read {xs : List Nat} (h : recordsOf circuitRecOf 4 count b = some xs) : writeCircuit first count b s =
    { state := s.onCfg (fun c => { c with circuits := storeFrom c.circuits first (xs.map pulsesClamped) })
      code := writeCode xs (xs.map pulsesClamped), data := [] } := by
  unfold writeCircuit
  rw [h]
  rfl

theorem writeProgram_unread (h : recordsOf programRecOf 19 count b = none) : writeProgram first count b s = refuse s .badValue := by
  unfold writeProgram
  rw [h]
  rfl

theorem writeProgram_busy {xs : List ProgramRec} (h : recordsOf programRecOf 19 count b = some xs)
    (hbusy : ∃ w : Program, (first ≤ w.val ∧ w.val < first + count) ∧ (s.held w = .trip ∨ s.held w = .emergency)) :
    writeProgram first count b s = refuse s .busy := by
  obtain ⟨w, hw, hheld⟩ := hbusy
  unfold writeProgram
  rw [h]
  exact if_pos (List.any_eq_true.mpr ⟨w, mem_coveredPrograms.mpr hw, trips_iff.mpr hheld⟩)

theorem writeProgram_read {xs : List ProgramRec} (h : recordsOf programRecOf 19 count b = some xs)
    (hfree : ∀ w : Program, (first ≤ w.val ∧ w.val < first + count) → s.held w ≠ .trip ∧ s.held w ≠ .emergency) :
    writeProgram first count b s =
      { state := (coveredPrograms first count).foldl rewriteRun
          (s.onCfg (fun c => { c with programs := storeFrom c.programs first (xs.map ProgramRec.clamped) }))
        code := writeCode xs (xs.map ProgramRec.clamped), data := [] } := by
  unfold writeProgram
  rw [h]
  refine if_neg (fun hany => ?_)
  obtain ⟨w, hw, htrips⟩ := List.any_eq_true.mp hany
  exact (trips_iff.mp htrips).elim (hfree w (mem_coveredPrograms.mp hw)).1 (hfree w (mem_coveredPrograms.mp hw)).2

theorem writeGrade_read {xs : List GradeRec} (h : recordsOf gradeRecOf 10 count b = some xs) : writeGrade first count b s =
    if (xs.map GradeRec.clamped).all GradeRec.fits then
      { state := s.onCfg (fun c => { c with grades := storeFrom c.grades first (xs.map GradeRec.clamped) })
        code := writeCode xs (xs.map GradeRec.clamped), data := [] }
    else refuse s .badValue := by
  unfold writeGrade
  rw [h]
  rfl

/-- The records of a GRADE write keep R23 where those stored do. -/
theorem grades_fit {ys : List GradeRec} (hlen : ys.length = count) (hfits : first + count ≤ 16) (old : Bank GradeRec 16) :
    ys.all GradeRec.fits = true ↔ ∀ g : Grade, (first ≤ g.val ∧ g.val < first + count) → (look (storeFrom old first ys) g).fits = true := by
  rw [List.all_eq_true]
  constructor
  · intro h g hg
    have hj : g.val - first < ys.length := by omega
    rw [look_storeFrom_inside hg.1 (List.getElem?_eq_getElem hj)]
    exact h _ (List.getElem_mem hj)
  · intro h y hy
    obtain ⟨j, hj, rfl⟩ := List.mem_iff_getElem.mp hy
    have hplace : ys[first + j - first]? = some ys[j] := by
      rw [Nat.add_sub_cancel_left]
      exact List.getElem?_eq_getElem hj
    have hstored := h ⟨first + j, by omega⟩ ⟨Nat.le_add_right _ _, by show first + j < first + count; omega⟩
    rwa [look_storeFrom_inside (Nat.le_add_right _ _) hplace] at hstored

theorem writeLining_metal {xs : List LiningRec} (h : recordsOf liningRecOf 14 count b = some xs)
    (hmetal : ∃ st : Station, (first ≤ st.val ∧ st.val < first + count) ∧ s.phase st ≠ .off ∧ s.phase st ≠ .empty) :
    writeLining first count b s = refuse s .metalPresent := by
  obtain ⟨st, hst, hoff, hempty⟩ := hmetal
  unfold writeLining
  rw [h]
  refine if_neg (fun hall => ?_)
  exact (liningOpen_iff.mp (List.all_eq_true.mp hall st (mem_coveredStations.mpr hst))).elim hoff hempty

theorem writeLining_read {xs : List LiningRec} (h : recordsOf liningRecOf 14 count b = some xs)
    (hopen : ∀ st : Station, (first ≤ st.val ∧ st.val < first + count) → s.phase st = .off ∨ s.phase st = .empty) :
    writeLining first count b s =
      { state := (coveredStations first count).foldl (fun s' st => liningEdge st (look s.linings st) s')
          { s with linings := storeFrom s.linings first (xs.map LiningRec.clamped) }
        code := writeCode xs (xs.map LiningRec.clamped), data := [] } := by
  unfold writeLining
  rw [h]
  exact if_pos (List.all_eq_true.mpr (fun st hst => liningOpen_iff.mpr (hopen st (mem_coveredStations.mp hst))))

end

/-- Settles O28: what each table stores is `storeFrom` of the kept records, read place by place; then each block's own work. -/
theorem otherTablesAreWritten : Obligations.OtherTablesAreWritten := by
  intro s tag p c first count inside bytes ht
  have howner : ∀ t : Table, tableOf (u8At p 0) = some t → t ≠ .layout → first + count ≤ t.count → count * t.size ≤ 245 →
      p.length = 3 + count * t.size → tableWriteOwner p s.popped = writeTable { table := t, first, count } (p.drop 3) s.popped :=
    fun t htable hlayout hcount hsize hlen => tableWriteOwner_table htable hlayout hcount hsize hlen
  refine ⟨fun htable hfits hlen => ?station, fun htable hfits hlen => ?unit, fun htable hfits hlen => ?circuit,
    fun htable hfits hsize hlen => ?program, fun htable hfits hlen => ?grade, fun htable hfits hlen => ?lining⟩
  case station =>
    have ho := howner .station (by rw [htable]; rfl) (by decide) hfits (by show count * 9 ≤ 245; omega) hlen
    obtain ⟨xs, hxs⟩ := recordsOf_read (parse := stationRecOf) (size := 9) (p := p) (n := 4) hfits (fun _ _ => Option.some_ne_none _)
    obtain ⟨hkept, hys⟩ := stations_kept hfits (recordsOf_get hxs).1 s.capacity
    refine ⟨storeFrom s.cfg.stations first (List.zipWith (fun st r => r.clamped (s.capacity st)) (coveredStations first count) xs),
      fun st => ?_, _, writeCode_cases xs _, writeCode_stored (n := 4) hxs hfits hkept, ?_⟩
    · have hstored := storeFrom_stored (old := s.cfg.stations) hxs hkept hys st
      simp only [StationRec.clamped_eq (s.capacity st)] at hstored
      exact hstored
    · exact exec_tableWrite_answered ht (by omega) (ho.trans (writeStation_read hxs)) (reexamine_internal _).open
  case unit =>
    have ho := howner .unit (by rw [htable]; rfl) (by decide) hfits (by show count * 5 ≤ 245; omega) hlen
    refine ⟨fun ⟨u, hu, hnone⟩ => ?_, fun hgood => ?_⟩
    · exact exec_tableWrite_refused ht (by omega) (ho.trans (writeUnit_unread (recordsOf_unread (n := 2) hu hnone)))
    · obtain ⟨xs, hxs⟩ := recordsOf_read (parse := unitRecOf) (size := 5) (p := p) (n := 2) hfits hgood
      have hkept : (xs.map UnitRec.clamped).length = count := by rw [List.length_map, (recordsOf_get hxs).1]
      refine ⟨storeFrom s.cfg.units first (xs.map UnitRec.clamped),
        fun u => storeFrom_stored (kept := fun _ r => r.clamped) hxs hkept (fun _ x _ hx => map_kept _ x hx) u, _, writeCode_cases xs _,
        writeCode_stored (n := 2) hxs hfits hkept, ?_⟩
      have hfilter : coveredUnits first count = allUnits.filter (fun u => first ≤ u.val ∧ u.val < first + count) := by
        simp only [coveredUnits, Bool.decide_and]
      rw [← hfilter]
      exact exec_tableWrite_answered ht (by omega) (ho.trans (writeUnit_read hxs)) (evaluateAll_shared _ _).internal.open
  case circuit =>
    have ho := howner .circuit (by rw [htable]; rfl) (by decide) hfits (by show count * 4 ≤ 245; omega) hlen
    obtain ⟨xs, hxs⟩ := recordsOf_read (parse := circuitRecOf) (size := 4) (p := p) (n := 10) hfits (fun _ _ => Option.some_ne_none _)
    have hkept : (xs.map pulsesClamped).length = count := by rw [List.length_map, (recordsOf_get hxs).1]
    have hstored := fun k => storeFrom_stored (first := first) (old := s.cfg.circuits) (kept := fun _ r => pulsesClamped r) hxs hkept
      (fun _ x _ hx => map_kept _ x hx) k
    refine ⟨storeFrom s.cfg.circuits first (xs.map pulsesClamped), fun k => ⟨fun hk => ?_, (hstored k).2⟩, writeCode xs (xs.map pulsesClamped),
        writeCode_cases xs (xs.map pulsesClamped), ?_, ?_⟩
    · obtain ⟨r, hr, hlook⟩ := (hstored k).1 hk
      cases hr
      exact hlook
    · rw [writeCode_stored (n := 10) (old := s.cfg.circuits) hxs hfits hkept]
      exact forall₂_congr (fun k hk => Option.some_inj.trans eq_comm)
    · exact exec_tableWrite_answered ht (by omega) (ho.trans (writeCircuit_read hxs)) ⟨rfl, rfl⟩
  case program =>
    have ho := howner .program (by rw [htable]; rfl) (by decide) hfits hsize hlen
    refine ⟨fun ⟨w, hw, hnone⟩ => ?_, fun hgood => ?_⟩
    · exact exec_tableWrite_refused ht (by omega) (ho.trans (writeProgram_unread (recordsOf_unread (n := 16) hw hnone)))
    · obtain ⟨xs, hxs⟩ := recordsOf_read (parse := programRecOf) (size := 19) (p := p) (n := 16) hfits hgood
      have hkept : (xs.map ProgramRec.clamped).length = count := by rw [List.length_map, (recordsOf_get hxs).1]
      refine ⟨fun hbusy => exec_tableWrite_refused ht (by omega) (ho.trans (writeProgram_busy hxs hbusy)), fun hfree => ?_⟩
      have hstored := fun w => storeFrom_stored (first := first) (old := s.cfg.programs) (kept := fun _ r => r.clamped) hxs hkept
        (fun _ x _ hx => map_kept _ x hx) w
      simp only [ProgramRec.clamped_eq] at hstored
      refine ⟨storeFrom s.cfg.programs first (xs.map ProgramRec.clamped),
        ((coveredPrograms first count).foldl rewriteRun
          (s.popped.onCfg (fun c => { c with programs := storeFrom c.programs first (xs.map ProgramRec.clamped) }))).runs,
        hstored, fun w => ?_, _, writeCode_cases xs _, writeCode_stored (n := 16) hxs hfits hkept, ?_⟩
      · refine (rewriteRuns_run _ _ w).trans ?_
        simp only [mem_coveredPrograms, State.startRun, State.live, Bool.and_eq_true, Bool.not_eq_true']
        rfl
      · rw [exec_tableWrite_answered ht (by omega) (ho.trans (writeProgram_read hxs hfree)) (rewriteRuns_deed _ _).open,
          foldl_rewriteRun_alone]
        rfl
  case grade =>
    have ho := howner .grade (by rw [htable]; rfl) (by decide) hfits (by show count * 10 ≤ 245; omega) hlen
    obtain ⟨xs, hxs⟩ := recordsOf_read (parse := gradeRecOf) (size := 10) (p := p) (n := 16) hfits (fun _ _ => Option.some_ne_none _)
    have hkept : (xs.map GradeRec.clamped).length = count := by rw [List.length_map, (recordsOf_get hxs).1]
    have hfit := grades_fit hkept hfits s.cfg.grades
    simp only [GradeRec.fits_iff] at hfit
    refine ⟨storeFrom s.cfg.grades first (xs.map GradeRec.clamped),
      fun g => storeFrom_stored (kept := fun _ r => r.clamped) hxs hkept (fun _ x _ hx => map_kept _ x hx) g, fun ⟨g, hg, hbad⟩ => ?_,
      fun hgood => ⟨_, writeCode_cases xs _, writeCode_stored (n := 16) hxs hfits hkept, ?_⟩⟩
    · exact exec_tableWrite_refused ht (by omega)
        (ho.trans ((writeGrade_read hxs).trans (if_neg (fun hall => hbad (hfit.mp hall g hg)))))
    · exact exec_tableWrite_answered ht (by omega) (ho.trans ((writeGrade_read hxs).trans (if_pos (hfit.mpr hgood)))) ⟨rfl, rfl⟩
  case lining =>
    have ho := howner .lining (by rw [htable]; rfl) (by decide) hfits (by show count * 14 ≤ 245; omega) hlen
    obtain ⟨xs, hxs⟩ := recordsOf_read (parse := liningRecOf) (size := 14) (p := p) (n := 4) hfits (fun _ _ => Option.some_ne_none _)
    have hkept : (xs.map LiningRec.clamped).length = count := by rw [List.length_map, (recordsOf_get hxs).1]
    refine ⟨fun hmetal => exec_tableWrite_refused ht (by omega) (ho.trans (writeLining_metal hxs hmetal)), fun hopen => ?_⟩
    have hstored := fun st => storeFrom_stored (first := first) (old := s.linings) (kept := fun _ r => r.clamped) hxs hkept
      (fun _ x _ hx => map_kept _ x hx) st
    refine ⟨storeFrom s.linings first (xs.map LiningRec.clamped), fun st => ?_, _, writeCode_cases xs _,
      writeCode_stored (n := 4) hxs hfits hkept, ?_⟩
    · have hst := hstored st
      simp only [LiningRec.clamped_eq] at hst
      exact hst
    · rw [exec_tableWrite_answered ht (by omega) (ho.trans (writeLining_read hxs hopen)) (liningEdges_shared _ s.popped _).internal.open]
      exact congrArg (fun x : State => Host.Outcome.next (x.replied c (writeCode xs _) []))
        (liningEdges_eq (fun st => (hstored st).2) _ rfl)

end Sys2Proof.Machine

/-!
PROOFS. The power units (chapter 4): UNIT MODE, the signals a unit drives, its measured power and timers, its contacts, its fault lines.
-/

namespace Sys2Proof.Machine

section
variable {s : State} {u : UnitId} {p : List Byte}

/-! ## UNIT MODE (R87) -/

theorem unitModeOwner_badValue (hl : s.cfg.layout.loaded = true) (hu : u8At p 0 = unitCode u) (h : 1 < u8At p 1) :
    unitModeOwner p s = refuse s .badValue := by
  have hnone : unitModeOf (u8At p 1) = none := by
    obtain ⟨n, hn⟩ : ∃ n, u8At p 1 = n + 2 := ⟨u8At p 1 - 2, by omega⟩
    rw [hn]
    rfl
  rw [unitModeOwner, namingUnit_named _ hl hu, hnone]

theorem unitModeOwner_taken {m : UnitMode} (hl : s.cfg.layout.loaded = true) (hu : u8At p 0 = unitCode u)
    (h : unitModeOf (u8At p 1) = some m) : unitModeOwner p s = { state := setMode u m s, code := .ok, data := [] } := by
  rw [unitModeOwner, namingUnit_named _ hl hu, h]

end

/-- Settles O39: each mode code is one of the three, and `setMode` is the record with the mode, then the evaluation for AUTO. -/
theorem unitModeIsSet : Obligations.UnitModeIsSet := by
  intro s tag p u c moded ha hu
  have hl : s.popped.cfg.layout.loaded = true := ha.loaded
  refine ⟨fun h => ?badValue, fun h => ?auto, fun h => ?manual⟩
  case badValue => exact ha.refused (k := .unitMode) rfl (unitModeOwner_badValue hl hu h)
  case auto =>
    exact ha.answered (k := .unitMode) rfl (unitModeOwner_taken (m := .auto) hl hu (by rw [h]; rfl))
      (autoEvaluate_internal (withMode u .auto s.popped) u).open
  case manual => exact ha.answered (k := .unitMode) rfl (unitModeOwner_taken (m := .manual) hl hu (by rw [h]; rfl)) ⟨rfl, rfl⟩

/-! ## The signals a unit drives (R67, R78) -/

section
variable {s : State} {u : UnitId}

/-- Stations are paired with a unit in the order of their numbers. -/
theorem paired_pairwise_lt (s : State) (u : UnitId) : (s.paired u).Pairwise (· < ·) := allStations_pairwise_lt.filter _

theorem paired_lt {x y : Station} (hx : (s.paired u)[0]? = some x) (hy : (s.paired u)[1]? = some y) : x < y := by
  obtain ⟨h0, rfl⟩ := List.getElem?_eq_some_iff.mp hx
  obtain ⟨h1, rfl⟩ := List.getElem?_eq_some_iff.mp hy
  exact List.pairwise_iff_getElem.mp (paired_pairwise_lt s u) 0 1 h0 h1 Nat.zero_lt_one

/-- Without a travel no changeover command line is driven. -/
theorem commandLine_still (h : (s.unit u).travel = none) (b : Bool) : s.commandLine u b = false := by
  rw [State.commandLine, h]

/-- A travel drives the command line of its target's position. -/
theorem commandLine_travel {v : Travel} (h : (s.unit u).travel = some v) (b : Bool) :
    s.commandLine u b = true ↔ (s.paired u)[if b then 1 else 0]? = some v.target := by
  rw [State.commandLine, h]
  exact beq_iff_eq

/-- A travel is under way in INHIBITED and SWITCHING alone. -/
theorem UnitFits.still (h : UnitFits s u) (hinhibited : (s.unit u).state ≠ .inhibited) (hswitching : ∀ t, (s.unit u).state ≠ .switching t) :
    (s.unit u).travel = none := by
  cases htravel : (s.unit u).travel with
  | none => rfl
  | some v => exact ((h.travel v htravel).2.elim hinhibited (hswitching v.target)).elim

end

/-! ## What a changed unit's notices carry (R75, R79) -/

section
variable (s : State) (u : UnitId) (f : PowerUnit → PowerUnit)

theorem noticeChangeover_onUnit (how : ChangeoverEnd) : noticeChangeover u how (s.onUnit u f) =
    (s.onUnit u f).notify .changeover (unitCode u) (some how.code) (some (stationOrNone (f (s.unit u)).origin))
      (some (stationOrNone (f (s.unit u)).position)) := by
  rw [noticeChangeover, unit_onUnit_self]
  rfl

theorem noticeTripClear_onUnit : noticeTripClear u (s.onUnit u f) =
    (s.onUnit u f).notify .tripClear (unitCode u) (some (stationOrNone (f (s.unit u)).position))
      (some (min 65535 ((f (s.unit u)).inhibitedMs / 1000) : Nat)) none := by
  rw [noticeTripClear, unit_onUnit_self]
  rfl

end

/-! ## Measured power and the two timeouts (R25, R77, R78) -/

section
variable {s : State} {u : UnitId}

theorem takePower_low {kw : Nat} {st : Station} (h : (s.unit u).state = .rampDown st) (hlow : min kw (s.powerTop u) ≤ s.decayThreshold u) :
    takePower u kw s = rejudge u (startTravel u st (s.onUnit u (fun p => { p with measured := min kw (s.powerTop u) }))) := by
  simp only [takePower, h, if_pos hlow]

theorem takePower_kept {kw : Nat} (h : ∀ st, (s.unit u).state = .rampDown st → s.decayThreshold u < min kw (s.powerTop u)) :
    takePower u kw s = s.onUnit u (fun p => { p with measured := min kw (s.powerTop u) }) := by
  simp only [takePower]
  split
  · next st hst => exact if_neg (Nat.not_le.mpr (h st hst))
  · rfl

theorem decayExpired_ramp {st : Station} (h : (s.unit u).state = .rampDown st) :
    decayExpired u s = enterInhibited u (some .noDecay) (onCauses u (fun c => { c with noDecay := true }) s) := by
  simp only [decayExpired, h]

theorem decayExpired_still (h : ∀ st, (s.unit u).state ≠ .rampDown st) : decayExpired u s = s := by
  unfold decayExpired
  split
  · next st hst => exact (h st hst).elim
  · rfl

/-- A unit whose travel has run out of time (R78, R81). -/
def PowerUnit.lost (p : PowerUnit) : PowerUnit := { p with position := none, travel := none, causes := { p.causes with switch := true } }

theorem travelExpired_still (h : (s.unit u).travel = none) : travelExpired u s = s := by
  rw [travelExpired, h]

theorem travelExpired_running (h : (s.unit u).travel ≠ none) : travelExpired u s =
    if (s.unit u).state = .inhibited then noticeChangeover u .switchFault (s.onUnit u PowerUnit.lost)
    else enterInhibited u (some .switchFault) (s.onUnit u PowerUnit.lost) := by
  obtain ⟨v, hv⟩ := Option.ne_none_iff_exists'.mp h
  rw [travelExpired, hv]
  rfl

end

/-- Settles O42: each state's signals, and each event's branches by the state and the travel. -/
theorem unitTimersEndRampAndTravel : Obligations.UnitTimersEndRampAndTravel := by
  refine ⟨fun s u h => ?signals, fun s u hheld => ?events⟩
  case signals =>
    intro q outputs at_
    have hquiet : ∀ b, s.commandLine u b = false → (s.commandLine u b = true ↔ False) := fun b hb => by simp [hb]
    refine ⟨fun (hq : (s.unit u).state = .feeding) => ?feeding, fun st (hq : (s.unit u).state = .rampDown st) => ?rampDown,
      fun st (hq : (s.unit u).state = .switching st) => ?switching, fun st (hq : (s.unit u).state = .settling st) => ?settling,
      fun (hq : (s.unit u).state = .inhibited) htravel => ?resting,
      fun (hq : (s.unit u).state = .inhibited) v hv => ?travelling, fun x y hx hy => paired_lt hx hy⟩
    case feeding =>
      have hstill := commandLine_still (h.still (by rw [hq]; nofun) (by rw [hq]; nofun))
      exact ⟨by simp only [State.setpoint, hq, q], by simp [State.inhibitLine, hq], hquiet _ (hstill _), hquiet _ (hstill _)⟩
    case rampDown =>
      have hstill := commandLine_still (h.still (by rw [hq]; nofun) (by rw [hq]; nofun))
      exact ⟨by simp [State.setpoint, hq], by simp [State.inhibitLine, hq], hquiet _ (hstill _), hquiet _ (hstill _)⟩
    case switching =>
      obtain ⟨v, hv, htarget⟩ := Option.map_eq_some_iff.mp (h.switching st hq)
      rw [← htarget]
      exact ⟨by simp [State.setpoint, hq], by simp [State.inhibitLine, hq], commandLine_travel hv false, commandLine_travel hv true⟩
    case settling =>
      have hstill := commandLine_still (h.still (by rw [hq]; nofun) (by rw [hq]; nofun))
      exact ⟨by simp [State.setpoint, hq], by simp [State.inhibitLine, hq], hquiet _ (hstill _), hquiet _ (hstill _)⟩
    case resting =>
      have hstill := commandLine_still htravel
      exact ⟨by simp [State.setpoint, hq], by simp [State.inhibitLine, hq], hquiet _ (hstill _), hquiet _ (hstill _)⟩
    case travelling =>
      exact ⟨by simp [State.setpoint, hq], by simp [State.inhibitLine, hq], commandLine_travel hv false, commandLine_travel hv true⟩
  case events =>
    intro set
    refine ⟨fun kw => ?power, fun ⟨st, hst⟩ => ?decay, fun h => ?noDecay, fun h => ?noTravel, fun h => ?travel⟩
    case power =>
      intro w
      have hexec : exec (.measuredPower u kw) s = .next (nextFrame (takePower u kw s)) := whileRunning_taken (takePower u kw) s hheld
      refine ⟨fun st hst hlow => ?_, fun h => ?_⟩
      · rw [hexec, takePower_low hst hlow, startTravel, onUnit_onUnit]
        rfl
      · rw [hexec, takePower_kept h]
        rfl
    case decay =>
      rw [show exec (.decayTimeout u) s = .next (nextFrame (decayExpired u s)) from whileRunning_taken (decayExpired u) s hheld,
        decayExpired_ramp hst]
      rfl
    case noDecay =>
      rw [show exec (.decayTimeout u) s = .next (nextFrame (decayExpired u s)) from whileRunning_taken (decayExpired u) s hheld,
        decayExpired_still h]
    case noTravel =>
      rw [show exec (.travelTimeout u) s = .next (nextFrame (travelExpired u s)) from whileRunning_taken (travelExpired u) s hheld,
        travelExpired_still h]
    case travel =>
      have hexec : exec (.travelTimeout u) s = .next (nextFrame (travelExpired u s)) := whileRunning_taken (travelExpired u) s hheld
      intro x
      refine ⟨fun hst => ?_, fun hst => ?_⟩
      · rw [hexec, travelExpired_running h, if_neg hst]
        rfl
      · rw [hexec, travelExpired_running h, if_pos hst, noticeChangeover_onUnit]
        rfl

/-! ## Settle and dwell expiry (R79, R85) -/

section
variable {s : State} {u : UnitId}

theorem settled_settling {st : Station} (h : (s.unit u).state = .settling st) :
    settled u s = autoEvaluate u (noticeChangeover u .complete (s.onUnit u (PowerUnit.feed s.cfg.shop.minDwell))) := by
  simp only [settled, h]

theorem settled_still (h : ∀ st, (s.unit u).state ≠ .settling st) : settled u s = s := by
  unfold settled
  split
  · next st hst => exact (h st hst).elim
  · rfl

end

/-- Settles O44: SETTLING decides the settle expiry, `dwellDue` the dwell expiry. -/
theorem settleAndDwellLetTheUnitFeed : Obligations.SettleAndDwellLetTheUnitFeed := by
  intro s u hheld set
  have hsettle : exec (.settleExpiry u) s = .next (nextFrame (settled u s)) := whileRunning_taken (settled u) s hheld
  have hdwell : exec (.dwellExpiry u) s = .next (nextFrame (dwellReached u s)) := whileRunning_taken (dwellReached u) s hheld
  refine ⟨fun ⟨st, hst⟩ => ?settled, fun h => ?notSettling, fun hfeeding hdone hdwelt => ?dwelt, fun h => ?notDue⟩
  case settled =>
    rw [hsettle, settled_settling hst, noticeChangeover_onUnit]
    rfl
  case notSettling => rw [hsettle, settled_still h]
  case dwelt =>
    rw [hdwell, dwellReached, if_pos ((dwellDue_iff s u).mpr ⟨hfeeding, hdone, hdwelt⟩)]
    rfl
  case notDue =>
    rw [hdwell, dwellReached, if_neg]
    rw [dwellDue_iff]
    rintro ⟨hfeeding, hdone, hdwelt⟩
    rcases h with h | h | h
    · exact h hfeeding
    · exact Bool.noConfusion (h.symm.trans hdone)
    · exact absurd hdwelt (Nat.not_le.mpr h)

/-! ## The fault lines (R72, R121) -/

section
variable {s : State}

/-- The pump fault enters PUMP against every unit. -/
theorem pumpEntered_eq (s : State) : pumpEntered s =
    { s with units := overAll (fun q => { q with causes := { q.causes with pump := true } }) s.units } := by
  have hunits : (pumpEntered s).units = overAll (fun q => { q with causes := { q.causes with pump := true } }) s.units := by
    refine bank_ext (fun u => ?_)
    rw [look_overAll]
    fin_cases u <;> simp [pumpEntered, allUnits, onCauses, look_place]
  rw [← hunits]
  rfl

end

/-- Settles O45: each line's level, then its causes, the units re-judged and the valves. -/
theorem faultLinesLatchTheirCauses : Obligations.FaultLinesLatchTheirCauses := by
  intro s hheld
  refine ⟨fun u => ⟨?active, ?inactive⟩, ?pump, ?pumpInactive⟩
  case active => exact whileRunning_taken (fun s => rejudge u (onCauses u (fun c => { c with unitFault := true }) s)) (faultLine u true s) hheld
  case inactive => exact whileRunning_taken (fun s => s) (faultLine u false s) hheld
  case pump =>
    have hexec : exec .pumpFaultActive s = .next (nextFrame (pumpFails (pumpLine true s))) :=
      whileRunning_taken pumpFails (pumpLine true s) hheld
    rw [hexec, pumpFails_eq, pumpEntered_eq]
    rfl
  case pumpInactive => exact whileRunning_taken (fun s => s) (pumpLine false s) hheld

/-! ## The contacts (R70, R78, R81) -/

section
variable {s : State} {u : UnitId}

theorem shown_eq (s : State) (u : UnitId) : s.shown u =
    if (look s.lines.contacts u).a && !(look s.lines.contacts u).b then (s.paired u)[0]?
    else if (look s.lines.contacts u).b && !(look s.lines.contacts u).a then (s.paired u)[1]? else none := by
  unfold State.shown
  generalize look s.lines.contacts u = contacts
  obtain ⟨a, b⟩ := contacts
  cases a <;> cases b <;> rfl

theorem takeContacts_elsewhere {v : Travel} (h : (s.unit u).travel = some v) (hshown : s.shown u ≠ some v.target) : takeContacts u s = s := by
  simp only [takeContacts, h, if_neg hshown]

theorem takeContacts_arrived {v : Travel} (h : (s.unit u).travel = some v) (hshown : s.shown u = some v.target) :
    takeContacts u s = endTravel u v.target s := by
  simp only [takeContacts, h, if_pos hshown]

theorem takeContacts_still (h : (s.unit u).travel = none) : takeContacts u s = followContacts u s := by
  simp only [takeContacts, h]

/-- A unit whose travel is over at a station (R78). -/
def PowerUnit.arrived (t : Station) (p : PowerUnit) : PowerUnit := { p with position := some t, travel := none }

/-- A unit that settles at a station (R78). -/
def PowerUnit.settle (t : Station) (p : PowerUnit) : PowerUnit := { p with state := .settling t, settleTimer := some 2000 }

theorem endTravel_running {t : Station} (h : (s.unit u).state ≠ .inhibited) :
    endTravel u t s = s.onUnit u (fun p => (p.arrived t).settle t) := by
  rw [← onUnit_onUnit]
  unfold endTravel
  split
  · next hst => exact (h hst).elim
  · rfl

theorem endTravel_cleared {t : Station} (h : (s.unit u).state = .inhibited) (hclear : (s.onUnit u (PowerUnit.arrived t)).tripsEmpty u = true) :
    endTravel u t s = reexamine (noticeTripClear u (s.onUnit u (fun p => (p.arrived t).settle t))) := by
  rw [← onUnit_onUnit]
  simp only [endTravel, h]
  exact if_pos hclear

theorem endTravel_tripped {t : Station} (h : (s.unit u).state = .inhibited) (htrips : (s.onUnit u (PowerUnit.arrived t)).tripsEmpty u = false) :
    endTravel u t s = noticeChangeover u .abandoned (s.onUnit u (PowerUnit.arrived t)) := by
  simp only [endTravel, h]
  exact if_neg (Bool.eq_false_iff.mp htrips)

end

/-- Settles O43: the travel and what the contacts show decide among `endTravel`, `followContacts` and nothing. -/
theorem contactsGiveThePosition : Obligations.ContactsGiveThePosition := by
  intro s u a b hheld c x set shows
  have hexec : exec c s = .next (nextFrame (if x.used u then takeContacts u x else x)) :=
    whileRunning_taken (fun s => if s.used u then takeContacts u s else s) x hheld
  have hcontacts : look x.lines.contacts u = { a, b } := by rw [look_place, if_pos rfl]
  have hshown : x.shown u = shows := by
    rw [shown_eq, hcontacts]
    rfl
  refine ⟨fun h => ?unused, fun h => ⟨fun v hv => ⟨fun hother => ?elsewhere, fun harrived => ?arrived⟩, fun hstill => ?still⟩⟩
  case unused => rw [hexec, show x.used u = false from h, if_neg Bool.false_ne_true]
  all_goals rw [hexec, show x.used u = true from h, if_pos rfl]
  case elsewhere => rw [takeContacts_elsewhere (s := x) hv (by rwa [hshown])]
  case arrived =>
    intro arrived settling
    rw [takeContacts_arrived (s := x) hv (by rwa [hshown])]
    refine ⟨fun hst => ?_, fun hst hclear => ?_, fun hst htrips => ?_⟩
    · rw [endTravel_running (s := x) hst]
      rfl
    · rw [endTravel_cleared (s := x) hst hclear, noticeTripClear_onUnit]
      rfl
    · rw [endTravel_tripped (s := x) hst htrips, noticeChangeover_onUnit]
      rfl
  case still =>
    rw [takeContacts_still (s := x) hstill, followContacts_eq, hshown, Bool.or_assoc]
    rfl

end Sys2Proof.Machine

/-!
PROOFS. The scheduler's checks of an assigned station (8.3, 8.4): release, the call for a dip, the permit.
-/

namespace Sys2Proof.Machine

/-! ## The entry of a station -/

/-- The queue before, at and behind the entry that a station is assigned to. -/
structure State.Serving (s : State) (st : Station) (before : List QueueEntry) (e : QueueEntry) (after : List QueueEntry) : Prop where
  entries : s.taps.entries = before ++ e :: after
  station : e.station = some st
  first : ∀ d ∈ before, d.station ≠ some st

section
variable {α : Type} (before after : List α) (x : α)

theorem findIdx?_first {p : α → Bool} (hx : p x = true) (hbefore : ∀ d ∈ before, p d = false) :
    (before ++ x :: after).findIdx? p = some before.length := by
  rw [List.findIdx?_append, List.findIdx?_eq_none_iff.mpr hbefore]
  simp [List.findIdx?_cons, hx]

theorem getElem?_middle : (before ++ x :: after)[before.length]? = some x := by simp

theorem modify_middle (f : α → α) : (before ++ x :: after).modify before.length f = before ++ f x :: after := by
  induction before with
  | nil => rfl
  | cons b bs ih => simp [ih]

theorem eraseIdx_middle : (before ++ x :: after).eraseIdx before.length = before ++ after := by
  rw [List.eraseIdx_append_of_length_le (Nat.le_refl _), Nat.sub_self]
  rfl

end

section
variable {s : State} {st : Station} {before after : List QueueEntry} {e : QueueEntry}

theorem State.Serving.index (h : s.Serving st before e after) : s.entryIndex st = some before.length := by
  rw [State.entryIndex, h.entries]
  refine findIdx?_first before after e (by simp [h.station]) (fun d hd => ?_)
  simpa using h.first d hd

theorem State.Serving.entry (h : s.Serving st before e after) : s.taps.entries[before.length]? = some e := by
  rw [h.entries, getElem?_middle]

theorem State.Serving.entryOf (h : s.Serving st before e after) : s.entryOf st = some e := by
  rw [State.entryOf, h.entries, List.find?_append, List.find?_eq_none.mpr (by simpa using h.first)]
  simp [h.station]

/-- A change of the entry leaves the rest of the queue. -/
theorem State.Serving.onEntry (h : s.Serving st before e after) (f : QueueEntry → QueueEntry) :
    s.onEntry before.length f = s.withEntries (before ++ f e :: after) := by
  rw [State.onEntry, h.entries, modify_middle]

theorem State.Serving.unpermitted (h : s.Serving st before e after) (hpermit : e.permit = none) :
    s.unpermitted st = some (before.length, e) := by
  simp [State.unpermitted, h.index, h.entry, hpermit]

theorem State.Serving.permitted (h : s.Serving st before e after) (hpermit : e.permit ≠ none) : s.unpermitted st = none := by
  simp [State.unpermitted, h.index, h.entry, hpermit]

/-- A station that no entry names has none. -/
theorem entryIndex_none (h : ∀ d ∈ s.taps.entries, d.station ≠ some st) : s.entryIndex st = none := by
  rw [State.entryIndex, List.findIdx?_eq_none_iff]
  exact fun d hd => by simpa using h d hd

theorem unpermitted_none (h : s.entryIndex st = none) : s.unpermitted st = none := by simp [State.unpermitted, h]

/-! ## Release (R154, R155) -/

/-- A station given back: in HOLD, its entry without station and dip call, and the notice. -/
theorem State.Serving.release (h : s.Serving st before e after) (why : ReleaseReason) : release before.length e st why s =
    reexamine ((recompute st
      { s.withEntries (before ++ { e with station := none, dipCall := none } :: after) with
        heats := place s.heats st { s.heat st with record := { s.record st with phase := .hold } } }).notify
          .stationAssigned (stationCode st) (some 1) (some e.ladle) (some why.code)) := by
  rw [Machine.release, h.onEntry]
  rfl

/-- Why the release check gives a station back (R154). -/
theorem releaseReason_eq (s : State) (e : QueueEntry) (st : Station) : s.releaseReason e st =
    if (s.unitInhibited st = true ∨ s.barred st = true) ∧ (s.record st).tEst + (s.gradeOfHeat (s.record st)).tapWindow < e.target then
      some .inhibited
    else if hasFlag (s.record st).flags .water = true then some .water
    else if (s.record st).liquid < e.mass + (s.stationRec st).heelMin then some .shortfall else none := by
  simp [State.releaseReason, State.holdsAbove]

theorem unitInhibited_eq_true_iff :
    s.unitInhibited st = true ↔ ∃ u, s.unitOf st = some u ∧ (s.unit u).state = .inhibited := by
  unfold State.unitInhibited
  cases s.unitOf st <;> simp

theorem barred_eq_true_iff : s.barred st = true ↔ s.bars st ≠ [] := by
  simp [State.barred]

theorem State.Serving.releaseCheck_reason (h : s.Serving st before e after) (hpermit : e.permit = none) {why : ReleaseReason}
    (hwhy : s.releaseReason e st = some why) : Machine.releaseCheck st s = Machine.release before.length e st why s := by
  simp only [Machine.releaseCheck, h.unpermitted hpermit, hwhy]

theorem State.Serving.releaseCheck_still (h : s.Serving st before e after) (hstill : e.permit ≠ none ∨ s.releaseReason e st = none) :
    Machine.releaseCheck st s = s := by
  by_cases hpermit : e.permit = none
  · simp only [Machine.releaseCheck, h.unpermitted hpermit, hstill.resolve_left (not_not.mpr hpermit)]
  · simp only [Machine.releaseCheck, h.permitted hpermit]

/-! ## The call for a dip (R156) -/

theorem needsDip_iff : s.needsDip e st = true ↔
    (s.record st).phase = .superheat ∧ e.permit = none ∧ e.target ≤ (s.record st).tEst + (s.gradeOfHeat (s.record st)).tapWindow ∧
      ((s.record st).dipMark = false ∨ ∃ d, (s.record st).lastDip = some d ∧ s.cfg.shop.dipAgeMax < d.age) := by
  unfold State.needsDip
  cases hdip : (s.record st).lastDip <;> simp [hdip, and_assoc]

theorem callDue_iff : s.callDue e = true ↔ ∀ n, e.dipCall = some n → n + s.cfg.shop.dipAgeMax ≤ s.partTime := by
  unfold State.callDue
  cases e.dipCall <;> simp

theorem State.Serving.dipWantedCheck (h : s.Serving st before e after) : dipWantedCheck st s =
    if s.needsDip e st = true then
      if s.callDue e = true then
        (s.withEntries (before ++ { e with dipCall := some s.partTime } :: after)).notify .dipWanted (stationCode st)
          (some e.ladle) (some (s.record st).tEst) ((s.record st).lastDip.map (fun d => (d.age : Int)))
      else s
    else s.withEntries (before ++ { e with dipCall := none } :: after) := by
  simp only [Machine.dipWantedCheck, h.index, h.entry, h.onEntry]
  rfl

/-! ## The permit (R157) -/

theorem ready_iff : s.ready e st = true ↔
    (s.record st).phase = .superheat ∧ e.permit = none ∧ (s.record st).dipMark = true ∧
      (∃ d, (s.record st).lastDip = some d ∧ d.age ≤ s.cfg.shop.dipAgeMax) ∧
      e.target ≤ (s.record st).tEst + (s.gradeOfHeat (s.record st)).tapWindow ∧
      (s.record st).tEst ≤ e.target + (s.gradeOfHeat (s.record st)).tapWindow ∧
      e.mass + (s.stationRec st).heelMin ≤ (s.record st).liquid ∧ s.link.silent = false := by
  unfold State.ready
  cases hdip : (s.record st).lastDip <;> simp [hdip, and_assoc, State.holdsAbove]

/-- The id issued is the first from the counter on that is not held. -/
theorem freePermit_eq (held : List Nat) {k fuel c : Nat} (hheld : ∀ j < k, nextPermit^[j] c ∈ held) (hfree : nextPermit^[k] c ∉ held)
    (hk : k ≤ fuel) : freePermit held fuel c = nextPermit^[k] c := by
  induction k generalizing fuel c with
  | zero =>
    have hc : ¬ held.contains c = true := by simpa using hfree
    cases fuel with
    | zero => rfl
    | succ fuel => exact if_neg hc
  | succ k ih =>
    obtain ⟨fuel, rfl⟩ : ∃ n, fuel = n + 1 := ⟨fuel - 1, by omega⟩
    have hc : held.contains c = true := by simpa using hheld 0 (Nat.succ_pos k)
    rw [freePermit, if_pos hc, Function.iterate_succ_apply]
    refine ih (fun j hj => ?_) ?_ (Nat.le_of_succ_le_succ hk)
    · rw [← Function.iterate_succ_apply]
      exact hheld (j + 1) (Nat.succ_lt_succ hj)
    · rwa [← Function.iterate_succ_apply]

theorem mem_permitIds {n : Nat} : n ∈ s.permitIds ↔ ∃ d ∈ s.taps.entries, d.permit.map Permit.id = some n := List.mem_filterMap

theorem State.Serving.issuePermit (h : s.Serving st before e after) : issuePermit before.length e st s =
    ({ s with taps :=
        { entries := before ++ { e with permit := some { id := s.nextId, leftMs := s.cfg.shop.permitTime * 1000, started := false } } :: after
          permitCounter := nextPermit s.nextId } } : State).notify .tapGrant e.ladle (some s.nextId) (some (stationCode st))
            (some (s.record st).tEst) := by
  simp only [Machine.issuePermit, h.onEntry]
  rfl

theorem State.Serving.readinessCheck (h : s.Serving st before e after) : readinessCheck st s =
    if s.ready e st = true then Machine.issuePermit before.length e st s else s := by
  simp only [Machine.readinessCheck, h.index, h.entry]

end

/-- Settles O58: each check at the entry of the station, by its condition. -/
theorem assignedStationsAreChecked : Obligations.AssignedStationsAreChecked := by
  intro s st
  refine ⟨rfl, fun hnone => ?unassigned, fun before e after hentries hstation hbefore => ?assigned⟩
  case unassigned =>
    have hindex := entryIndex_none hnone
    have hrelease : releaseCheck st s = s := by rw [releaseCheck, unpermitted_none hindex]
    have hdip : dipWantedCheck st s = s := by rw [dipWantedCheck, hindex]
    rw [stationChecks, hrelease, hdip, readinessCheck, hindex]
  case assigned =>
    have h : s.Serving st before e after := ⟨hentries, hstation, hbefore⟩
    intro r g queued stopped wet short freed called ready
    have hstopped : stopped ↔ (s.unitInhibited st = true ∨ s.barred st = true) ∧
        (s.record st).tEst + (s.gradeOfHeat (s.record st)).tapWindow < e.target := by
      rw [unitInhibited_eq_true_iff, barred_eq_true_iff]
      rfl
    have hreason := releaseReason_eq s e st
    have hcalled : called ↔ s.needsDip e st = true := needsDip_iff.symm
    have hready : ready ↔ s.ready e st = true := ready_iff.symm
    refine ⟨fun hstill => ?kept, fun hpermit hs => ?stopped, fun hpermit hs hw => ?wet, fun hpermit hs hw hsh => ?short,
      fun hn => ?quiet, fun hc hnot => ?called, fun hc hdue => ?due, fun hn => ?unready, fun hr k => ?ready⟩
    case kept =>
      refine h.releaseCheck_still (hstill.imp_right ?_)
      rintro ⟨hs, hw, hsh⟩
      rw [hreason, if_neg (mt hstopped.mpr hs), if_neg hw, if_neg hsh]
    case stopped =>
      rw [h.releaseCheck_reason hpermit (why := .inhibited) (by rw [hreason, if_pos (hstopped.mp hs)]), h.release]
      rfl
    case wet =>
      rw [h.releaseCheck_reason hpermit (why := .water) (by rw [hreason, if_neg (mt hstopped.mpr hs), if_pos hw]), h.release]
      rfl
    case short =>
      rw [h.releaseCheck_reason hpermit (why := .shortfall) (by rw [hreason, if_neg (mt hstopped.mpr hs), if_neg hw, if_pos hsh]), h.release]
      rfl
    case quiet =>
      rw [h.dipWantedCheck, if_neg (mt hcalled.mpr hn)]
      rfl
    case called =>
      obtain ⟨n, hn, hlate⟩ := hnot
      rw [h.dipWantedCheck, if_pos (hcalled.mp hc), if_neg]
      exact fun hdue => absurd (callDue_iff.mp hdue n hn) (Nat.not_le.mpr hlate)
    case due =>
      rw [h.dipWantedCheck, if_pos (hcalled.mp hc), if_pos (callDue_iff.mpr hdue)]
      rfl
    case unready => rw [h.readinessCheck, if_neg (mt hready.mpr hn)]
    case ready =>
      intro next id held hheld hfree hk
      have hid : s.nextId = id :=
        freePermit_eq s.permitIds (fun j hj => mem_permitIds.mpr (hheld j hj)) (fun hmem => hfree (mem_permitIds.mp hmem)) hk
      rw [h.readinessCheck, if_pos (hready.mp hr), h.issuePermit, hid]
      rfl

end Sys2Proof.Machine

/-!
PROOFS. What the blocks do for one another: flags, valves and entry into EMPTY, a unit re-judged, a set that changed, requests and AUTO scheduling.
-/

namespace Sys2Proof.Machine

/-! ## Flags (R37) -/

section
variable {s : State} {st : Station} {f : HeatFlag} {u : UnitId}

/-- A heat flag set in a record, with its notice unless the notice mask masks it (R37). -/
def State.flagged (s : State) (f : HeatFlag) (st : Station) : State :=
  let s1 := s.onRecord st (fun r => { r with flags := setFlag r.flags f })
  if hasFlag (s.stationRec st).mask f then s1
  else s1.notify .heatFlag (stationCode st) (some f.bit) (some (s.record st).heatNo) (some (s.record st).tEst)

theorem raise_running (h : (s.phase st).running = true) : raise f st s =
    if f = .water ∧ hasFlag (s.record st).flags .water = false then waterRelease st (reexamine (s.flagged f st)) else s.flagged f st := by
  unfold raise
  exact if_pos h

theorem waterRelease_unassigned (h : ∀ d ∈ s.taps.entries, d.station ≠ some st) : waterRelease st s = s := by
  rw [waterRelease, unpermitted_none (entryIndex_none h)]

/-! ## Valves (R119 to R125) -/

theorem pickCause_mem (now : Nat) {xs : List Nat} (h : xs ≠ []) : pickCause now xs ∈ xs := by
  match xs, h with
  | [c], _ => exact List.mem_singleton_self c
  | c :: d :: ds, _ =>
    have hlt : Config.openCausePick now % ((d :: ds).length + 1) < (c :: d :: ds).length := Nat.mod_lt _ (Nat.succ_pos _)
    rw [show pickCause now (c :: d :: ds) = (c :: d :: ds).getD (Config.openCausePick now % ((d :: ds).length + 1)) c from rfl,
      List.getD_eq_getElem _ _ hlt]
    exact List.getElem_mem hlt

theorem standingCauses_ne_nil (h : s.emergencyStands st = true) : s.standingCauses st ≠ [] := by
  unfold State.emergencyStands at h
  unfold State.standingCauses
  cases hpump : s.lines.pumpFault <;> simp_all

theorem mem_standingCauses {n : Nat} : n ∈ s.standingCauses st ↔
    (n = 17 ∧ s.lines.pumpFault = true) ∨ ∃ w ∈ s.emergencyPrograms st, n = w.val + 1 := by
  unfold State.standingCauses
  cases hpump : s.lines.pumpFault <;> simp [causePump, causeProgram, eq_comm]

end

/-- Settles O60: the flag's own steps, each valve by whether it stands open, the cause picked among those that stand. -/
theorem flagsAndValvesActOnce : Obligations.FlagsAndValvesActOnce := by
  refine ⟨fun s f st => ?flags, fun s cause st => ?valves, fun s st => ⟨fun h => ?calm, fun h => ?water, ?empty⟩⟩
  case flags =>
    intro r flagged told y
    have htold : s.flagged f st = told := rfl
    refine ⟨fun h => raise_still s f st h, fun h hn => ?set, fun h hf hdry => ⟨fun hnone => ?unassigned,
      fun before e after hentries hstation hbefore => ⟨fun hpermit => ?permitted, fun hpermit => ?released⟩⟩⟩
    case set => rw [raise_running h, if_neg hn, htold]
    all_goals rw [raise_running h, if_pos ⟨hf, hdry⟩, htold]
    case unassigned => exact waterRelease_unassigned hnone
    all_goals have hserving : y.Serving st before e after := ⟨hentries, hstation, hbefore⟩
    case permitted => rw [waterRelease, hserving.permitted hpermit]
    case released =>
      rw [waterRelease, hserving.unpermitted hpermit]
      exact hserving.release .water
  case valves => exact ⟨rfl, rfl⟩
  case calm => exact if_neg (Bool.eq_false_iff.mp h)
  case water =>
    exact ⟨_, mem_standingCauses.mp (pickCause_mem s.clockMs (standingCauses_ne_nil h)), if_pos h⟩
  case empty => rfl

/-! ## A unit re-judged (R71, R74, R82) -/

section
variable {s : State} {u : UnitId} {st : Station}

/-- A unit that becomes INHIBITED, with its TRIP notice (R71, R75). -/
def State.tripped (s : State) (u : UnitId) : State :=
  (s.onUnit u PowerUnit.inhibit).notify .trip (unitCode u) (some (s.unit u).causes.bits) (some (programBits (s.tripPrograms u)))
    (some (stationOrNone (s.unit u).position))

theorem enterInhibited_plain (s : State) (u : UnitId) : enterInhibited u none s = reexamine (s.tripped u) := rfl

theorem enterInhibited_ended (s : State) (u : UnitId) (how : ChangeoverEnd) : enterInhibited u (some how) s =
    reexamine ((s.tripped u).notify .changeover (unitCode u) (some how.code) (some (stationOrNone (s.unit u).origin))
      (some (stationOrNone (s.unit u).position))) := by
  have hunit : (s.tripped u).unit u = (s.unit u).inhibit := unit_onUnit_self s u _
  have hnotice : noticeChangeover u how (s.tripped u) = (s.tripped u).notify .changeover (unitCode u) (some how.code)
      (some (stationOrNone (s.unit u).origin)) (some (stationOrNone (s.unit u).position)) := by
    rw [noticeChangeover, hunit]
    rfl
  rw [← hnotice]
  rfl

theorem rejudge_inhibited (h : (s.unit u).state = .inhibited) : rejudge u s =
    if s.tripsEmpty u = true ∧ (s.unit u).travel = none ∧ (s.unit u).position ≠ none then leaveInhibited u s else s := by
  simp [rejudge, h, Option.isSome_iff_ne_none, and_assoc]

theorem rejudge_feeding (h : (s.unit u).state = .feeding ∨ ∃ st, (s.unit u).state = .switching st) : rejudge u s =
    if s.tripsEmpty u = true then s else enterInhibited u none s := by
  rcases h with h | ⟨st, h⟩ <;> simp only [rejudge, h] <;> cases s.tripsEmpty u <;> rfl

theorem rejudge_settling (h : (s.unit u).state = .settling st) : rejudge u s =
    if s.tripsEmpty u = true then s else enterInhibited u (some .abandoned) s := by
  simp only [rejudge, h]
  cases s.tripsEmpty u <;> rfl

theorem rejudge_rampDown (h : (s.unit u).state = .rampDown st) : rejudge u s =
    if s.tripsEmpty u = true then
      if s.bars st ≠ [] ∨ s.phase st = .off then abandonRamp u s else s
    else enterInhibited u (some .abandoned) s := by
  simp only [rejudge, h, ← barred_eq_true_iff]
  cases s.tripsEmpty u <;> simp

theorem causes_isEmpty_iff (c : Causes) : c.isEmpty = true ↔
    c = { noLayout := false, restart := false, unitFault := false, pump := false, switch := false, noDecay := false } := by
  obtain ⟨a, b, c, d, e, f⟩ := c
  simp [Causes.isEmpty, and_assoc]

/-- A program that does not count against a unit names neither it nor its active station nor its travel target. -/
theorem not_meets_iff {t : Target} : ¬ (s.unit u).meets u t ↔
    t ≠ .unit u ∧ ∀ st, t = .station st → s.active u ≠ some st ∧ (s.unit u).travel.map Travel.target ≠ some st := by
  rw [active_eq]
  simp only [PowerUnit.meets, not_or, not_exists, not_and, ne_eq]

/-! ## A set that changed (R73, R141) -/

theorem evaluateIfOther_eq (h : s.unitOf st = some u) : evaluateIfOther st s = if s.active u = some st then s else autoEvaluate u s := by
  rw [evaluateIfOther, h]

theorem handSetChange_station (h : s.unitOf st = some u) (was : Bool) : handSetChange (.station st) was s =
    reexamine (if was = true ∧ (rejudge u s).bars st = [] ∧ (rejudge u s).active u ≠ some st then autoEvaluate u (rejudge u s)
      else rejudge u s) := by
  have hunit : (rejudge u s).unitOf st = some u := by
    rw [State.unitOf, State.layoutOf, (rejudge_internal s u).rest.cfg]
    exact h
  simp only [handSetChange, h, evaluateIfOther_eq hunit, ← barred_eq_false_iff]
  cases was <;> cases (rejudge u s).barred st <;> by_cases hactive : (rejudge u s).active u = some st <;> simp [hactive]

theorem handSetChange_alone (h : s.unitOf st = none) (was : Bool) : handSetChange (.station st) was s = reexamine s := by
  simp [handSetChange, h, evaluateIfOther]

end

/-- Settles O59: a unit's state decides what re-judging it does, the effective trip set whether. -/
theorem unitsAreRejudged : Obligations.UnitsAreRejudged := by
  refine ⟨fun s u => ?unit, fun s was => ⟨fun t a b => ?membership, fun u => rfl, fun st => barred_eq_true_iff,
    fun st u hu => ?station, fun st hu => handSetChange_alone hu was⟩⟩
  case unit =>
    intro q clear set fed tripped abandoned
    have hclear : s.tripsEmpty u = true ↔ clear := by
      rw [tripsEmpty_iff, causes_isEmpty_iff]
      exact and_congr_right' (forall_congr' fun w => imp_congr trips_iff not_meets_iff)
    have htripped : s.tripped u = tripped := rfl
    have hended : ∀ how, enterInhibited u (some how) s = reexamine (tripped.notify .changeover (unitCode u) (some how.code)
        (some (stationOrNone q.origin)) (some (stationOrNone q.position))) := enterInhibited_ended s u
    refine ⟨hclear, fun hq => ?inhibited, fun hq => ?feeding, fun ⟨st, hq⟩ => ?settling, fun st hq => ?rampDown, hended⟩
    case inhibited =>
      rw [rejudge_inhibited hq]
      refine ⟨fun ⟨hc, h⟩ => ?_, fun h => if_neg (fun ⟨hc, hrest⟩ => h ⟨hclear.mp hc, hrest⟩)⟩
      rw [if_pos ⟨hclear.mpr hc, h⟩, leaveInhibited, noticeTripClear_onUnit]
      rfl
    case feeding =>
      rw [rejudge_feeding hq]
      exact ⟨fun h => if_pos (hclear.mpr h), fun h => (if_neg (mt hclear.mp h)).trans (enterInhibited_plain s u)⟩
    case settling =>
      rw [rejudge_settling hq]
      exact ⟨fun h => if_pos (hclear.mpr h), fun h => (if_neg (mt hclear.mp h)).trans (hended .abandoned)⟩
    case rampDown =>
      rw [rejudge_rampDown hq]
      refine ⟨fun h => (if_neg (mt hclear.mp h)).trans (hended .abandoned), fun h hoff => ?_, fun h hbars hon => ?_⟩
      · rw [if_pos (hclear.mpr h), if_pos hoff, abandonRamp, noticeChangeover_onUnit]
        rfl
      · rw [if_pos (hclear.mpr h), if_neg (by simp [hbars, hon])]
  case membership =>
    rw [handMembership, ← trips_iff, ← trips_iff, ← Bool.eq_iff_iff]
    exact ⟨fun h => if_pos h, fun h => if_neg h⟩
  case station =>
    intro x
    rw [handSetChange_station hu]
    exact ⟨fun h => congrArg reexamine (if_pos h), fun h => congrArg reexamine (if_neg h)⟩

end Sys2Proof.Machine

/-!
PROOFS. The power request and need class of a station, and the AUTO scheduling of its unit (2.5, 4.7).
-/

namespace Sys2Proof.Machine

/-! ## The other station of a unit -/

/-- What a search through a list in order finds is the least that fits. -/
theorem find?_eq_some_iff_least {n : Nat} {xs : List (Fin n)} (hxs : xs.Pairwise (· < ·)) {p : Fin n → Bool} {o : Fin n} :
    xs.find? p = some o ↔ o ∈ xs ∧ p o = true ∧ ∀ z ∈ xs, p z = true → o ≤ z := by
  have hleast : ∀ x, xs.find? p = some x → x ∈ xs ∧ p x = true ∧ ∀ z ∈ xs, p z = true → x ≤ z := by
    intro x hx
    obtain ⟨hp, before, after, rfl, hbefore⟩ := List.find?_eq_some_iff_append.mp hx
    refine ⟨by simp, hp, fun z hz hpz => ?_⟩
    rcases List.mem_append.mp hz with hz | hz
    · simp at hbefore
      exact absurd hpz (by simp [hbefore z hz])
    · rcases List.mem_cons.mp hz with rfl | hz
      · exact Nat.le_refl _
      · have hafter := (List.pairwise_append.mp hxs).2.1
        exact Fin.le_of_lt (List.rel_of_pairwise_cons hafter hz)
  refine ⟨hleast o, fun ⟨hmem, hp, hmin⟩ => ?_⟩
  cases hfind : xs.find? p with
  | none => exact absurd hp (List.find?_eq_none.mp hfind o hmem)
  | some x =>
    obtain ⟨hx, hpx, hxmin⟩ := hleast x hfind
    rw [Fin.le_antisymm (hmin x hx hpx) (hxmin o hmem hp)]

section
variable {s : State} {u : UnitId} {st a o : Station}

theorem otherOf_iff : s.otherOf u a = some o ↔ o ∈ s.paired u ∧ o ≠ a ∧ ∀ z ∈ s.paired u, z ≠ a → o ≤ z := by
  rw [State.otherOf, find?_eq_some_iff_least (paired_pairwise_lt s u)]
  simp only [bne_iff_ne]

theorem reachable_iff : s.reachable st = true ↔ look s.enabled st = true ∧ s.phase st ≠ .off ∧ s.bars st = [] ∧
    ∃ f, s.coilFlow st = some f ∧ (s.stationRec st).coilMinFlow ≤ f := by
  rw [← barred_eq_false_iff]
  unfold State.reachable
  cases hflow : s.coilFlow st <;> simp [and_assoc]

/-- When an evaluation moves a unit, and where to (R86). -/
theorem autoTarget_iff : s.autoTarget u = some o ↔ (s.unit u).state = .feeding ∧ (s.unitRec u).mode = .auto ∧ ∃ a, s.active u = some a ∧
    s.otherOf u a = some o ∧ (s.heat a).need.height < (s.heat o).need.height ∧ s.reachable o = true ∧
    (s.cfg.shop.minDwell ≤ (s.unit u).feedingTime ∨ (s.heat a).need = .idle ∨ (s.heat o).need = .urgent) := by
  unfold State.autoTarget
  by_cases hfeeding : (s.unit u).state = .feeding ∧ (s.unitRec u).mode = .auto
  case neg =>
    rw [if_neg hfeeding]
    exact ⟨fun h => absurd h (by simp), fun ⟨hf, hm, _⟩ => absurd ⟨hf, hm⟩ hfeeding⟩
  rw [if_pos hfeeding]
  obtain ⟨hf, hm⟩ := hfeeding
  cases hactive : s.active u with
  | none => simp
  | some a =>
    cases hother : s.otherOf u a with
    | none => simp [hother]
    | some x =>
      simp only [hf, hm, Option.ite_none_right_eq_some, Option.some.injEq, true_and, exists_eq_left', hother]
      constructor
      · rintro ⟨hgo, rfl⟩
        exact ⟨rfl, hgo⟩
      · rintro ⟨rfl, hgo⟩
        exact ⟨hgo, rfl⟩

/-! ## Requests and classes (R18, R34, R35) -/

theorem objective_hold (h : s.phase st = .melt ∨ s.phase st = .hold) :
    s.objective st = some { temp := (s.gradeOfHeat (s.record st)).holdTarget, band := (s.gradeOfHeat (s.record st)).holdBand } := by
  rcases h with h | h <;> simp only [State.objective, h, Phase.target]

theorem objective_tap (h : s.phase st = .superheat ∨ s.phase st = .tapping) :
    s.objective st = (s.entryOf st).map (fun e => { temp := e.target, band := (s.gradeOfHeat (s.record st)).tapWindow }) := by
  rcases h with h | h <;> simp only [State.objective, h, Phase.target]

theorem objective_none (h : s.phase st = .off ∨ s.phase st = .unknown ∨ s.phase st = .empty) : s.objective st = none := by
  rcases h with h | h | h <;> simp only [State.objective, h, Phase.target]

/-- A station's request is at most the rating of its unit (R35). -/
theorem demand_melt (h : (s.record st).phase = .melt) : s.demand st =
    (min (s.stationRating st) (if s.link.silent then balancePower (s.stationRec st) (s.record st) else s.stationRating st), .melt) := by
  simp only [State.demand, h]

theorem demand_hold (h : (s.record st).phase = .hold) : s.demand st =
    (min (s.stationRating st) (holdRequest (s.stationRating st) (balancePower (s.stationRec st) (s.record st))
      (s.gradeOfHeat (s.record st)).holdTarget (s.gradeOfHeat (s.record st)).holdBand (s.record st).tEst).1,
     (holdRequest (s.stationRating st) (balancePower (s.stationRec st) (s.record st))
      (s.gradeOfHeat (s.record st)).holdTarget (s.gradeOfHeat (s.record st)).holdBand (s.record st).tEst).2) := by
  simp only [State.demand, h, objective_hold (.inr h)]

theorem demand_superheat {e : QueueEntry} (h : (s.record st).phase = .superheat) (he : s.entryOf st = some e) : s.demand st =
    (min (s.stationRating st) (superheatRequest (s.stationRating st) (balancePower (s.stationRec st) (s.record st)) e.target
      (s.gradeOfHeat (s.record st)).tapWindow (s.record st).tEst), .tap) := by
  simp only [State.demand, h, objective_tap (.inl h), he, Option.map_some]

theorem demand_superheat_unassigned (h : (s.record st).phase = .superheat) (he : s.entryOf st = none) : s.demand st =
    (min (s.stationRating st) 0, .tap) := by
  simp only [State.demand, h, objective_tap (.inl h), he, Option.map_none]

theorem demand_idle (h : (s.record st).phase = .tapping ∨ (s.record st).phase = .empty ∨ (s.record st).phase = .unknown ∨
    (s.record st).phase = .off) : s.demand st = (min (s.stationRating st) 0, .idle) := by
  rcases h with h | h | h | h <;> simp only [State.demand, h]

theorem recompute_same (h : (s.demand st).2 = (s.heat st).need) : recompute st s = s.demanded st := if_pos h

theorem recompute_changed (h : (s.demand st).2 ≠ (s.heat st).need) (hu : s.unitOf st = some u) :
    recompute st s = autoEvaluate u (s.demanded st) := by
  simp only [recompute, if_neg h, hu]
  rfl

theorem recompute_alone (hu : s.unitOf st = none) : recompute st s = s.demanded st := by
  simp only [recompute, hu, ite_self]
  rfl

end

/-- Settles O56: the demand phase by phase, the recomputation by the class, and when AUTO moves a unit. -/
theorem requestsFollowTheBath : Obligations.RequestsFollowTheBath := by
  refine ⟨fun s st => ?objectives, fun s st => ?requests, fun s u => ?scheduling⟩
  case objectives =>
    intro g phase
    refine ⟨fun h => ⟨?_, objective_hold h⟩, fun h => ⟨?_, fun before e after hentries hstation hbefore => ?_⟩,
      fun h => ⟨?_, objective_none h⟩⟩
    · rcases h with h | h <;> rw [h] <;> rfl
    · rcases h with h | h <;> rw [h] <;> rfl
    · have hserving : s.Serving st before e after := ⟨hentries, hstation, hbefore⟩
      rw [objective_tap h, hserving.entryOf]
      rfl
    · rcases h with h | h | h <;> rw [h] <;> rfl
  case requests =>
    intro r sr g rating loss balance t asked x
    have hrating : s.stationRating st = rating := rfl
    have hbalance : balancePower (s.stationRec st) (s.record st) = balance := rfl
    have hdemand : s.demand st = (min rating asked.1, asked.2) := by
      simp only [asked]
      cases hphase : r.phase with
      | melt => rw [demand_melt hphase, hrating, hbalance]
      | hold =>
        rw [demand_hold hphase, hrating, hbalance, holdRequest]
        rfl
      | superheat =>
        cases he : s.entryOf st with
        | none =>
          rw [demand_superheat_unassigned hphase he]
          rw [State.entryOf] at he
          rw [he]
          rfl
        | some e =>
          rw [demand_superheat hphase he, hrating, hbalance, superheatRequest]
          rw [State.entryOf] at he
          rw [he]
          rfl
      | tapping => exact demand_idle (.inl hphase)
      | empty => exact demand_idle (.inr (.inl hphase))
      | unknown => exact demand_idle (.inr (.inr (.inl hphase)))
      | off => exact demand_idle (.inr (.inr (.inr hphase)))
    have hx : s.demanded st = x := by
      rw [State.demanded, hdemand]
      rfl
    rw [← hx, show asked.2 = (s.demand st).2 by rw [hdemand]]
    exact ⟨recompute_same, fun h => ⟨fun u hu => recompute_changed h hu, recompute_alone⟩⟩
  case scheduling =>
    intro moves
    have hmoves : ∀ o, moves o ↔ s.autoTarget u = some o := by
      intro o
      simp only [autoTarget_iff, otherOf_iff, reachable_iff, and_assoc, moves]
    refine ⟨fun o ho => ?_, fun hnone => ?_⟩
    · simp only [autoEvaluate, (hmoves o).mp ho]
      rfl
    · rcases autoEvaluate_cases s u with ⟨-, h⟩ | ⟨t, ht, -⟩
      · exact h
      · exact absurd ((hmoves t).mpr ht) (hnone t)

end Sys2Proof.Machine

/-!
PROOFS. The requests of the unit, the allocator and the cooling monitor (TRIP RESET, INTERVAL SYNC, EW CLOSE), the readings and the pulses; HEAT
EMPTY and FLAGS CLEAR.
-/

namespace Sys2Proof.Machine

section
variable {s : State} {p : List Byte} {u : UnitId} {st : Station} {w : Program}

/-! ## TRIP RESET (R89) -/

theorem tripResetOwner_taken (hl : s.cfg.layout.loaded = true) (hu : u8At p 0 = unitCode u) : tripResetOwner p s =
    { state := tripReset u s, code := if (tripReset u s).tripsEmpty u = true then .ok else .stillActive
      data := byteOf ((tripReset u s).unit u).causes.bits :: le 2 (programBits ((tripReset u s).tripPrograms u)) } := by
  rw [tripResetOwner, namingUnit_named _ hl hu]

theorem releasable_iff : s.releasable u w = true ↔ (s.run w).state = .latched ∧ (s.run w).lastResult = some .neither ∧
    ((s.program w).target = .unit u ∨ ∃ st, (s.program w).target = .station st ∧ s.unitOf st = some u) := by
  unfold State.releasable
  cases htarget : (s.program w).target <;> simp [and_assoc]

end

/-- Settles O41: the causes left, each releasable program withdrawn in its turn, the unit re-judged. -/
theorem tripResetRemovesWhatIsGone : Obligations.TripResetRemovesWhatIsGone := by
  intro s tag p u c old cleared released t ha hu
  have hl : s.popped.cfg.layout.loaded = true := ha.loaded
  have hreleased : (fun (x : State) w => if x.releasable u w = true then withdrawInto w (releaseRun (x.run w)) x else x) = released := by
    funext x w
    simp only [releasable_iff, released]
    rfl
  have hreset : tripReset u s.popped = t := by
    rw [tripReset, releasePrograms, hreleased]
    rfl
  have hexec := ha.answered (k := .tripReset) rfl (tripResetOwner_taken hl hu) (tripReset_deed s.popped u).open
  rw [hreset] at hexec
  exact hexec

/-! ## INTERVAL SYNC (R102, R103) -/

section
variable {s : State}

theorem intervalSyncOwner_off (hl : s.cfg.layout.loaded = true) (h : s.cfg.shop.demandSync = false) :
    intervalSyncOwner s = refuse s .wrongMode := by
  simp [intervalSyncOwner, withLayout, hl, h]

theorem intervalSyncOwner_taken (hl : s.cfg.layout.loaded = true) (h : s.cfg.shop.demandSync = true) :
    intervalSyncOwner s = { state := takeSync s, code := .ok, data := le 4 s.alloc.eUsed ++ le 2 s.alloc.t } := by
  simp [intervalSyncOwner, withLayout, hl, h]

end

/-- Settles O46: the demand sync and its mark decide. -/
theorem intervalSyncRestartsTheInterval : Obligations.IntervalSyncRestartsTheInterval := by
  intro s tag p c afresh data ha
  have hl : s.popped.cfg.layout.loaded = true := ha.loaded
  refine ⟨fun h => ?off, fun h (hkept : s.popped.alloc.syncLost = false) => ?kept,
    fun h (hlost : s.popped.alloc.syncLost = true) => ?regained⟩
  case off => exact ha.refused (k := .intervalSync) (owner := intervalSyncOwner) rfl (intervalSyncOwner_off hl h)
  all_goals
    have hexec := ha.answered (k := .intervalSync) (owner := intervalSyncOwner) rfl (intervalSyncOwner_taken hl h)
      (takeSync_deed (sc := .aside) s.popped).open
  case kept =>
    rw [takeSync, if_neg (Bool.eq_false_iff.mp hkept)] at hexec
    exact hexec
  case regained =>
    rw [takeSync, if_pos hlost] at hexec
    exact hexec

/-! ## EW CLOSE (R124) -/

section
variable {s : State} {p : List Byte} {st : Station}

theorem emergencyStands_iff : s.emergencyStands st = true ↔ s.lines.pumpFault = true ∨
    ∃ w : Program, (s.run w).applied.map Prod.fst = some .emergency ∧
      ((s.program w).target = .station st ∨ ∃ u, s.unitOf st = some u ∧ (s.program w).target = .unit u) := by
  have hheld : ∀ w, s.held w = .emergency ↔ (s.run w).applied.map Prod.fst = some .emergency := fun w => by
    unfold State.held
    cases (s.run w).applied <;> simp
  unfold State.emergencyStands State.emergencyPrograms
  cases s.unitOf st <;> simp [mem_allPrograms, hheld, or_iff_not_imp_left]

theorem ewCloseOwner_badValue (hl : s.cfg.layout.loaded = true) (hp : u8At p 0 = stationCode st) (hoff : s.phase st ≠ .off)
    (h : 1 < u8At p 1) : ewCloseOwner p s = refuse s .badValue := by
  have hnone : yesNoOf (u8At p 1) = none := by
    obtain ⟨n, hn⟩ : ∃ n, u8At p 1 = n + 2 := ⟨u8At p 1 - 2, by omega⟩
    rw [hn]
    rfl
  rw [ewCloseOwner, forStation_named _ hl hp hoff, hnone]

/-- A byte of at most 1 is a yes or a no. -/
theorem yesNoOf_le {n : Nat} (h : n ≤ 1) : yesNoOf n = some (decide (n = 1)) := by
  interval_cases n <;> rfl

theorem ewCloseOwner_held (hl : s.cfg.layout.loaded = true) (hp : u8At p 0 = stationCode st) (hoff : s.phase st ≠ .off)
    (h : u8At p 1 ≤ 1) (hstands : (look s.valves st && s.emergencyStands st) = true) :
    ewCloseOwner p s = { state := s, code := .stillActive, data := ewData st s } := by
  rw [ewCloseOwner, forStation_named _ hl hp hoff, yesNoOf_le h]
  exact if_pos hstands

theorem ewCloseOwner_taken (hl : s.cfg.layout.loaded = true) (hp : u8At p 0 = stationCode st) (hoff : s.phase st ≠ .off)
    (h : u8At p 1 ≤ 1) (hfree : (look s.valves st && s.emergencyStands st) = false) :
    ewCloseOwner p s =
      { state := refill (decide (u8At p 1 = 1)) (closeValve causeHost s st), code := .ok
        data := ewData st (refill (decide (u8At p 1 = 1)) (closeValve causeHost s st)) } := by
  rw [ewCloseOwner, forStation_named _ hl hp hoff, yesNoOf_le h]
  exact if_neg (Bool.eq_false_iff.mp hfree)

theorem anyValveOpen_false_iff : s.anyValveOpen = false ↔ ∀ o, look s.valves o = false := by
  simp [State.anyValveOpen, mem_allStations]

theorem refill_valves (s : State) (refilled : Bool) : (refill refilled s).valves = s.valves := by
  unfold refill
  split <;> rfl

/-- A refill counts where every valve is CLOSED (R124). -/
theorem refill_eq (s : State) (refilled : Bool) : refill refilled s =
    if refilled = true ∧ ∀ o, look s.valves o = false then { s with reservoir := Reservoir.zero } else s := by
  simp only [refill, ← anyValveOpen_false_iff, Bool.and_eq_true, Bool.not_eq_true']

end

/-- Settles O51: the refilled code, then what holds the valve open, then whether a refill counts. -/
theorem emergencyWaterIsClosed : Obligations.EmergencyWaterIsClosed := by
  intro s tag p st c emergency valves refilled reservoir closed x ha hp hoff
  have hl : s.popped.cfg.layout.loaded = true := ha.loaded
  have hemergency : s.emergencyStands st = true ↔ emergency := emergencyStands_iff
  refine ⟨fun h => ?badValue, fun h hopen hstands => ?held, fun h hfree => ?closed⟩
  case badValue => exact ha.refused (k := .ewClose) rfl (ewCloseOwner_badValue hl hp hoff h)
  case held =>
    have hboth : (look s.valves st && s.emergencyStands st) = true := by rw [hopen, hemergency.mpr hstands]; rfl
    have hexec := ha.answered (k := .ewClose) (t := s.popped) rfl (ewCloseOwner_held hl hp hoff h hboth) ⟨rfl, rfl⟩
    rw [ewData, show look s.popped.valves st = true from hopen] at hexec
    exact hexec
  case closed =>
    have hone : (look s.valves st && s.emergencyStands st) = false := by
      rcases hfree with hv | he
      · rw [hv]; rfl
      · rw [Bool.eq_false_iff.mpr (mt hemergency.mp he), Bool.and_false]
    have hvalves : x.valves = valves := closeValve_valves s.popped causeHost st
    have hdrawn : x.reservoir = s.reservoir := by
      simp only [x]
      split <;> rfl
    have hexec := ha.answered (k := .ewClose) rfl (ewCloseOwner_taken hl hp hoff h hone)
      (((Shared.internal (closeValve_shared s.popped causeHost st)).open) |> fun ho =>
        ⟨((refill_deed (sc := .aside) _ _).open.1).trans ho.1, ((refill_deed (sc := .aside) _ _).open.2).trans ho.2⟩)
    have hclosed : look x.valves st = false := by rw [hvalves, look_place, if_pos rfl]
    have hdata : ewData st (refill (decide (u8At p 1 = 1)) x) =
        0 :: le 4 (refill (decide (u8At p 1 = 1)) x).reservoir.drawn := by
      rw [ewData, refill_valves, hclosed]
      rfl
    have hcond : (decide (u8At p 1 = 1) = true ∧ ∀ o, look x.valves o = false) ↔ refilled := by rw [decide_eq_true_eq, hvalves]
    rw [show closeValve causeHost s.popped st = x from rfl, hdata, refill_eq] at hexec
    refine ⟨fun hr => ?_, fun hr => ?_⟩
    · rw [if_pos (hcond.mpr hr)] at hexec
      exact hexec
    · rw [if_neg (mt hcond.mp hr), hdrawn] at hexec
      exact hexec

/-! ## Channels and pulses (R109, R110, R114) -/

/-- Settles O49: each event's one change. -/
theorem arrivalsAndPulsesAreTaken : Obligations.ArrivalsAndPulsesAreTaken := by
  refine ⟨fun s hheld => ⟨fun k v => ⟨?arrival, fun h => ?lapse, fun h => ?restarted⟩, fun k => ?pulse⟩,
    fun a b => ⟨rfl, rfl, rfl, rfl⟩⟩
  case arrival =>
    have hexec : exec (.channelArrival k v) s =
        .next (nextFrame (s.onChannel k (fun _ => { reading := takenReading v, timer := some Config.channelMs }))) :=
      whileRunning_taken (fun s => s.onChannel k (fun _ => { reading := takenReading v, timer := some Config.channelMs })) s hheld
    rw [hexec]
    cases v <;> rfl
  case pulse => exact whileRunning_taken (fun s => s.onCircuit k (fun x => { x with pulses := satAdd 65535 x.pulses 1 })) s hheld
  all_goals
    have hexec : exec (.channelTimeout k) s = .next (nextFrame (if (look s.channels k).timer = some 0 then
        s.onChannel k (fun _ => { reading := none, timer := none }) else s)) :=
      whileRunning_taken (fun s => if (look s.channels k).timer = some 0 then
        s.onChannel k (fun _ => { reading := none, timer := none }) else s) s hheld
  case lapse =>
    rw [hexec, if_pos h]
    rfl
  case restarted => rw [hexec, if_neg h]

/-! ## HEAT EMPTY and FLAGS CLEAR (R63, R39) -/

section
variable {s : State} {p : List Byte} {st : Station}

theorem heatEmptyOwner_unknown (hl : s.cfg.layout.loaded = true) (hp : u8At p 0 = stationCode st) (h : s.phase st = .unknown) :
    heatEmptyOwner p s = { state := reexamine (enterEmpty st s), code := .ok, data := [] } := by
  rw [heatEmptyOwner, forStation_named _ hl hp (by rw [h]; decide), h]

theorem heatEmptyOwner_empty (hl : s.cfg.layout.loaded = true) (hp : u8At p 0 = stationCode st) (h : s.phase st = .empty) :
    heatEmptyOwner p s = { state := s, code := .ok, data := [] } := by
  rw [heatEmptyOwner, forStation_named _ hl hp (by rw [h]; decide), h]

theorem heatEmptyOwner_metal (hl : s.cfg.layout.loaded = true) (hp : u8At p 0 = stationCode st) (h : (s.phase st).running = true) :
    heatEmptyOwner p s = refuse s .metalPresent := by
  rw [heatEmptyOwner, forStation_named _ hl hp (fun hoff => by rw [hoff] at h; exact Bool.noConfusion h)]
  cases hphase : s.phase st <;> rw [hphase] at h <;> first | rfl | exact Bool.noConfusion h

theorem flagsClearOwner_running (hl : s.cfg.layout.loaded = true) (hp : u8At p 0 = stationCode st) (hoff : s.phase st ≠ .off)
    (h : (s.phase st).running = true) : flagsClearOwner p s =
      { state := if (hasFlag (s.record st).flags .water && hasFlag (p.getD 1 0) .water) = true then
            reexamine (s.onRecord st (fun r => { r with flags := clearFlags r.flags (p.getD 1 0) }))
          else s.onRecord st (fun r => { r with flags := clearFlags r.flags (p.getD 1 0) })
        code := .ok, data := [] } := by
  rw [flagsClearOwner, forStation_named _ hl hp hoff]
  exact if_pos h

theorem flagsClearOwner_still (hl : s.cfg.layout.loaded = true) (hp : u8At p 0 = stationCode st) (hoff : s.phase st ≠ .off)
    (h : (s.phase st).running = false) : flagsClearOwner p s = { state := s, code := .ok, data := [] } := by
  rw [flagsClearOwner, forStation_named _ hl hp hoff]
  exact if_neg (Bool.eq_false_iff.mp h)

end

/-- Settles O36: the phase decides, and for FLAGS CLEAR whether a WATER flag goes. -/
theorem heatsAreEmptiedAndFlagsCleared : Obligations.HeatsAreEmptiedAndFlagsCleared := by
  intro s tag p st hp hoff
  refine ⟨fun ha => ?empty, fun ha => ?flags⟩
  case empty =>
    have hl : s.popped.cfg.layout.loaded = true := ha.loaded
    refine ⟨fun h => ?_, fun h => ?_, fun h => ?_⟩
    · exact ha.answered (k := .heatEmpty) rfl (heatEmptyOwner_unknown hl hp h)
        ((enterEmpty_deed s.popped st).work (reexamine_shared _)).open
    · exact ha.answered (k := .heatEmpty) (t := s.popped) rfl (heatEmptyOwner_empty hl hp h) ⟨rfl, rfl⟩
    · exact ha.refused (k := .heatEmpty) rfl (heatEmptyOwner_metal hl hp h)
  case flags =>
    have hl : s.popped.cfg.layout.loaded = true := ha.loaded
    intro c named left x
    refine ⟨fun h => ?_,
      fun h (hwater : (hasFlag (s.popped.record st).flags .water && hasFlag (p.getD 1 0) .water) = true) => ?_,
      fun h (hdry : (hasFlag (s.popped.record st).flags .water && hasFlag (p.getD 1 0) .water) = false) => ?_⟩
    · exact ha.answered (k := .flagsClear) (t := s.popped) rfl (flagsClearOwner_still hl hp hoff h) ⟨rfl, rfl⟩
    · have howner := flagsClearOwner_running (s := s.popped) hl hp hoff h
      rw [if_pos hwater] at howner
      exact ha.answered (k := .flagsClear) (t := reexamine x) rfl howner (reexamine_internal x).open
    · have howner := flagsClearOwner_running (s := s.popped) hl hp hoff h
      rw [if_neg (Bool.eq_false_iff.mp hdry)] at howner
      exact ha.answered (k := .flagsClear) (t := x) rfl howner ⟨rfl, rfl⟩

end Sys2Proof.Machine

/-!
PROOFS. The requests and the event of the tap queue (chapter 8): LADLE REQUEST, LADLE CANCEL, TAP START, PERMIT EXPIRY, TAP DONE, TAP ABORT.
-/

namespace Sys2Proof.Machine

/-! ## LADLE REQUEST (R148, R149) -/

section
variable {s : State} {p : List Byte} {g : Grade}

theorem foldl_max_lt_iff {xs : List Nat} {a m : Nat} : xs.foldl max a < m ↔ a < m ∧ ∀ x ∈ xs, x < m := by
  induction xs generalizing a with
  | nil => simp
  | cons x xs ih => simp [ih, and_assoc]

theorem largestCapacity_lt_iff {m : Nat} (hm : 0 < m) :
    s.largestCapacity < m ↔ ∀ st, (s.layoutOf st).present = true → s.capacity st < m := by
  simp [State.largestCapacity, foldl_max_lt_iff, hm, mem_allStations]

theorem ladleOutOfRange_iff {ladle grade mass : Nat} {given : Int} :
    ladleOutOfRange s ladle grade mass (optionalOffset given) = true ↔ ladle < 1 ∨ 250 < ladle ∨ 15 < grade ∨ mass < 100 ∨
      (∀ st, (s.layoutOf st).present = true → s.capacity st < mass) ∨ (given ≠ -32768 ∧ (given < -500 ∨ 500 < given)) := by
  by_cases hmass : mass < 100
  · simp [ladleOutOfRange, hmass]
  · rw [← largestCapacity_lt_iff (by omega)]
    by_cases hgiven : given = -32768 <;> simp [ladleOutOfRange, optionalOffset, hgiven, or_assoc]

theorem rawTarget_optionalOffset (r : GradeRec) (given : Int) :
    rawTarget r (optionalOffset given) = r.tapTarget + (if given = -32768 then 0 else given) := by
  unfold rawTarget optionalOffset
  split_ifs <;> rfl

theorem ladleRequestOwner_graded (hl : s.cfg.layout.loaded = true) (hg : g.val = u8At p 1) : ladleRequestOwner p s =
    if ladleOutOfRange s (u8At p 0) (u8At p 1) (u16At p 2) (optionalOffset (s16At p 4)) = true then refuse s .badValue
    else if s.taps.entries.any (fun e => e.ladle == u8At p 0) = true then refuse s .duplicate
    else if 8 ≤ s.taps.entries.length then refuse s .full
    else
      { state := reexamine (s.withEntries (s.taps.entries ++
          [newEntry (u8At p 0) g (u16At p 2) (ladleTarget (s.gradeRec g) (optionalOffset (s16At p 4)))]))
        code := if (ladleTarget (s.gradeRec g) (optionalOffset (s16At p 4)) : Int) =
          rawTarget (s.gradeRec g) (optionalOffset (s16At p 4)) then .ok else .clamped
        data := le 2 (ladleTarget (s.gradeRec g) (optionalOffset (s16At p 4))) } := by
  have hgrade : gradeOf (u8At p 1) = some g := by
    rw [gradeOf_of_lt (hg ▸ g.isLt)]
    exact congrArg some (Fin.ext hg.symm)
  rw [ladleRequestOwner, withLayout, if_pos hl, hgrade]
  simp only [hg]
  rfl

theorem ladleRequestOwner_bad (hl : s.cfg.layout.loaded = true)
    (h : ladleOutOfRange s (u8At p 0) (u8At p 1) (u16At p 2) (optionalOffset (s16At p 4)) = true) :
    ladleRequestOwner p s = refuse s .badValue := by
  by_cases hg : u8At p 1 < 16
  · rw [ladleRequestOwner_graded (g := ⟨u8At p 1, hg⟩) hl rfl, if_pos h]
  · rw [ladleRequestOwner, withLayout, if_pos hl, show gradeOf (u8At p 1) = none from dif_neg hg]

end

/-- Settles O53: the four refusals in their order, then the entry at the tail with its kept target. -/
theorem ladleJoinsTheQueue : Obligations.LadleJoinsTheQueue := by
  intro s tag p c ladle mass given offset bad ha
  have hl : s.popped.cfg.layout.loaded = true := ha.loaded
  have hbad : ladleOutOfRange s.popped ladle (u8At p 1) mass (optionalOffset given) = true ↔ bad := ladleOutOfRange_iff
  have hgrade : ¬ bad → u8At p 1 < 16 := fun h => by
    by_contra hlarge
    exact h (.inr (.inr (.inl (by omega))))
  have howner : ∀ (h : ¬ bad) (g : Grade), g.val = u8At p 1 → ladleRequestOwner p s.popped = _ := fun h g hg =>
    (ladleRequestOwner_graded (s := s.popped) hl hg).trans (if_neg (mt hbad.mp h))
  have hany : s.popped.taps.entries.any (fun e => e.ladle == ladle) = true ↔ ∃ e ∈ s.taps.entries, e.ladle = ladle := by
    simp [List.any_eq_true]
  refine ⟨fun h => ?badValue, fun h hdup => ?duplicate, fun h hnew hfull => ?full, fun h hnew hroom g hg => ?taken⟩
  case badValue => exact ha.refused (k := .ladleRequest) rfl (ladleRequestOwner_bad hl (hbad.mpr h))
  case duplicate =>
    exact ha.refused (k := .ladleRequest) rfl ((howner h ⟨_, hgrade h⟩ rfl).trans (if_pos (hany.mpr hdup)))
  all_goals
    have hnone : ¬ s.popped.taps.entries.any (fun e => e.ladle == ladle) = true := fun hdup => by
      obtain ⟨e, he, hladle⟩ := hany.mp hdup
      exact hnew e he hladle
  case full =>
    exact ha.refused (k := .ladleRequest) rfl ((howner h ⟨_, hgrade h⟩ rfl).trans ((if_neg hnone).trans (if_pos hfull)))
  case taken =>
    have hexec := ha.answered (k := .ladleRequest) rfl
      ((howner h g hg).trans ((if_neg hnone).trans (if_neg (Nat.not_le.mpr hroom)))) (reexamine_internal _).open
    intro r wanted target
    have hwanted : rawTarget (s.popped.gradeRec g) (optionalOffset (s16At p 4)) = wanted := rawTarget_optionalOffset _ _
    have htarget : ladleTarget (s.popped.gradeRec g) (optionalOffset (s16At p 4)) = target := by
      rw [ladleTarget, hwanted]
      rfl
    rw [hwanted, htarget] at hexec
    exact hexec

end Sys2Proof.Machine

/-!
PROOFS. Permits and taps: LADLE CANCEL, TAP START, PERMIT EXPIRY, TAP DONE, TAP ABORT (8.4, 8.5).
-/

namespace Sys2Proof.Machine

section
variable {s : State} {p : List Byte} {before after : List QueueEntry} {e : QueueEntry} {which : QueueEntry → Bool} {id : Nat}

/-! ## The entry a command names -/

theorem findEntry_first (h : s.taps.entries = before ++ e :: after) (he : which e = true) (hbefore : ∀ d ∈ before, which d = false) :
    s.findEntry which = some (before.length, e) := by
  simp only [State.findEntry, h, findIdx?_first before after e he hbefore, getElem?_middle, Option.map_some]

theorem findEntry_none (h : ∀ d ∈ s.taps.entries, which d = false) : s.findEntry which = none := by
  simp only [State.findEntry, List.findIdx?_eq_none_iff.mpr h]

theorem dropEntry_middle (h : s.taps.entries = before ++ e :: after) : s.dropEntry before.length = s.withEntries (before ++ after) := by
  rw [State.dropEntry, h, eraseIdx_middle]

theorem onEntry_middle (h : s.taps.entries = before ++ e :: after) (f : QueueEntry → QueueEntry) :
    s.onEntry before.length f = s.withEntries (before ++ f e :: after) := by
  rw [State.onEntry, h, modify_middle]

theorem holds_iff : e.holds id = true ↔ e.permit.map Permit.id = some id := by
  unfold QueueEntry.holds
  cases e.permit <;> simp

theorem holdsUnstarted_iff : e.holdsUnstarted id = true ↔ ∃ q, e.permit = some q ∧ q.id = id ∧ q.started = false := by
  unfold QueueEntry.holdsUnstarted
  cases e.permit <;> simp

theorem holdsStarted_iff : e.holdsStarted id = true ↔ ∃ q, e.permit = some q ∧ q.id = id ∧ q.started = true := by
  unfold QueueEntry.holdsStarted
  cases e.permit <;> simp

/-! ## LADLE CANCEL (R164) -/

theorem ladleCancelOwner_notFound (hl : s.cfg.layout.loaded = true) (h : ∀ d ∈ s.taps.entries, d.ladle ≠ u8At p 0) :
    ladleCancelOwner p s = refuse s .notFound := by
  have hnone : s.taps.entries.findIdx? (fun e => e.ladle == u8At p 0) = none :=
    List.findIdx?_eq_none_iff.mpr (fun d hd => by simpa using h d hd)
  rw [ladleCancelOwner, withLayout, if_pos hl, hnone]

theorem ladleCancelOwner_found (hl : s.cfg.layout.loaded = true) (h : s.taps.entries = before ++ e :: after) (he : u8At p 0 = e.ladle)
    (hbefore : ∀ d ∈ before, d.ladle ≠ e.ladle) : ladleCancelOwner p s =
      if e.permit.any Permit.started = true then refuse s .wrongPhase
      else { state := reexamine (freeStation e (s.withEntries (before ++ after))), code := .ok, data := [] } := by
  have hindex : s.taps.entries.findIdx? (fun e => e.ladle == u8At p 0) = some before.length := by
    rw [h]
    exact findIdx?_first before after e (by simp [he]) (fun d hd => by simpa [he] using hbefore d hd)
  have hentry : s.taps.entries[before.length]? = some e := by rw [h, getElem?_middle]
  rw [ladleCancelOwner, withLayout, if_pos hl, hindex]
  simp only [hentry, dropEntry_middle h]

/-! ## TAP START (R160) -/

theorem tapStartOwner_notFound (hl : s.cfg.layout.loaded = true)
    (h : ∀ d ∈ s.taps.entries, d.permit.map Permit.id ≠ some (u8At p 0)) : tapStartOwner p s = refuse s .notFound := by
  have hnone : s.findEntry (QueueEntry.holds (u8At p 0)) = none :=
    findEntry_none (fun d hd => Bool.eq_false_iff.mpr (mt holds_iff.mp (h d hd)))
  rw [tapStartOwner, withLayout, if_pos hl, hnone]

theorem tapStartOwner_found (hl : s.cfg.layout.loaded = true) {i : Nat} (h : s.findEntry (QueueEntry.holds (u8At p 0)) = some (i, e)) :
    tapStartOwner p s =
      { state := if e.permit.any Permit.started = true then s else startTap i e s
        code := .ok, data := [byteOf (stationOrNone e.station)] } := by
  rw [tapStartOwner, withLayout, if_pos hl, h]

theorem startTap_assigned {q : Permit} {st : Station} (h : s.taps.entries = before ++ e :: after) (hq : e.permit = some q)
    (hst : e.station = some st) : startTap before.length e s = reexamine (recompute st
      ((s.withEntries (before ++ { e with permit := some { q with started := true } } :: after)).onRecord st
        (fun r => { r with phase := .tapping }))) := by
  simp only [startTap, onEntry_middle h, hst, hq, Option.map_some]

theorem startTap_unassigned {q : Permit} (h : s.taps.entries = before ++ e :: after) (hq : e.permit = some q)
    (hst : e.station = none) : startTap before.length e s =
      s.withEntries (before ++ { e with permit := some { q with started := true } } :: after) := by
  simp only [startTap, onEntry_middle h, hst, hq, Option.map_some]

/-! ## PERMIT EXPIRY (R158) -/

theorem exec_permitExpiry_gone (hheld : s.resetHeld = false) (h : s.findEntry (QueueEntry.holdsUnstarted id) = none) :
    exec (.permitExpiry id) s = .next (nextFrame s) := by
  change execPermitExpiry id s = _
  rw [execPermitExpiry, whileRunning_taken _ s hheld]
  simp only [h]

theorem exec_permitExpiry_found (hheld : s.resetHeld = false) {i : Nat} (h : s.findEntry (QueueEntry.holdsUnstarted id) = some (i, e)) :
    exec (.permitExpiry id) s = .next (nextFrame (expirePermit i e id s)) := by
  change execPermitExpiry id s = _
  rw [execPermitExpiry, whileRunning_taken _ s hheld]
  simp only [h]

end

/-- Settles O54: the entry each command names, then what it does to it and to its station. -/
theorem permitsStartAndExpire : Obligations.PermitsStartAndExpire := by
  intro s
  refine ⟨fun tag p ha h => ?noLadle, fun tag p ha h => ?noPermit, fun hheld id h => ?gone, fun before e after hentries => ?entry⟩
  case noLadle =>
    have hl : s.popped.cfg.layout.loaded = true := ha.loaded
    exact ha.refused (k := .ladleCancel) rfl (ladleCancelOwner_notFound hl h)
  case noPermit =>
    have hl : s.popped.cfg.layout.loaded = true := ha.loaded
    exact ha.refused (k := .tapStart) rfl (tapStartOwner_notFound hl h)
  case gone =>
    refine exec_permitExpiry_gone hheld (findEntry_none (fun d hd => Bool.eq_false_iff.mpr (fun hu => ?_)))
    obtain ⟨q, hq, hid, hstarted⟩ := holdsUnstarted_iff.mp hu
    exact Bool.noConfusion (hstarted.symm.trans (h d hd q hq hid))
  case entry =>
    intro queued freed
    have hpopped : ∀ es, freeStation e (s.popped.withEntries es) = freed (queued s.popped es) := fun es => by
      simp only [freeStation, freed]
      cases e.station <;> rfl
    have hplain : ∀ es, freeStation e (s.withEntries es) = freed (queued s es) := fun es => by
      simp only [freeStation, freed]
      cases e.station <;> rfl
    refine ⟨fun tag p ha hp hbefore => ?cancel, fun q hq hbefore => ⟨fun tag p ha hp => ?start, fun hheld hfresh => ?expiry⟩⟩
    case cancel =>
      intro c
      have hl : s.popped.cfg.layout.loaded = true := ha.loaded
      have howner := ladleCancelOwner_found (s := s.popped) hl hentries hp hbefore
      have hstarted : e.permit.any Permit.started = true ↔ ∃ q, e.permit = some q ∧ q.started = true := by
        cases e.permit <;> simp
      refine ⟨fun h => ?_, fun h => ?_⟩
      · exact ha.refused (k := .ladleCancel) rfl (howner.trans (if_pos (hstarted.mpr h)))
      · have hnot : ¬ e.permit.any Permit.started = true := fun hany => by
          obtain ⟨q, hq, hon⟩ := hstarted.mp hany
          exact Bool.noConfusion ((h q hq).symm.trans hon)
        rw [hpopped] at howner
        have hdeed : Deed .floor s.popped (reexamine (freeStation e (s.popped.withEntries (before ++ after)))) := by
          rw [← dropEntry_middle (s := s.popped) hentries]
          exact ((dropEntry_deed _ _).trans (freeStation_deed _ e)).work (reexamine_shared _)
        rw [hpopped] at hdeed
        exact ha.answered (k := .ladleCancel) rfl (howner.trans (if_neg hnot)) hdeed.open
    case start =>
      intro c data started
      have hl : s.popped.cfg.layout.loaded = true := ha.loaded
      have hfind : s.popped.findEntry (QueueEntry.holds (u8At p 0)) = some (before.length, e) :=
        findEntry_first hentries (holds_iff.mpr (by rw [hq, hp]; rfl))
          (fun d hd => Bool.eq_false_iff.mpr (mt holds_iff.mp (by rw [hp]; exact hbefore d hd)))
      have howner := tapStartOwner_found (s := s.popped) hl hfind
      have hany : e.permit.any Permit.started = q.started := by rw [hq]; rfl
      rw [hany] at howner
      refine ⟨fun h => ?_, fun h => ?_⟩
      · rw [if_pos h] at howner
        exact ha.answered (k := .tapStart) (t := s.popped) rfl howner ⟨rfl, rfl⟩
      · rw [if_neg (Bool.eq_false_iff.mp h)] at howner
        have hexec := ha.answered (k := .tapStart) rfl howner (startTap_deed s.popped before.length e).open
        refine ⟨fun st hst => ?_, fun hst => ?_⟩
        · rw [startTap_assigned (s := s.popped) hentries hq hst] at hexec
          exact hexec
        · rw [startTap_unassigned (s := s.popped) hentries hq hst] at hexec
          exact hexec
    case expiry =>
      intro n station
      have hfind : s.findEntry (QueueEntry.holdsUnstarted q.id) = some (before.length, e) := by
        refine findEntry_first hentries (holdsUnstarted_iff.mpr ⟨q, hq, rfl, hfresh⟩) (fun d hd => Bool.eq_false_iff.mpr (fun hu => ?_))
        obtain ⟨z, hz, hid, -⟩ := holdsUnstarted_iff.mp hu
        exact hbefore d hd (by rw [hz, ← hid]; rfl)
      rw [exec_permitExpiry_found hheld hfind, expirePermit]
      refine ⟨fun h => ?_, fun h => ?_⟩
      · simp only [if_neg (show ¬ s.cfg.shop.expiryLimit ≤ e.expiries + 1 from Nat.not_le.mpr h), onEntry_middle hentries]
        rfl
      · simp only [if_pos (show s.cfg.shop.expiryLimit ≤ e.expiries + 1 from h), dropEntry_middle hentries, hplain]
        rfl

/-! ## TAP DONE and TAP ABORT (R161 to R163) -/

section
variable {s : State} {p : List Byte} {before after : List QueueEntry} {e : QueueEntry} {st : Station}

theorem tapDoneOwner_notFound (hl : s.cfg.layout.loaded = true) (h : s.findEntry (QueueEntry.holdsStarted (u8At p 0)) = none) :
    tapDoneOwner p s = refuse s .notFound := by
  rw [tapDoneOwner, withLayout, if_pos hl, h]

theorem tapAbortOwner_notFound (hl : s.cfg.layout.loaded = true) (h : s.findEntry (QueueEntry.holdsStarted (u8At p 0)) = none) :
    tapAbortOwner p s = refuse s .notFound := by
  rw [tapAbortOwner, withLayout, if_pos hl, h]

theorem tapDoneOwner_found (hl : s.cfg.layout.loaded = true) {i : Nat}
    (h : s.findEntry (QueueEntry.holdsStarted (u8At p 0)) = some (i, e)) (hst : e.station = some st) : tapDoneOwner p s =
      if u16At p 3 ≠ 0 ∧ (u16At p 3 < 10000 ∨ 17500 < u16At p 3) then refuse s .badValue
      else
        { state := takeTapDone i st (min (u16At p 1) (s.record st).liquid) (u16At p 3) s
          code := if min (u16At p 1) (s.record st).liquid < u16At p 1 then .clamped else .ok
          data := le 2 (min (u16At p 1) (s.record st).liquid) ++
            le 2 ((s.record st).liquid - min (u16At p 1) (s.record st).liquid) } := by
  rw [tapDoneOwner, withLayout, if_pos hl, h]
  simp only [hst]

theorem tapAbortOwner_found (hl : s.cfg.layout.loaded = true) {i : Nat}
    (h : s.findEntry (QueueEntry.holdsStarted (u8At p 0)) = some (i, e)) (hst : e.station = some st) : tapAbortOwner p s =
      { state := reexamine (settleAbort i st (e.mass - min (u16At p 1) (s.record st).liquid)
          (pourLadle st (min (u16At p 1) (s.record st).liquid) s))
        code := if min (u16At p 1) (s.record st).liquid < u16At p 1 then .clamped else .ok
        data := le 2 (min (u16At p 1) (s.record st).liquid) ++
          le 2 ((s.record st).liquid - min (u16At p 1) (s.record st).liquid) ++
          le 2 (e.mass - min (u16At p 1) (s.record st).liquid) } := by
  rw [tapAbortOwner, withLayout, if_pos hl, h]
  simp only [hst]

/-! ### A station's heat and the queue as a tap leaves them -/

/-- The part with a station's heat, the tap queue and the outflow as they are given. -/
def State.tapped (s : State) (st : Station) (h : StationHeat) (es : List QueueEntry) (outflow : Nat) : State :=
  { s with heats := place s.heats st h, taps := { s.taps with entries := es }, outflow := outflow }

variable (h : StationHeat) (es : List QueueEntry) (outflow : Nat)

@[simp] theorem tapped_heat : (s.tapped st h es outflow).heat st = h := look_place_same _ _ _

@[simp] theorem tapped_record : (s.tapped st h es outflow).record st = h.record := congrArg StationHeat.record (tapped_heat h es outflow)

theorem tapped_onHeat (f : StationHeat → StationHeat) : (s.tapped st h es outflow).onHeat st f = s.tapped st (f h) es outflow := by
  unfold State.onHeat State.tapped
  simp only [look_place_same, place_place]

theorem tapped_onRecord (f : HeatRec → HeatRec) :
    (s.tapped st h es outflow).onRecord st f = s.tapped st { h with record := f h.record } es outflow := tapped_onHeat h es outflow _

theorem pourLadle_eq (s : State) (st : Station) (mass : Nat) :
    pourLadle st mass s = s.tapped st { s.heat st with record := pouredRecord mass (s.record st) } s.taps.entries (s.outflow + mass) := by
  rw [pourLadle, pourOut_eq]
  rfl

theorem endTap_of_liquid {n : Nat} (hn : (s.record st).liquid = n) :
    endTap st s = if n = 0 then enterEmpty st s else toHold st s := by
  rw [endTap, hn]

end

/-- Settles O55: the entry of the started permit; the pour as `tapped` gives it; then the reading, the entry and the station. -/
theorem tapsPourIntoLadles : Obligations.TapsPourIntoLadles := by
  refine ⟨fun s tag p h => ?notFound, fun s before e after q st hentries hq hstarted hst hbefore tag p hp => ?found⟩
  case notFound =>
    have hnone : s.findEntry (QueueEntry.holdsStarted (u8At p 0)) = none := by
      refine findEntry_none (fun d hd => Bool.eq_false_iff.mpr (fun hholds => ?_))
      obtain ⟨z, hz, hid, hon⟩ := holdsStarted_iff.mp hholds
      exact h d hd z hz hon hid
    refine ⟨fun ha => ?_, fun ha => ?_⟩
    · have hl : s.popped.cfg.layout.loaded = true := ha.loaded
      exact ha.refused (k := .tapDone) rfl (tapDoneOwner_notFound hl hnone)
    · have hl : s.popped.cfg.layout.loaded = true := ha.loaded
      exact ha.refused (k := .tapAbort) rfl (tapAbortOwner_notFound hl hnone)
  case found =>
    have hfind : s.popped.findEntry (QueueEntry.holdsStarted (u8At p 0)) = some (before.length, e) := by
      refine findEntry_first hentries (holdsStarted_iff.mpr ⟨q, hq, hp.symm, hstarted⟩) (fun d hd => Bool.eq_false_iff.mpr (fun hholds => ?_))
      obtain ⟨z, hz, hid, hon⟩ := holdsStarted_iff.mp hholds
      exact Bool.noConfusion ((hbefore d hd z hz (hid.trans hp)).symm.trans hon)
    intro r mass poured left residual code data drained x ended plain
    have hpour : pourLadle st poured s.popped = x plain s.taps.entries := pourLadle_eq s.popped st poured
    have hdrop : ∀ h, (x h s.taps.entries).dropEntry before.length = x h (before ++ after) := fun h =>
      dropEntry_middle (s := x h s.taps.entries) hentries
    have hchange : ∀ h f, (x h s.taps.entries).onEntry before.length f = x h (before ++ f e :: after) := fun h f =>
      onEntry_middle (s := x h s.taps.entries) hentries f
    have hliquid : ∀ h es, h.record.liquid = left → ((x h es).record st).liquid = left := fun h es hh =>
      (congrArg HeatRec.liquid (tapped_record (s := s.popped) h es _)).trans hh
    have hended : ∀ y : State, (y.record st).liquid = left → endTap st y = ended y := fun y hy => endTap_of_liquid hy
    refine ⟨fun ha => ?done, fun ha => ?abort⟩
    case done =>
      have hl : s.popped.cfg.layout.loaded = true := ha.loaded
      have howner := tapDoneOwner_found (s := s.popped) hl hfind hst
      intro c temp
      have htaken : ¬ (temp ≠ 0 ∧ (temp < 10000 ∨ 17500 < temp)) → exec c s =
          .next ((takeTapDone before.length st poured temp s.popped).replied c code data) := fun h =>
        ha.answered (k := .tapDone) rfl (howner.trans (if_neg h)) (takeTapDone_deed s.popped before.length st poured temp).open
      have hdry : ¬ (temp ≠ 0 ∧ 0 < left) → takeTapDone before.length st poured temp s.popped = reexamine (ended (x plain (before ++ after))) := by
        intro h
        rw [takeTapDone, hpour, if_neg (by rw [hliquid plain s.taps.entries rfl]; exact h), hdrop, hended _ (hliquid plain _ rfl)]
      refine ⟨fun h => ?badValue, fun h => ?noReading, fun hlo hhi h => ?emptied, fun hlo hhi h => ?reading⟩
      case badValue => exact ha.refused (k := .tapDone) rfl (howner.trans (if_pos h))
      case noReading => rw [htaken (fun k => k.1 h), hdry (fun k => k.1 h)]
      case emptied => rw [htaken (by omega), hdry (by omega)]
      case reading =>
        intro kept entry longer y
        have hentry : (x plain s.taps.entries).dipEntry st temp .tap = entry := by
          rw [State.dipEntry, show (x plain s.taps.entries).record st = drained from tapped_record (s := s.popped) plain _ _]
          rfl
        have hread : (x plain s.taps.entries).onHeat st (fun h => { h with
            record := readRecord temp false h.record, history := addDip h.history entry }) = y s.taps.entries :=
          tapped_onHeat (s := s.popped) plain s.taps.entries _ _
        have hmodel : takeTapDone before.length st poured temp s.popped =
            reexamine (endTap st ((if kept ≠ temp then raise .clamped st (y s.taps.entries) else y s.taps.entries).dropEntry before.length)) := by
          rw [takeTapDone, hpour, if_pos (by rw [hliquid plain s.taps.entries rfl]; exact ⟨by omega, h⟩), applyReading, hentry, hread]
          rfl
        refine ⟨fun hsame => ?_, fun hclamped => ?_⟩
        · rw [htaken (by omega), hmodel, if_neg (not_not.mpr hsame), hdrop, hended _ (hliquid _ _ rfl)]
        · have htaps : (raise .clamped st (y s.taps.entries)).taps = (y s.taps.entries).taps := raise_taps (by decide) _ _
          have hdropped : (raise .clamped st (y s.taps.entries)).dropEntry before.length =
              { raise .clamped st (y s.taps.entries) with taps := { s.taps with entries := before ++ after } } := by
            rw [State.dropEntry, State.withEntries, htaps]
            exact congrArg (fun es => ({ raise .clamped st (y s.taps.entries) with taps := { s.taps with entries := es } } : State))
              ((congrArg (fun es : List QueueEntry => es.eraseIdx before.length) hentries).trans (eraseIdx_middle before after e))
          rw [htaken (by omega), hmodel, if_pos hclamped, hdropped, hended]
          exact (raise_liquid (by decide) st st (y s.taps.entries)).trans (hliquid _ _ rfl)
    case abort =>
      have hl : s.popped.cfg.layout.loaded = true := ha.loaded
      intro c rest answer
      have hexec : exec c s = .next ((reexamine (settleAbort before.length st rest (pourLadle st poured s.popped))).replied c code answer) :=
        ha.answered (k := .tapAbort) rfl (tapAbortOwner_found (s := s.popped) hl hfind hst)
          (((pourLadle_deed s.popped st poured).trans (settleAbort_deed _ before.length st rest)).work (reexamine_shared _)).open
      rw [hexec, hpour, settleAbort, hliquid plain s.taps.entries rfl, hdrop, hchange, hchange]
      refine ⟨fun h => ?_, fun h hleft => ?_, fun h hleft => ?_⟩
      · rw [if_pos h, hended _ (hliquid plain _ rfl)]
      · rw [if_neg (by omega), if_pos hleft]
      · rw [if_neg (by omega), if_neg (by omega), show (x plain (before ++ { e with mass := rest, permit := none } :: after)).onRecord st _ = _ from
          tapped_onRecord (s := s.popped) plain _ _ _]
        rfl

end Sys2Proof.Machine

/-!
PROOFS. CHARGE (3.1) and TRANSFER (3.3).
-/

namespace Sys2Proof.Machine

section
variable {s : State} {p : List Byte} {st a b : Station} {g : Grade}

/-! ## CHARGE (R43 to R47) -/

theorem spent_iff (l : LiningRec) : l.spent = true ↔ l.limit ≠ 0 ∧ l.limit ≤ l.melted := by
  simp [LiningRec.spent]

theorem mem_optionalGrade {grade n : Nat} : n ∈ optionalGrade grade ↔ grade ≠ 255 ∧ n = grade := by
  unfold optionalGrade
  split_ifs with h <;> simp [h, eq_comm]

theorem exists_mem_optionalGrade {grade : Nat} {P : Nat → Prop} : (∃ n ∈ optionalGrade grade, P n) ↔ grade ≠ 255 ∧ P grade := by
  unfold optionalGrade
  split_ifs with h <;> simp [h]

theorem optionalGrade_eq_none {grade : Nat} : optionalGrade grade = none ↔ grade = 255 := by
  unfold optionalGrade
  split_ifs with h <;> simp [h]

/-- The refusals of a CHARGE in terms of its grade byte (R43). -/
theorem chargeRefusal_eq (s : State) (st : Station) (number mass grade : Nat) :
    chargeRefusal s st number mass (optionalGrade grade) =
      if (s.record st).phase = .unknown ∨ (s.record st).phase = .tapping then some .wrongPhase
      else if (s.record st).phase = .superheat then some .assigned
      else if (look s.linings st).limit ≠ 0 ∧ (look s.linings st).limit ≤ (look s.linings st).melted then some .liningSpent
      else if mass = 0 ∨ s.capacity st < mass ∨ (16 ≤ grade ∧ grade ≠ 255) ∨ ((s.record st).phase = .empty ∧ grade = 255) then some .badValue
      else if ((s.record st).phase = .melt ∨ (s.record st).phase = .hold) ∧ grade ≠ 255 ∧ (s.record st).grade.map Fin.val ≠ some grade then
        some .gradeMismatch
      else if number ≠ (s.record st).chargeNo + 1 then some .sequence
      else if s.room st = 0 then some .badValue
      else none := by
  simp only [chargeRefusal, spent_iff, exists_mem_optionalGrade, optionalGrade_eq_none, and_comm (a := grade ≠ 255) (b := 16 ≤ grade)]

theorem chargeOwner_refused {code : ReplyCode} (hl : s.cfg.layout.loaded = true) (hp : u8At p 0 = stationCode st) (hoff : s.phase st ≠ .off)
    (h : chargeRefusal s st (u8At p 1) (u16At p 2) (optionalGrade (u8At p 4)) = some code) : chargeOwner p s = refuse s code := by
  rw [chargeOwner, forStation_named _ hl hp hoff]
  simp only [h]

theorem chargeOwner_taken (hl : s.cfg.layout.loaded = true) (hp : u8At p 0 = stationCode st) (hoff : s.phase st ≠ .off)
    (h : chargeRefusal s st (u8At p 1) (u16At p 2) (optionalGrade (u8At p 4)) = none) : chargeOwner p s =
      { state := takeCharge st (u8At p 1) (u16At p 2) ((optionalGrade (u8At p 4)).bind gradeOf) s
        code := if s.room st < u16At p 2 then .clamped else .ok, data := [] } := by
  rw [chargeOwner, forStation_named _ hl hp hoff]
  simp only [h]

/-- A first charge begins a heat, a further one adds to it (R44, R45). -/
theorem chargeRecord_empty (h : s.phase st = .empty) (number mass : Nat) (grade : Option Grade) : chargeRecord st number mass grade s =
    beginMetal st (advanceHeatNo (s.onHeat st (StationHeat.begun (chargedEmpty s.cfg.shop.tMelt s.heatCounter number mass grade) []))) :=
  if_pos h

theorem chargeRecord_running (h : s.phase st ≠ .empty) (number mass : Nat) (grade : Option Grade) : chargeRecord st number mass grade s =
    s.onRecord st (chargedRunning s.cfg.shop.c10 s.cfg.shop.tMelt number mass) := if_neg h

end

/-- Settles O32: the refusals in their order; then the record by the phase, and what `takeCharge` does after it. -/
theorem chargeAddsSolid : Obligations.ChargeAddsSolid := by
  intro s tag p st c r number mass grade room refusal ha hp hoff
  have hl : s.popped.cfg.layout.loaded = true := ha.loaded
  have hrefusal : chargeRefusal s.popped st number mass (optionalGrade grade) = refusal := chargeRefusal_eq s.popped st number mass grade
  refine ⟨fun code hcode => ?refused, fun hnone => ?taken⟩
  case refused => exact ha.refused (k := .charge) rfl (chargeOwner_refused hl hp hoff (hrefusal.trans hcode))
  case taken =>
    intro poured code finish
    have hexec : exec c s = .next ((takeCharge st number mass ((optionalGrade grade).bind gradeOf) s.popped).replied c code []) :=
      ha.answered (k := .charge) rfl (chargeOwner_taken hl hp hoff (hrefusal.trans hnone)) (takeCharge_deed s.popped st number mass _).open
    refine ⟨fun hempty => ?first, fun hrunning => ?further⟩
    case first =>
      have hphase : s.popped.phase st = .empty := hempty
      obtain ⟨-, -, -, -, -, hlt, hsome⟩ := chargeRefusal_none (hrefusal.trans hnone)
      have hne : grade ≠ 255 := mt optionalGrade_eq_none.mpr (hsome hphase)
      have hg : grade < 16 := hlt grade (mem_optionalGrade.mpr ⟨hne, rfl⟩)
      have hgrade : (optionalGrade grade).bind gradeOf = some ⟨grade, hg⟩ := by
        rw [optionalGrade, if_neg hne, Option.bind_some, gradeOf_of_lt hg]
      rw [takeCharge_eq, if_neg (by rw [hphase]; decide), chargeRecord_empty hphase, hgrade] at hexec
      exact ⟨⟨grade, hg⟩, rfl, hexec⟩
    case further =>
      have hphase : s.popped.phase st ≠ .empty := by
        rcases hrunning with h | h <;> rw [show s.popped.phase st = _ from h] <;> decide
      rw [takeCharge_eq, chargeRecord_running hphase] at hexec
      exact hexec

/-! ## TRANSFER (R54 to R58) -/

section
variable {s : State} {p : List Byte} {st o a b : Station}

theorem recompute_heat_other (h : o ≠ st) : (recompute st s).heat o = s.heat o := by
  rw [State.heat, recompute_heats, look_place_ne _ _ (Ne.symm h)]
  rfl

theorem enterEmpty_heat_other (h : o ≠ st) : (enterEmpty st s).heat o = s.heat o := by
  rw [enterEmpty, recompute_heat_other h, State.heat, closeValve_heats]
  exact (State.onHeat_heat s st o _).trans (if_neg (Ne.symm h))

theorem transferOwner_refused {code : ReplyCode} (hl : s.cfg.layout.loaded = true) (ha : u8At p 0 = stationCode a)
    (hb : u8At p 1 = stationCode b) (hona : s.phase a ≠ .off) (honb : s.phase b ≠ .off)
    (h : transferRefusal s a b (u16At p 2) = some code) : transferOwner p s = refuse s code := by
  rw [transferOwner, namingStation_named _ hl ha, namingStation_named _ hl hb, if_neg (not_or.mpr ⟨hona, honb⟩)]
  simp only [h]

theorem transferOwner_taken (hl : s.cfg.layout.loaded = true) (ha : u8At p 0 = stationCode a)
    (hb : u8At p 1 = stationCode b) (hona : s.phase a ≠ .off) (honb : s.phase b ≠ .off)
    (h : transferRefusal s a b (u16At p 2) = none) :
    transferOwner p s = { state := takeTransfer a b (u16At p 2) s, code := .ok, data := [] } := by
  rw [transferOwner, namingStation_named _ hl ha, namingStation_named _ hl hb, if_neg (not_or.mpr ⟨hona, honb⟩)]
  simp only [h]

/-- The part once the source has given up the mass (R55). -/
def State.drawnFrom (s : State) (a : Station) (mass : Nat) : State :=
  if mass < (s.record a).liquid then recompute a (pourOut a mass s) else enterEmpty a (pourOut a mass s)

theorem takeTransfer_eq (s : State) (a b : Station) (mass : Nat) : takeTransfer a b mass s =
    reexamine (recompute b (raise .mixed b
      (receive b mass (incomingTemp (s.record a).tEst s.cfg.shop.transferDrop) (s.record a) (s.drawnFrom a mass)))) := rfl

/-- Giving up mass leaves the other stations' heats. -/
theorem drawnFrom_heat (h : o ≠ a) (mass : Nat) : (s.drawnFrom a mass).heat o = s.heat o := by
  have hpour : (pourOut a mass s).heat o = s.heat o := (State.onRecord_heat s a o _).trans (if_neg (Ne.symm h))
  unfold State.drawnFrom
  split
  · rw [recompute_heat_other h, hpour]
  · rw [enterEmpty_heat_other h, hpour]

theorem drawnFrom_shared (s : State) (a : Station) (mass : Nat) : (s.drawnFrom a mass).cfg = s.cfg ∧
    (s.drawnFrom a mass).heatCounter = s.heatCounter := by
  unfold State.drawnFrom
  split
  · exact ⟨(recompute_internal _ a).rest.cfg, (recompute_internal _ a).rest.heatCounter⟩
  · exact ⟨(enterEmpty_internal _ a).rest.cfg, (enterEmpty_internal _ a).rest.heatCounter⟩

/-- A destination in EMPTY begins a heat (R56, R57). -/
theorem receive_empty (h : s.phase b = .empty) (mass tIn : Nat) (src : HeatRec) : receive b mass tIn src s =
    beginMetal b { s with
      heats := place s.heats b (StationHeat.begun (receivedEmpty s.heatCounter mass tIn src) [] (s.heat b))
      heatCounter := nextHeatNo s.heatCounter } := if_pos h

theorem receive_running (h : s.phase b ≠ .empty) (mass tIn : Nat) (src : HeatRec) : receive b mass tIn src s =
    { s with heats := place s.heats b { s.heat b with
      record := receivedRunning s.cfg.shop.c10 s.cfg.shop.tMelt mass tIn src (s.record b) } } := if_neg h

end

/-- Settles O34: the refusals in their order; then the source, which leaves the destination's record, and the metal at the destination. -/
theorem transferMovesMetal : Obligations.TransferMovesMetal := by
  intro s tag p a b c ra rb mass refusal ha hpa hpb hona honb
  have hl : s.popped.cfg.layout.loaded = true := ha.loaded
  refine ⟨fun code hcode => ?refused, fun hnone => ?taken⟩
  case refused => exact ha.refused (k := .transfer) rfl (transferOwner_refused hl hpa hpb hona honb hcode)
  case taken =>
    intro lighter x poured arrives begun mixed taken
    have hne : b ≠ a := fun h => by
      have hfirst := (refusal_none.mp hnone).1
      exact hfirst h.symm
    have hexec : exec c s = .next ((takeTransfer a b mass s.popped).replied c .ok []) :=
      ha.answered (k := .transfer) rfl (transferOwner_taken hl hpa hpb hona honb hnone) (takeTransfer_deed s.popped a b mass).open
    have hpoured : s.popped.drawnFrom a mass = poured := rfl
    have hheat : poured.heat b = s.heat b := drawnFrom_heat (s := s.popped) hne mass
    obtain ⟨hcfg, hcounter⟩ := drawnFrom_shared s.popped a mass
    rw [hpoured] at hcfg hcounter
    have htaken : receive b mass (incomingTemp ra.tEst s.cfg.shop.transferDrop) ra poured = taken := by
      by_cases hempty : rb.phase = .empty
      · have hphase : poured.phase b = .empty := (congrArg (fun h : StationHeat => h.record.phase) hheat).trans hempty
        rw [receive_empty hphase, show taken = begun from if_pos hempty, hcounter]
        rfl
      · have hphase : poured.phase b ≠ .empty := fun h => hempty ((congrArg (fun h : StationHeat => h.record.phase) hheat).symm.trans h)
        rw [receive_running hphase, show taken = _ from if_neg hempty, hcfg,
          show poured.record b = rb from congrArg StationHeat.record hheat]
        rfl
    rw [hexec, takeTransfer_eq, ← htaken]
    rfl

end Sys2Proof.Machine

/-!
PROOFS. The allocation pass (chapter 5): what an occurrence of a flag other than WATER changes, the demand account, the limits, the marks.
-/

namespace Sys2Proof.Machine

/-! ## An occurrence that prompts nothing (R37) -/

section
variable {s : State} {f g : HeatFlag} {a st : Station}

theorem hasFlag_setFlag (fs : FlagSet) (f g : HeatFlag) : hasFlag (setFlag fs f) g = (hasFlag fs g || decide (g = f)) := by
  unfold hasFlag setFlag HeatFlag.mask
  rw [BitVec.getLsbD_or]
  congr 1
  cases f <;> cases g <;> rfl

/-- The flag marked and its notice, in a running heat; nothing elsewhere. -/
theorem raise_plain (hf : f ≠ .water) : raise f st s = if (s.phase st).running = true then s.flagged f st else s := by
  by_cases hrun : (s.phase st).running = true
  · rw [raise_running hrun, if_neg (fun h => hf h.1), if_pos hrun]
  · rw [raise_still s f st (Bool.eq_false_iff.mpr hrun), if_neg hrun]

theorem raise_marks (hf : f ≠ .water) (h : (s.phase st).running = true) : raise f st s = s.flagged f st :=
  (raise_plain hf).trans (if_pos h)

theorem flagged_heats : (s.flagged f a).heats = (s.onRecord a (fun r => { r with flags := setFlag r.flags f })).heats := by
  unfold State.flagged
  simp only
  split <;> rfl

theorem flagged_record : (s.flagged f a).record st =
    if a = st then { s.record a with flags := setFlag (s.record a).flags f } else s.record st :=
  (record_of_heats flagged_heats st).trans (State.onRecord_record s a st _)

/-- Of the part it changes heats and link. -/
theorem raise_alone (hf : f ≠ .water) : raise f a s = { s with heats := (raise f a s).heats, link := (raise f a s).link } := by
  rw [raise_plain hf]
  unfold State.flagged
  simp only
  split
  · split <;> rfl
  · rfl

theorem raise_flags (hf : f ≠ .water) : hasFlag ((raise f a s).record st).flags g =
    (hasFlag (s.record st).flags g || (decide (g = f) && (s.phase st).running && decide (a = st))) := by
  rw [raise_plain hf]
  by_cases ha : a = st
  · subst ha
    by_cases hrun : (s.phase a).running = true
    · rw [if_pos hrun, flagged_record, if_pos rfl, hasFlag_setFlag]
      simp [hrun]
    · simp [hrun]
  · have hsame : ((if (s.phase a).running = true then s.flagged f a else s).record st) = s.record st := by
      split
      · rw [flagged_record, if_neg ha]
      · rfl
    rw [hsame]
    simp [ha]

/-- Of a heat it changes the flags. -/
theorem raise_heat (hf : f ≠ .water) : (raise f a s).heat st =
    { s.heat st with record := { s.record st with flags := ((raise f a s).record st).flags } } := by
  rw [raise_plain hf]
  split
  · have hheat : (s.flagged f a).heat st =
        if a = st then { s.heat a with record := { s.record a with flags := setFlag (s.record a).flags f } } else s.heat st :=
      (congrArg (fun h => look h st) flagged_heats).trans (State.onRecord_heat s a st _)
    rw [hheat, flagged_record]
    split
    · next h => subst h; rfl
    · rfl
  · rfl

theorem flagged_masked (h : hasFlag (s.stationRec a).mask f = true) :
    s.flagged f a = s.onRecord a (fun r => { r with flags := setFlag r.flags f }) := if_pos h

theorem flagged_told (h : ¬ hasFlag (s.stationRec a).mask f = true) : s.flagged f a =
    (s.onRecord a (fun r => { r with flags := setFlag r.flags f })).notify .heatFlag (stationCode a) (some f.bit)
      (some (s.record a).heatNo) (some (s.record a).tEst) := if_neg h

/-- The allocator plays no part in it. -/
theorem raise_withAlloc (hf : f ≠ .water) (alloc : Allocator) : raise f a { s with alloc := alloc } = { raise f a s with alloc := alloc } := by
  by_cases hrun : (s.phase a).running = true
  case neg =>
    rw [raise_still s f a (Bool.eq_false_iff.mpr hrun)]
    exact raise_still _ f a (Bool.eq_false_iff.mpr hrun)
  rw [raise_marks (s := s) hf hrun, raise_marks (s := { s with alloc := alloc }) hf hrun]
  by_cases hmask : hasFlag (s.stationRec a).mask f = true
  · rw [flagged_masked (s := s) hmask, flagged_masked (s := { s with alloc := alloc }) hmask]
    rfl
  · rw [flagged_told (s := s) hmask, flagged_told (s := { s with alloc := alloc }) hmask]
    rfl

end

end Sys2Proof.Machine

/-!
PROOFS. The allocation pass (chapter 5), its account, its limits, its marks and its grants.
-/

namespace Sys2Proof.Machine

section
variable (s : State)

/-! ## The account (R98, R100, R101) -/

/-- The demand sync is in force (R100). -/
abbrev State.synced : Prop := s.cfg.shop.demandSync = true ∧ s.alloc.syncLost = false

/-- The past second is the one in which a sync in force is lost (R100). -/
abbrev State.losesSync : Prop := s.synced ∧ s.cfg.shop.interval + 60 ≤ s.alloc.t + 1

/-- The past second ends the demand interval (R100, R101). -/
abbrev State.endsInterval : Prop := s.losesSync ∨ (¬ s.synced ∧ s.cfg.shop.interval ≤ s.alloc.t + 1)

/-- The part once a lost sync has been reported (R100). -/
def State.syncTold : State :=
  if s.losesSync then s.notify .demand 0 (some 0) (some (s.alloc.eUsed + s.secondEnergy : Nat)) (some (s.alloc.t + 1 : Nat)) else s

theorem accountStage_lost (h : s.losesSync) : accountStage s =
    { s.syncTold with alloc := { s.counted with eUsed := 0, t := 0, syncLost := true } } := by
  obtain ⟨⟨hsync, hkept⟩, hlate⟩ := h
  have htest : (s.cfg.shop.demandSync && !s.counted.syncLost) = true := by
    rw [hsync, show s.counted.syncLost = false from hkept]
    rfl
  rw [State.syncTold, if_pos ⟨⟨hsync, hkept⟩, hlate⟩, accountStage]
  simp only
  rw [if_pos htest, if_pos (show s.cfg.shop.interval + 60 ≤ s.counted.t from hlate)]
  rfl

theorem accountStage_kept (h : ¬ s.losesSync) : accountStage s = { s with alloc := (accountStage s).alloc } := by
  unfold accountStage
  simp only
  split
  · next htest =>
    simp only [Bool.and_eq_true, Bool.not_eq_true'] at htest
    rw [if_neg (show ¬ s.cfg.shop.interval + 60 ≤ s.counted.t from fun hlate => h ⟨htest, hlate⟩)]
  · split <;> rfl

theorem accountStage_eq : accountStage s = { s.syncTold with alloc := (accountStage s).alloc } := by
  by_cases h : s.losesSync
  · rw [accountStage_lost s h]
  · rw [State.syncTold, if_neg h]
    exact accountStage_kept s h

/-- The account after a pass has taken the second and judged the boundary. -/
theorem accountStage_alloc : (accountStage s).alloc = { s.counted with
    eUsed := if s.endsInterval then 0 else s.counted.eUsed
    t := if s.endsInterval then 0 else s.counted.t
    syncLost := if s.losesSync then true else s.alloc.syncLost } := by
  by_cases hlost : s.losesSync
  · rw [accountStage_lost s hlost, if_pos hlost, if_pos (.inl hlost), if_pos (.inl hlost)]
  rw [if_neg hlost]
  by_cases hsync : s.synced
  · have hends : ¬ s.endsInterval := fun h => h.elim hlost (fun k => k.1 hsync)
    have htest : (s.cfg.shop.demandSync && !s.counted.syncLost) = true := by
      rw [hsync.1, show s.counted.syncLost = false from hsync.2]
      rfl
    rw [if_neg hends, if_neg hends, accountStage]
    simp only
    rw [if_pos htest, if_neg (show ¬ s.cfg.shop.interval + 60 ≤ s.counted.t from fun hlate => hlost ⟨hsync, hlate⟩)]
    rfl
  · have htest : ¬ (s.cfg.shop.demandSync && !s.counted.syncLost) = true := fun h => by
      simp only [Bool.and_eq_true, Bool.not_eq_true'] at h
      exact hsync h
    rw [accountStage]
    simp only
    rw [if_neg htest]
    by_cases hends : s.cfg.shop.interval ≤ s.alloc.t + 1
    · rw [if_pos (show s.cfg.shop.interval ≤ s.counted.t from hends), if_pos (.inr ⟨hsync, hends⟩), if_pos (.inr ⟨hsync, hends⟩)]
      rfl
    · have hnot : ¬ s.endsInterval := fun h => h.elim hlost (fun k => hends k.2)
      rw [if_neg (show ¬ s.cfg.shop.interval ≤ s.counted.t from hends), if_neg hnot, if_neg hnot]
      rfl

/-! ## The limits (R99, R106) -/

theorem demandLimit_open {shop : ShopRec} (h : shop.contract = 0) (e t : Nat) : demandLimit shop e t = shop.lInst := if_pos h

theorem demandLimit_contract {shop : ShopRec} (h : shop.contract ≠ 0) (e t : Nat) : (demandLimit shop e t : Int) =
    min (shop.lInst : Int) (max (Int.tdiv ((shop.contract * shop.interval : Nat) - (e : Int)) (max ((shop.interval : Int) - t) 60) -
      shop.baseLoad) shop.holdReserve) := by
  rw [demandLimit, if_neg h]
  simp only
  generalize Int.tdiv _ _ = x
  omega

theorem coolingLimit_warm {shop : ShopRec} {v : Int} (h1 : ¬ v ≤ shop.coolStart) (h2 : v < shop.coolStop) :
    (coolingLimit shop (some v) : Int) =
      Int.tdiv ((shop.lInst : Int) * (shop.coolStop - v)) ((shop.coolStop : Int) - shop.coolStart) := by
  have hpos : 0 ≤ Int.tdiv ((shop.lInst : Int) * (shop.coolStop - v)) ((shop.coolStop : Int) - shop.coolStart) :=
    Int.tdiv_nonneg (Int.mul_nonneg (Int.natCast_nonneg _) (by omega)) (by omega)
  simp only [coolingLimit, if_neg h1, if_pos h2, Int.toNat_of_nonneg hpos]

/-! ## The marks (R95) -/

/-- A run of flushes begins at a unit's station (R95). -/
def runBegins (active : Option Station) (begins : Bool) (x : State) : State :=
  match active with
  | some a => if begins then raise .underrun a x else x
  | none => x

variable {s} {x : State} {active : Option Station} {begins : Bool} {st : Station} {f : HeatFlag}

theorem runBegins_cases : runBegins active begins x = x ∧ (begins && decide (active = some st)) = false ∨
    ∃ a, active = some a ∧ begins = true ∧ runBegins active begins x = raise .underrun a x := by
  cases hactive : active with
  | none => exact .inl ⟨rfl, by simp⟩
  | some a =>
    cases begins with
    | false => exact .inl ⟨rfl, rfl⟩
    | true => exact .inr ⟨a, rfl, rfl, rfl⟩

theorem runBegins_alone : runBegins active begins x =
    { x with heats := (runBegins active begins x).heats, link := (runBegins active begins x).link } := by
  rcases runBegins_cases (x := x) (active := active) (begins := begins) (st := 0) with ⟨h, -⟩ | ⟨a, -, -, h⟩ <;> rw [h]
  exact raise_alone (by decide)

theorem runBegins_heat : (runBegins active begins x).heat st =
    { x.heat st with record := { x.record st with flags := ((runBegins active begins x).record st).flags } } := by
  rcases runBegins_cases (x := x) (active := active) (begins := begins) (st := 0) with ⟨h, -⟩ | ⟨a, -, -, h⟩ <;> rw [h]
  · rfl
  · exact raise_heat (by decide)

theorem runBegins_phase : (runBegins active begins x).phase st = x.phase st := by
  have hheat := runBegins_heat (x := x) (st := st) (active := active) (begins := begins)
  have hphase := congrArg (fun h : StationHeat => h.record.phase) hheat
  exact hphase

theorem runBegins_flags : hasFlag ((runBegins active begins x).record st).flags f = (hasFlag (x.record st).flags f ||
    (decide (f = .underrun) && (x.phase st).running && (begins && decide (active = some st)))) := by
  rcases runBegins_cases (x := x) (active := active) (begins := begins) (st := st) with ⟨h, hnot⟩ | ⟨a, hactive, hbegins, h⟩
  · rw [h, hnot, Bool.and_false, Bool.or_false]
  · rw [h, hbegins, hactive, raise_flags (by decide)]
    simp

theorem runBegins_withAlloc (alloc : Allocator) :
    runBegins active begins { x with alloc := alloc } = { runBegins active begins x with alloc := alloc } := by
  cases active with
  | none => rfl
  | some a =>
    cases begins with
    | false => rfl
    | true => exact raise_withAlloc (by decide) alloc

theorem flushStage_eq (limit : Nat) (basis x : State) (alloc : Allocator) (u : UnitId) :
    flushStage limit basis { x with alloc := alloc } u =
      { runBegins (basis.active u) (basis.flushes limit u && !look basis.alloc.flushMark u) x with
        alloc := { alloc with flushMark := place alloc.flushMark u (basis.flushes limit u) } } := by
  rw [← runBegins_withAlloc]
  rw [flushStage]
  simp only
  by_cases hbegins : (basis.flushes limit u && !look basis.alloc.flushMark u) = true
  · rw [if_pos hbegins, hbegins]
    cases basis.active u <;> rfl
  · rw [if_neg hbegins, Bool.eq_false_iff.mpr hbegins]
    cases basis.active u <;> rfl

end

/-! ## The pass (R91) -/

section
variable (s : State)

/-- The part once a run of flushes that begins at U1 has been reported (R95). -/
def State.firstTold (s : State) : State :=
  runBegins (s.active 0) ((passBasis s).flushes (accountStage s).shopLimit 0 && !look s.alloc.flushMark 0) s.syncTold

/-- The part once the runs of flushes that begin have been reported, U1 before U2 (R95; log entry 33). -/
def State.flushesTold (s : State) : State :=
  runBegins (s.active 1) ((passBasis s).flushes (accountStage s).shopLimit 1 && !look s.alloc.flushMark 1) s.firstTold

theorem syncTold_alone : s.syncTold = { s with link := s.syncTold.link } := by
  unfold State.syncTold
  split <;> rfl

/-- The caps, levels and grants of a pass are computed from the part as it stood, but for the account and the link. -/
theorem passBasis_alone : passBasis s = { s.syncTold with alloc := (passBasis s).alloc } := by
  rw [passBasis]
  simp only
  rw [accountStage_eq s]

theorem passBasis_marks (u : UnitId) : look (passBasis s).alloc.flushMark u = look s.alloc.flushMark u := by
  rw [show (passBasis s).alloc.flushMark = (accountStage s).alloc.flushMark from rfl, accountStage_alloc]
  rfl

theorem passBasis_active (u : UnitId) : (passBasis s).active u = s.active u := by
  rw [passBasis_alone s, syncTold_alone s]
  rfl

/-- What a unit receives does not depend on the account or the link. -/
theorem share_withAlloc (alloc : Allocator) (link : Link) (limit : Nat) (u : UnitId) :
    State.share { s with alloc := alloc, link := link } limit u = s.share limit u := by
  have hcapped : ∀ v a, State.capped { s with alloc := alloc, link := link } v a = s.capped v a := fun v a => by
    rw [capped_eq, capped_eq]
    rfl
  have hclaim : ∀ v, State.claim { s with alloc := alloc, link := link } v = s.claim v := fun v => by
    unfold State.claim
    simp only [hcapped]
    rfl
  have hsum : ∀ level, State.levelSum { s with alloc := alloc, link := link } level = s.levelSum level := fun level => by
    simp only [State.levelSum, hclaim]
  have hremainder : ∀ level, State.remainder { s with alloc := alloc, link := link } limit level = s.remainder limit level := fun level =>
    match level with
    | 0 | 1 => rfl
    | 2 => by simp only [State.remainder, hsum]
    | n + 3 => by simp only [State.remainder, hsum]
  simp only [State.share, hremainder, hclaim, hsum]

theorem passBasis_share (limit : Nat) (u : UnitId) : (passBasis s).share limit u = s.share limit u := by
  rw [passBasis_alone s, syncTold_alone s]
  exact share_withAlloc s _ _ limit u

theorem allocationPass_told : allocationPass s =
    { s.flushesTold with units := (allocationPass s).units, alloc := (allocationPass s).alloc } := by
  have hgrants : ∀ x, allUnits.foldl (handGrant (accountStage s).shopLimit (passBasis s)) x =
      { x with units := (allUnits.foldl (handGrant (accountStage s).shopLimit (passBasis s)) x).units } := fun _ => rfl
  have hflushed : ∃ alloc, allUnits.foldl (flushStage (accountStage s).shopLimit (passBasis s)) (passBasis s) =
      { s.flushesTold with alloc := alloc } := by
    have hfirst := flushStage_eq (accountStage s).shopLimit (passBasis s) s.syncTold (passBasis s).alloc 0
    rw [← passBasis_alone s] at hfirst
    have hsecond := fun x alloc => flushStage_eq (accountStage s).shopLimit (passBasis s) x alloc 1
    simp only [passBasis_active, passBasis_marks] at hfirst hsecond
    exact ⟨_, (congrArg (fun x => flushStage (accountStage s).shopLimit (passBasis s) x 1) hfirst).trans (hsecond _ _)⟩
  obtain ⟨alloc, hflushed⟩ := hflushed
  rw [allocationPass_eq, hgrants, hflushed]

theorem allocationPass_alloc : (allocationPass s).alloc = { (passBasis s).alloc with
    flushMark := place (place (passBasis s).alloc.flushMark 0 ((passBasis s).flushes (accountStage s).shopLimit 0)) 1
      ((passBasis s).flushes (accountStage s).shopLimit 1) } := by
  have hgrants : ∀ t u, (handGrant (accountStage s).shopLimit (passBasis s) t u).alloc = t.alloc := fun _ _ => rfl
  simp only [allocationPass_eq, allUnits, List.foldl_cons, List.foldl_nil, hgrants, flushStage_alloc]

theorem allocationPass_flushes (u : UnitId) :
    look (allocationPass s).alloc.flushMark u = (passBasis s).flushes (accountStage s).shopLimit u := by
  rw [allocationPass_alloc]
  simp only [look_place]
  match u with
  | 0 => rfl
  | 1 => rfl

/-- The flush marks a pass leaves (R95). -/
theorem allocationPass_marks (u : UnitId) : look (allocationPass s).alloc.flushMark u =
    decide (0 < s.share (accountStage s).shopLimit u / 10 * 10 ∧ s.share (accountStage s).shopLimit u / 10 * 10 < s.pMin u) := by
  rw [allocationPass_flushes, State.flushes, passBasis_share, passBasis_pMin, Bool.decide_and]
  rfl

/-- A finished grant (R95, R96). -/
theorem allocationPass_grant (u : UnitId) : (allocationPass s).unit u = { s.unit u with
    grant := if (s.unit u).state = .feeding ∧ s.pMin u ≤ s.share (accountStage s).shopLimit u / 10 * 10 then
      s.share (accountStage s).shopLimit u / 10 * 10 else 0 } := by
  have hunit : (passBasis s).unit u = s.unit u := by
    rw [passBasis_alone s, syncTold_alone s]
    rfl
  have hgrant : (passBasis s).grantOf (accountStage s).shopLimit u =
      if s.pMin u ≤ s.share (accountStage s).shopLimit u / 10 * 10 then s.share (accountStage s).shopLimit u / 10 * 10 else 0 := by
    simp only [State.grantOf, State.flushes, passBasis_share, passBasis_pMin, tens, Bool.and_eq_true, decide_eq_true_eq]
    split_ifs <;> omega
  rw [allocationPass_unit, hunit, hgrant, ite_and]

theorem flushesTold_alone : s.flushesTold = { s with heats := s.flushesTold.heats, link := s.flushesTold.link } := by
  rw [State.flushesTold, runBegins_alone, State.firstTold, runBegins_alone, syncTold_alone]

theorem flushesTold_flags (st : Station) (f : HeatFlag) : hasFlag (s.flushesTold.record st).flags f =
    (hasFlag (s.record st).flags f || (decide (f = .underrun) && (s.phase st).running && allUnits.any (fun u =>
      decide (s.active u = some st) && look (allocationPass s).alloc.flushMark u && !look s.alloc.flushMark u))) := by
  have hsync : s.syncTold.record st = s.record st := by
    rw [syncTold_alone]
    rfl
  have hsyncPhase : s.syncTold.phase st = s.phase st := congrArg HeatRec.phase hsync
  have hphase : s.firstTold.phase st = s.phase st := by
    rw [← hsyncPhase]
    exact runBegins_phase
  rw [State.flushesTold, runBegins_flags, hphase, State.firstTold, runBegins_flags, hsync, hsyncPhase]
  simp only [allUnits, List.any_cons, List.any_nil, allocationPass_flushes]
  cases decide (f = .underrun) <;> cases (s.phase st).running <;> simp [Bool.or_assoc, Bool.and_comm, Bool.and_left_comm]

theorem flushesTold_heat (st : Station) : s.flushesTold.heat st =
    { s.heat st with record := { s.record st with flags := (s.flushesTold.record st).flags } } := by
  have hsync : s.syncTold.heat st = s.heat st := by
    rw [syncTold_alone]
    rfl
  have hinner : (s.firstTold).heat st = { s.heat st with record := { s.record st with flags := (s.firstTold.record st).flags } } := by
    rw [← hsync, show s.record st = s.syncTold.record st from congrArg StationHeat.record hsync.symm]
    exact runBegins_heat
  have houter : s.flushesTold.heat st =
      { s.firstTold.heat st with record := { s.firstTold.record st with flags := (s.flushesTold.record st).flags } } := runBegins_heat
  rw [houter, show s.firstTold.record st = (s.firstTold.heat st).record from rfl, hinner]

end

/-- Settles O47: the pass is its account, its limits, the runs reported and the grants; each clause reads one of them. -/
theorem allocationPassKeepsTheAccount : Obligations.AllocationPassKeepsTheAccount := by
  intro s hheld shop used elapsed synced lost ended
  have hexec := exec_allocationPass s hheld
  have hpass := allocationPass_told s
  have hunits : (nextFrame (allocationPass s)).units = (allocationPass s).units := nextFrame_units _
  have hheats : (nextFrame (allocationPass s)).heats = s.flushesTold.heats := by
    rw [nextFrame_heats, hpass]
  have halloc : (nextFrame (allocationPass s)).alloc = (allocationPass s).alloc := (nextFrame_untouched _).alloc
  have haccount : (allocationPass s).alloc.eUsed = (accountStage s).alloc.eUsed ∧ (allocationPass s).alloc.t = (accountStage s).alloc.t ∧
      (allocationPass s).alloc.syncLost = (accountStage s).alloc.syncLost ∧
      (allocationPass s).alloc.passTimer = (accountStage s).alloc.passTimer := by
    rw [allocationPass_alloc]
    exact ⟨rfl, rfl, rfl, rfl⟩
  have hlimits : (allocationPass s).alloc.pDem = demandLimit shop (accountStage s).alloc.eUsed (accountStage s).alloc.t ∧
      (allocationPass s).alloc.pCool = coolingLimit shop s.supply := by
    rw [allocationPass_alloc, passBasis, accountStage_cfg]
    have hsupply : (accountStage s).supply = s.supply := by
      rw [accountStage_eq, syncTold_alone]
      rfl
    rw [hsupply]
    exact ⟨rfl, rfl⟩
  obtain ⟨heUsed, ht, hsync, htimer⟩ := haccount
  obtain ⟨hdem, hcool⟩ := hlimits
  have hstage := accountStage_alloc s
  have hrecord : ∀ st, (nextFrame (allocationPass s)).record st = s.flushesTold.record st := fun st => record_of_heats hheats st
  have hheat : ∀ st, (nextFrame (allocationPass s)).heat st = s.flushesTold.heat st := fun st => congrArg (fun h => look h st) hheats
  refine ⟨nextFrame (allocationPass s), (accountStage s).shopLimit, hexec, ?limit, ?alone, ?link, ?told, fun h => ?ended, fun h => ?kept,
    fun h => ?lost, fun h => ?sync, ?timer, fun h => ?openContract, fun h => ?contract, fun h => ?noSupply, fun v h => ⟨fun hv => ?cold,
      fun hv hstop => ?warm, fun hv hstop => ?hot⟩, fun u => ?grants, fun u => ?marks, fun st => ?heats, fun st f => ?flags⟩
  case limit => rw [halloc, allocationPass_limits s]
  case alone =>
    obtain ⟨l, hl⟩ := nextFrame_link_alone (allocationPass s)
    rw [hl, hpass, flushesTold_alone]
  case link => exact linkKept_nextFrame (allocationPass_deed s).standing.link
  case told =>
    intro told raised
    have hraised : s.flushesTold = raised := by
      simp only [State.flushesTold, State.firstTold, runBegins, ← allocationPass_flushes, ← halloc, Bool.and_eq_true, Bool.not_eq_true'] <;>
        rfl
    rw [← hraised, halloc, hunits, ← hpass]
  case ended =>
    rw [halloc, heUsed, ht, hstage]
    exact ⟨if_pos h, if_pos h⟩
  case kept =>
    rw [halloc, heUsed, ht, hstage]
    exact ⟨if_neg h, if_neg h⟩
  case lost =>
    rw [halloc, hsync, hstage]
    exact if_pos h
  case sync =>
    rw [halloc, hsync, hstage]
    exact if_neg h
  case timer =>
    rw [halloc, htimer, hstage]
    rfl
  case openContract => rw [halloc, hdem, demandLimit_open h]
  case contract => rw [halloc, hdem, demandLimit_contract h, heUsed, ht]
  case noSupply => rw [halloc, hcool, h]; rfl
  case cold =>
    rw [halloc, hcool, h]
    exact if_pos hv
  case warm =>
    rw [halloc, hcool, h]
    exact coolingLimit_warm (not_le.mpr hv) hstop
  case hot =>
    rw [halloc, hcool, h]
    exact (if_neg (not_le.mpr hv)).trans (if_neg (not_lt.mpr hstop))
  case grants =>
    rw [State.unit, hunits]
    exact allocationPass_grant s u
  case marks =>
    rw [halloc]
    exact allocationPass_marks s u
  case heats =>
    rw [hheat, hrecord]
    exact flushesTold_heat s st
  case flags =>
    rw [hrecord, halloc]
    exact flushesTold_flags s st f

end Sys2Proof.Machine

/-!
PROOFS. STATION ENABLE and STATION DISABLE (1.2).
-/

namespace Sys2Proof.Machine

/-! ## What shared work keeps of a station -/

/-- Shared work leaves the metal of every station. -/
theorem Shared.metal {s t : State} (h : Shared s t) (o : Station) : (t.heat o).metal = (s.heat o).metal := by
  refine h.keeps (P := fun x => (x.heat o).metal = (s.heat o).metal) (fun a b hab ha => ?_) rfl
  have hplaced : ∀ (st : Station) (h : StationHeat), h.metal = (a.heat st).metal → (look (place a.heats st h) o).metal = (s.heat o).metal :=
    fun st h hmetal => by
      rw [look_place]
      split
      · next hst => exact hmetal.trans (hst ▸ ha)
      · exact ha
  cases hab with
  | notice kind subject v1 v2 v3 => exact ha
  | request st => exact hplaced st _ rfl
  | changeover _ => exact ha
  | @assign i e st _ _ _ _ => exact hplaced st _ rfl
  | @release i e st _ _ _ => exact hplaced st _ rfl
  | call i time => exact ha
  | permit _ _ _ => exact ha
  | openValve _ => exact ha
  | closeValve st => exact ha
  | @flag f st _ => exact hplaced st _ rfl
  | inhibit u => exact ha
  | feed _ => exact ha

/-- A station that is OFF keeps its heat, and every valve stands: what the units and the tap queue do of themselves. -/
structure LeavesOff (st : Station) (s t : State) : Prop where
  heat : s.phase st = .off → t.heat st = s.heat st
  valves : t.valves = s.valves

section
variable {s t x : State} {st o : Station} {u : UnitId}

namespace LeavesOff

theorem refl (s : State) : LeavesOff st s s := ⟨fun _ => rfl, rfl⟩

theorem of_eq (hheats : t.heats = s.heats) (hvalves : t.valves = s.valves) : LeavesOff st s t :=
  ⟨fun _ => by rw [State.heat, hheats]; rfl, hvalves⟩

theorem trans (h : LeavesOff st s t) (k : LeavesOff st t x) : LeavesOff st s x :=
  ⟨fun hoff => (k.heat ((congrArg (fun h : StationHeat => h.record.phase) (h.heat hoff)).trans hoff)).trans (h.heat hoff),
   k.valves.trans h.valves⟩

theorem ite {c : Prop} [Decidable c] (ht : LeavesOff st s t) (hx : LeavesOff st s x) : LeavesOff st s (if c then t else x) := by
  split
  · exact ht
  · exact hx

theorem foldl {α : Type} {f : State → α → State} (h : ∀ s a, LeavesOff st s (f s a)) (xs : List α) (s : State) :
    LeavesOff st s (xs.foldl f s) :=
  List.foldlRecOn xs f (refl s) (fun x hx a _ => hx.trans (h x a))

end LeavesOff

/-- An assignment goes to a station in HOLD. -/
theorem judgeEntry_leavesOff (s : State) (i : Nat) : LeavesOff st s (judgeEntry s i) := by
  rcases judgeEntry_cases s i with h | ⟨e, o, -, -, hchoice, h⟩
  · rw [h]
    exact .refl s
  · refine ⟨fun hoff => ?_, judgeEntry_valves s i⟩
    have hhold : s.phase o = .hold := by
      have helig := choice_eligible s hchoice
      simp only [State.eligible, Bool.and_eq_true, decide_eq_true_eq] at helig
      exact helig.1.1.1.1.1.1.1
    have hne : st ≠ o := fun heq => by rw [heq, hhold] at hoff; cases hoff
    rw [h]
    exact (recompute_heat_other hne).trans (look_place_ne _ _ (Ne.symm hne))

theorem reexamine_leavesOff (s : State) : LeavesOff st s (reexamine s) := by
  cases hlink : s.link.silent
  · rw [reexamine_talking hlink]
    exact .foldl judgeEntry_leavesOff _ s
  · rw [reexamine_silent s hlink]
    exact .refl s

theorem autoEvaluate_leavesOff (s : State) (u : UnitId) : LeavesOff st s (autoEvaluate u s) :=
  .of_eq (autoEvaluate_heats s u) (autoEvaluate_valves s u)

theorem enterInhibited_leavesOff (s : State) (u : UnitId) (ended : Option ChangeoverEnd) : LeavesOff st s (enterInhibited u ended s) := by
  refine LeavesOff.trans (.of_eq ?_ ?_) (reexamine_leavesOff _) <;> cases ended <;> rfl

theorem leaveInhibited_leavesOff (s : State) (u : UnitId) : LeavesOff st s (leaveInhibited u s) := by
  refine LeavesOff.trans ?_ (reexamine_leavesOff _)
  exact LeavesOff.trans (t := noticeTripClear u (s.onUnit u (PowerUnit.feed s.cfg.shop.minDwell))) (.of_eq rfl rfl)
    (autoEvaluate_leavesOff _ u)

theorem abandonRamp_leavesOff (s : State) (u : UnitId) : LeavesOff st s (abandonRamp u s) :=
  LeavesOff.trans (t := noticeChangeover u .abandoned (s.onUnit u (PowerUnit.feed s.cfg.shop.minDwell))) (.of_eq rfl rfl)
    (autoEvaluate_leavesOff _ u)

theorem rejudge_leavesOff (s : State) (u : UnitId) : LeavesOff st s (rejudge u s) := by
  cases hstate : (s.unit u).state with
  | inhibited =>
    rw [rejudge_inhibited hstate]
    exact .ite (leaveInhibited_leavesOff s u) (.refl s)
  | rampDown o =>
    rw [rejudge_rampDown hstate]
    exact .ite (.ite (abandonRamp_leavesOff s u) (.refl s)) (enterInhibited_leavesOff s u _)
  | settling o =>
    rw [rejudge_settling hstate]
    exact .ite (.refl s) (enterInhibited_leavesOff s u _)
  | feeding =>
    rw [rejudge_feeding (.inl hstate)]
    exact .ite (.refl s) (enterInhibited_leavesOff s u _)
  | switching o =>
    rw [rejudge_feeding (.inr ⟨o, hstate⟩)]
    exact .ite (.refl s) (enterInhibited_leavesOff s u _)

theorem handSetChange_leavesOff (s : State) (o : Station) (was : Bool) : LeavesOff st s (handSetChange (.station o) was s) := by
  cases hu : s.unitOf o with
  | none =>
    rw [handSetChange_alone hu]
    exact reexamine_leavesOff s
  | some u =>
    rw [handSetChange_station hu]
    exact LeavesOff.trans (.ite ((rejudge_leavesOff s u).trans (autoEvaluate_leavesOff _ u)) (rejudge_leavesOff s u)) (reexamine_leavesOff _)

theorem withdrawInto_leavesOff (s : State) (w : Program) (r : RunState) (h : (s.program w).target = .station o) :
    LeavesOff st s (withdrawInto w r s) := by
  refine LeavesOff.trans (t := s.onRun w (fun _ => r)) (.of_eq rfl rfl) ?_
  rw [withdrawInto, handMembership, h]
  exact .ite (.refl _) (handSetChange_leavesOff _ o _)

theorem suspendPrograms_leavesOff (s : State) (o : Station) : LeavesOff st s (suspendPrograms o s) := by
  refine .foldl (fun s w => ?_) allPrograms s
  by_cases htarget : (s.program w).target = .station o
  · rw [if_pos htarget]
    exact withdrawInto_leavesOff s w _ htarget
  · rw [if_neg htarget]
    exact .refl s

/-- The unit of a station that becomes OFF gives up a RAMP_DOWN toward it, and does nothing else (R82). -/
theorem tellOff_toward (hu : s.unitOf st = some u) (h : (s.unit u).state = .rampDown st) : tellOff st s = rejudge u s := by
  simp only [tellOff, hu, h, if_pos]

theorem tellOff_still (h : ∀ u, s.unitOf st = some u → (s.unit u).state ≠ .rampDown st) : tellOff st s = s := by
  cases hu : s.unitOf st with
  | none => simp only [tellOff, hu]
  | some u =>
    have hne := h u hu
    cases hstate : (s.unit u).state with
    | rampDown o =>
      have ho : o ≠ st := fun heq => hne (by rw [hstate, heq])
      simp only [tellOff, hu, hstate, if_neg ho]
    | _ => simp only [tellOff, hu, hstate]

theorem tellOff_leavesOff (s : State) (o : Station) : LeavesOff st s (tellOff o s) := by
  by_cases h : ∃ u, s.unitOf o = some u ∧ (s.unit u).state = .rampDown o
  · obtain ⟨u, hu, hstate⟩ := h
    rw [tellOff_toward hu hstate]
    exact rejudge_leavesOff s u
  · rw [tellOff_still (fun u hu hstate => h ⟨u, hu, hstate⟩)]
    exact .refl s

/-- A reply keeps what the way to it has kept of the link. -/
theorem linkKept_posted {r : Reply} (h : Noted s.popped.link t.link) : LinkKept { s with link := s.link.answered r } (t.posted r) := by
  have halone := h.alone
  unfold LinkKept State.posted Link.answered
  rw [halone]
  cases hsending : s.link.sending <;> simp [State.popped, hsending]

end

/-! ## The owners (R8, R9) -/

section
variable {s : State} {p : List Byte} {st : Station}

theorem stationEnableOwner_absent (hl : s.cfg.layout.loaded = true) (hp : u8At p 0 = stationCode st)
    (h : (s.layoutOf st).present = false) : stationEnableOwner p s = refuse s .badValue := by
  rw [stationEnableOwner, namingStation_named _ hl hp, h]
  rfl

theorem stationEnableOwner_present (hl : s.cfg.layout.loaded = true) (hp : u8At p 0 = stationCode st)
    (h : (s.layoutOf st).present = true) : stationEnableOwner p s =
      { state := if look s.enabled st then s else enableStation st s, code := .ok, data := [] } := by
  rw [stationEnableOwner, namingStation_named _ hl hp, h]
  cases look s.enabled st <;> rfl

theorem stationDisableOwner_unknown (hl : s.cfg.layout.loaded = true) (hp : u8At p 0 = stationCode st) (h : s.phase st = .unknown) :
    stationDisableOwner p s = refuse s .wrongPhase := by
  rw [stationDisableOwner, forStation_named _ hl hp (by rw [h]; decide)]
  simp only [h]

theorem stationDisableOwner_metal (hl : s.cfg.layout.loaded = true) (hp : u8At p 0 = stationCode st) (h : (s.phase st).running = true) :
    stationDisableOwner p s = refuse s .metalPresent := by
  rw [stationDisableOwner, forStation_named _ hl hp (fun hoff => by rw [hoff] at h; cases h)]
  cases hphase : s.phase st <;> simp_all [Phase.running]

theorem stationDisableOwner_empty (hl : s.cfg.layout.loaded = true) (hp : u8At p 0 = stationCode st) (h : s.phase st = .empty) :
    stationDisableOwner p s = { state := disableStation st s, code := .ok, data := [] } := by
  rw [stationDisableOwner, forStation_named _ hl hp (by rw [h]; decide)]
  simp only [h]

/-! ## What an ENABLE and a DISABLE come to -/

theorem own_circuit_iff (st : Station) (k : Circuit) : (k = coilOf st ∨ k = leadOf st) ↔ (k.val = st.val ∨ k.val = st.val + 4) := by
  simp [Fin.ext_iff, coilOf, leadOf]

theorem look_ofFn {α : Type} {n : Nat} (f : Fin n → α) (i : Fin n) : look (Vector.ofFn f) i = f i := Vector.getElem_ofFn _

theorem enableStation_eq (s : State) (st : Station) : enableStation st s = reexamine { s with
    enabled := place s.enabled st true
    heats := place s.heats st (StationHeat.clear .empty)
    circuits := Vector.ofFn (fun k => if k.val = st.val ∨ k.val = st.val + 4 then
        { look s.circuits k with evaluated := true, flow := none, delta := none, heat := none, excess := none }
      else look s.circuits k)
    runs := Vector.ofFn (fun w => if (s.program w).target = .station st ∧ (s.program w).enabled = true then
        { RunState.off with state := .watch, periodTimer := some (s.program w).period }
      else s.run w) } := by
  let x : State := { s.onHeat st (fun _ => StationHeat.clear .empty) with enabled := place s.enabled st true }
  have hcircuits : (markStation st true x).circuits = Vector.ofFn (fun k => if k.val = st.val ∨ k.val = st.val + 4 then
        { look s.circuits k with evaluated := true, flow := none, delta := none, heat := none, excess := none }
      else look s.circuits k) := by
    refine bank_ext (fun k => ?_)
    rw [markStation_circuit, look_ofFn]
    simp only [own_circuit_iff]
    rfl
  have hruns : (startPrograms (fun t => t == .station st) (markStation st true x)).runs = Vector.ofFn (fun w =>
      if (s.program w).target = .station st ∧ (s.program w).enabled = true then
        { RunState.off with state := .watch, periodTimer := some (s.program w).period }
      else s.run w) := by
    refine bank_ext (fun w => ?_)
    rw [look_ofFn]
    refine (startPrograms_run _ _ w).trans ?_
    have hstarts : (((s.program w).target == Target.station st) = true ∧ (markStation st true x).live w = true) ↔
        ((s.program w).target = .station st ∧ (s.program w).enabled = true) := by
      rw [beq_iff_eq]
      refine and_congr_right fun htarget => ?_
      have hphase : (markStation st true x).phase st = .empty :=
        congrArg (fun h : StationHeat => h.record.phase) (look_place_same s.heats st (StationHeat.clear .empty))
      have hsuspended : (markStation st true x).suspended (s.program w).target = false := by
        rw [htarget, State.suspended, hphase]
        rfl
      show ((s.program w).enabled && !(markStation st true x).suspended (s.program w).target) = true ↔ _
      rw [hsuspended, Bool.not_false, Bool.and_true]
    by_cases h : (s.program w).target = .station st ∧ (s.program w).enabled = true
    · rw [if_pos h]
      exact if_pos (hstarts.mpr h)
    · rw [if_neg h]
      exact if_neg (mt hstarts.mp h)
  have hstarted : startPrograms (fun t => t == .station st) (markStation st true x) =
      { x with circuits := (markStation st true x).circuits,
               runs := (startPrograms (fun t => t == .station st) (markStation st true x)).runs } := rfl
  show reexamine (startPrograms (fun t => t == .station st) (markStation st true x)) = _
  rw [hstarted, hcircuits, hruns]
  rfl

/-- The part with a station in OFF (R8), before its request is recomputed. -/
def State.closedOff (s : State) (st : Station) : State :=
  { s with
    enabled := place s.enabled st false
    heats := place s.heats st { s.heat st with
      record := HeatRec.clear .off, history := [], aboveMax := false, belowFloor := false, stepTimer := none } }

/-- A closed station as its recomputed request leaves it. -/
theorem recompute_closedOff_heat (s : State) (st : Station) : (recompute st (s.closedOff st)).heat st =
    { s.heat st with
      record := HeatRec.clear .off, history := [], request := 0, need := .idle, aboveMax := false, belowFloor := false, stepTimer := none } := by
  have hheat : (s.closedOff st).heat st = _ := look_place_same _ _ _
  have hphase : ((s.closedOff st).record st).phase = .off := congrArg (fun h : StationHeat => h.record.phase) hheat
  rw [recompute_heat, if_pos rfl, demand_idle (.inr (.inr (.inr hphase))), hheat]
  simp only [Nat.min_zero]

theorem recompute_closedOff_other {o : Station} (h : o ≠ st) : (recompute st (s.closedOff st)).heat o = s.heat o := by
  rw [recompute_heat_other h]
  exact look_place_ne _ _ (Ne.symm h)

/-- The programs of a station withdraw in their order. -/
theorem suspendPrograms_eq (st : Station) (s : State) : suspendPrograms st s = allPrograms.foldl (fun v w =>
    if (v.program w).target = .station st then
      handMembership (.station st) (v.held w) .nothing (v.targetBarred (.station st))
        { v with runs := place v.runs w { RunState.off with positive := (v.run w).positive, negative := (v.run w).negative } }
    else v) s := by
  refine congrArg (fun f => allPrograms.foldl f s) (funext fun v => funext fun w => ?_)
  by_cases h : (v.program w).target = .station st
  · rw [if_pos h, if_pos h, withdrawInto, h]
    rfl
  · rw [if_neg h, if_neg h]

theorem suspendPrograms_cfg (st : Station) (s : State) : (suspendPrograms st s).cfg = s.cfg := (suspendPrograms_rest st allPrograms s).1

theorem suspendPrograms_enabled (st : Station) (s : State) : (suspendPrograms st s).enabled = s.enabled :=
  (suspendPrograms_rest st allPrograms s).2.1

theorem unitOf_of_cfg {t : State} (h : t.cfg = s.cfg) : t.unitOf st = s.unitOf st := by
  rw [State.unitOf, State.layoutOf, h]
  rfl

theorem markStation_unitOf (st : Station) (on : Bool) (s : State) : (markStation st on s).unitOf st = s.unitOf st := rfl

theorem markStation_leavesOff (s : State) (st : Station) : LeavesOff st s (markStation st false s) := .of_eq rfl rfl

theorem markStation_metal (s : State) (st o : Station) : ((markStation st false s).heat o).metal = (s.heat o).metal := rfl

theorem markStation_rest (s : State) (st : Station) : (markStation st false s).enabled = s.enabled ∧ (markStation st false s).cfg = s.cfg :=
  ⟨rfl, rfl⟩

theorem suspendPrograms_run (st : Station) (s : State) (w : Program) : (suspendPrograms st s).run w =
    if (s.program w).target = .station st then suspendRun (s.run w) else s.run w := by
  have h : (suspendPrograms st s).run w = _ := (suspendPrograms_rest st allPrograms s).2.2 w
  rw [h]
  simp only [mem_allPrograms, true_and]

/-- A suspension leaves every circuit and the metal of every station. -/
theorem suspendPrograms_alone (st : Station) (s : State) : (suspendPrograms st s).circuits = s.circuits ∧
    ∀ o, ((suspendPrograms st s).heat o).metal = (s.heat o).metal := by
  refine List.foldlRecOn (motive := fun x : State => x.circuits = s.circuits ∧ ∀ o, (x.heat o).metal = (s.heat o).metal) allPrograms _
    ⟨rfl, fun _ => rfl⟩ (fun x ⟨hcircuits, hmetal⟩ w _ => ?_)
  split
  · have hwork : Shared (x.onRun w (fun _ => suspendRun (x.run w))) (withdrawInto w (suspendRun (x.run w)) x) :=
      handMembership_shared _ ..
    exact ⟨hwork.internal.rest.circuits.trans hcircuits, fun o => (hwork.metal o).trans (hmetal o)⟩
  · exact ⟨hcircuits, hmetal⟩

/-- No suspended program bars its station. -/
theorem suspendPrograms_bars (st : Station) (s : State) : (suspendPrograms st s).bars st = [] := by
  refine List.filter_eq_nil_iff.mpr fun w _ hbars => ?_
  obtain ⟨htrips, htarget⟩ := Bool.and_eq_true_iff.mp hbars
  have hprogram : (suspendPrograms st s).program w = s.program w := by
    rw [State.program, suspendPrograms_cfg]
    rfl
  have hrun : (suspendPrograms st s).run w = suspendRun (s.run w) := by
    rw [suspendPrograms_run, if_pos (by rw [← hprogram]; exact beq_iff_eq.mp htarget)]
  rw [State.held, hrun] at htrips
  cases htrips

end

/-- Settles O30: ENABLE is one state and its re-examination; DISABLE is OFF, then the suspensions, the circuits, the unit and the queue, each of
which leaves the OFF station and every valve alone. -/
theorem stationsAreEnabledAndDisabled : Obligations.StationsAreEnabledAndDisabled := by
  intro s tag p st hp own
  refine ⟨?enable, ?disable⟩
  case enable =>
    intro ha c
    have hl : s.popped.cfg.layout.loaded = true := ha.loaded
    refine ⟨fun h => ?_, fun hpresent hon => ?_, fun hpresent hoff => ?_⟩
    · exact ha.refused (k := .stationEnable) rfl (stationEnableOwner_absent hl hp h)
    · refine ha.answered (k := .stationEnable) rfl ?_ ⟨rfl, rfl⟩
      rw [stationEnableOwner_present hl hp hpresent, if_pos (show look s.popped.enabled st = true from hon)]
    · have hexec : exec c s = .next ((enableStation st s.popped).replied c .ok []) := by
        refine ha.answered (k := .stationEnable) rfl ?_ (enableStation_deed (s := s.popped) st).open
        rw [stationEnableOwner_present hl hp hpresent, if_neg (show ¬ look s.popped.enabled st = true by rw [popped_enabled, hoff]; decide)]
      rw [hexec, enableStation_eq]
      rfl
  case disable =>
    intro ha c
    have hl : s.popped.cfg.layout.loaded = true := ha.loaded
    refine ⟨fun h => ?_, fun h => ?_, ?_⟩
    · exact ha.refused (k := .stationDisable) rfl (stationDisableOwner_unknown hl hp h)
    · exact ha.refused (k := .stationDisable) rfl (stationDisableOwner_metal hl hp h)
    · intro hempty off x y z
      have hexec : exec c s = .next ((disableStation st s.popped).replied c .ok []) :=
        ha.answered (k := .stationDisable) rfl (stationDisableOwner_empty hl hp hempty) (disableStation_deed (s := s.popped) st).open
      have hdisabled : disableStation st s.popped = reexamine z := rfl
      have hdeed : Deed .all s.popped (disableStation st s.popped) := disableStation_deed (s := s.popped) st
      rw [hdisabled] at hexec hdeed
      have hrecomputed := (recompute_internal off st).rest
      have hcfg : x.cfg = s.cfg := (suspendPrograms_cfg st (recompute st off)).trans hrecomputed.cfg
      have hunit : y.unitOf st = s.unitOf st := (markStation_unitOf st false x).trans (unitOf_of_cfg hcfg)
      have halone := suspendPrograms_alone st (recompute st off)
      have hcircuits : x.circuits = s.circuits := halone.1.trans hrecomputed.circuits
      have henabled : x.enabled = place s.enabled st false :=
        (suspendPrograms_enabled st (recompute st off)).trans hrecomputed.enabled
      have hlast : Shared y (reexamine z) := Shared.reexamined (tellOff_shared y st)
      -- the units and the queue leave the OFF station and every valve
      have hwork : LeavesOff st (recompute st off) (reexamine z) :=
        ((LeavesOff.trans (suspendPrograms_leavesOff _ st) (markStation_leavesOff x st)).trans (tellOff_leavesOff y st)).trans (reexamine_leavesOff z)
      have hheat := recompute_closedOff_heat (st := st) s.popped
      generalize reexamine z = t at hexec hdeed hlast hwork ⊢
      refine ⟨hexec, fun w => ?_, suspendPrograms_bars st _, suspendPrograms_eq st _, markStation_alone x st false, fun k => ?_, fun u hu hramp => ?_,
        fun h => ?_, _, hexec, linkKept_posted hdeed.standing.link, fun o ho => ?_, ?_, ?_, ?_, ?_⟩
      · have hrun : (recompute st off).run w = s.run w := by
          rw [State.run, hrecomputed.runs]
          rfl
        have hprogram : (recompute st off).program w = s.program w := by
          rw [State.program, hrecomputed.cfg]
          rfl
        rw [show x.run w = _ from suspendPrograms_run st _ w, hrun, hprogram]
        rfl
      · rw [show look y.circuits k = _ from markStation_circuit x st false k, hcircuits]
        simp only [own_circuit_iff]
        rfl
      · exact tellOff_toward (hunit.trans hu) hramp
      · exact tellOff_still (fun u hu => h u (hunit.symm.trans hu))
      · have hother : (recompute st off).heat o = s.heat o := recompute_closedOff_other (s := s.popped) ho
        exact (((hlast.metal o).trans (markStation_metal x st o)).trans (halone.2 o)).trans (congrArg StationHeat.metal hother)
      · exact (hwork.heat (congrArg (fun h : StationHeat => h.record.phase) hheat)).trans hheat
      · exact (hlast.internal.rest.enabled.trans (markStation_rest x st).1).trans henabled
      · exact hwork.valves.trans (recompute_valves off st)
      · exact (hlast.internal.rest.cfg.trans (markStation_rest x st).2).trans hcfg

end Sys2Proof.Machine

/-!
PROOFS. LAYOUT (1.1).
-/

namespace Sys2Proof.Machine

section
variable {s : State} {p : List Byte} {i : Nat} {u : UnitId} {e : LayoutStation} {es : List LayoutStation}

/-! ## The bytes of a station (R2) -/

/-- A LAYOUT names a unit for a present station. -/
def layoutNames (p : List Byte) (i : Nat) (u : UnitId) : Prop := u8At p (4 * i) = 1 ∧ u8At p (4 * i + 1) = unitCode u

/-- A station that is absent, or present with a unit. -/
def layoutFair (p : List Byte) (i : Nat) : Prop := u8At p (4 * i) ≤ 1 ∧ (u8At p (4 * i) = 1 → ∃ u, layoutNames p i u)

/-- How many stations name a unit. -/
def layoutNamed (p : List Byte) (u : UnitId) : Nat :=
  ([0, 1, 2, 3].filter (fun i => decide (u8At p (4 * i) = 1) && decide (u8At p (4 * i + 1) = unitCode u))).length

theorem layoutEntry_eq_present (h : layoutNames p i u) :
    layoutEntry p i = some { present := true, unit := some u, capacity := u16At p (4 * i + 2) } := by
  have hcode : unitCode u ≠ 0 := Nat.succ_ne_zero _
  rw [layoutEntry, h.1, h.2, unitField, if_neg hcode, unitNumber_unitCode]
  rfl

theorem layoutEntry_eq_absent (h : u8At p (4 * i) = 0) : layoutEntry p i = some LayoutStation.absent := by
  rw [layoutEntry, h]
  rfl

/-- What is no fair station is no entry, or one that is present without a unit. -/
theorem layoutEntry_unfair (h : ¬ layoutFair p i) (he : layoutEntry p i = some e) : e.present = true ∧ e.unit = none := by
  unfold layoutEntry at he
  split at he
  · next hpresent =>
    have hone : u8At p (4 * i) = 1 := by
      unfold yesNoOf at hpresent
      split at hpresent <;> simp_all
    obtain ⟨v, hv, rfl⟩ := Option.map_eq_some_iff.mp he
    refine ⟨rfl, ?_⟩
    cases v with
    | none => rfl
    | some u =>
      refine absurd ⟨by omega, fun _ => ⟨u, hone, ?_⟩⟩ h
      unfold unitField unitNumber at hv
      split_ifs at hv with hzero hrange <;> cases hv
      show _ = u8At p (4 * i + 1) - 1 + 1
      omega
  · next habsent =>
    have hzero : u8At p (4 * i) = 0 := by
      unfold yesNoOf at habsent
      split at habsent <;> simp_all
    exact absurd ⟨by omega, fun h => absurd h (by omega)⟩ h
  · cases he

theorem layoutFair.entry (h : layoutFair p i) : ∃ e, layoutEntry p i = some e := by
  by_cases hpresent : u8At p (4 * i) = 1
  · obtain ⟨u, hu⟩ := h.2 hpresent
    exact ⟨_, layoutEntry_eq_present hu⟩
  · have hle := h.1
    exact ⟨_, layoutEntry_eq_absent (by omega)⟩

theorem unitCode_injective {u v : UnitId} (h : unitCode u = unitCode v) : u = v := Fin.ext (Nat.succ_injective h)

/-- The unit of an entry is the one its bytes name. -/
theorem layoutEntry_unit (he : layoutEntry p i = some e) : e.unit = some u ↔ layoutNames p i u := by
  by_cases hfair : layoutFair p i
  · by_cases hpresent : u8At p (4 * i) = 1
    · obtain ⟨v, hv⟩ := hfair.2 hpresent
      rw [layoutEntry_eq_present hv] at he
      cases he
      simp only [Option.some.injEq]
      exact ⟨fun h => h ▸ hv, fun h => unitCode_injective (hv.2.symm.trans h.2)⟩
    · have hle := hfair.1
      rw [layoutEntry_eq_absent (by omega)] at he
      cases he
      exact ⟨fun h => (nomatch h), fun h => absurd h.1 hpresent⟩
  · rw [(layoutEntry_unfair hfair he).2]
    refine ⟨fun h => (nomatch h), fun h => absurd ⟨Nat.le_of_eq h.1, fun _ => ⟨u, h⟩⟩ hfair⟩

/-- The four entries, each at its place. -/
theorem layoutEntries_eq (h : layoutEntries p = some es) :
    ∃ e : Nat → LayoutStation, es = [0, 1, 2, 3].map e ∧ ∀ i ∈ [0, 1, 2, 3], layoutEntry p i = some (e i) := by
  unfold layoutEntries at h
  simp only [Option.bind_eq_bind, Option.bind_eq_some_iff, Option.some.injEq] at h
  obtain ⟨a, ha, b, hb, c, hc, d, hd, rfl⟩ := h
  refine ⟨fun i => [a, b, c, d].getD i LayoutStation.absent, rfl, ?_⟩
  simp only [List.mem_cons, List.not_mem_nil, or_false]
  rintro i (rfl | rfl | rfl | rfl)
  exacts [ha, hb, hc, hd]

theorem layoutEntries_of_fair (h : ∀ i < 4, layoutFair p i) : ∃ es, layoutEntries p = some es := by
  obtain ⟨a, ha⟩ := (h 0 (by omega)).entry
  obtain ⟨b, hb⟩ := (h 1 (by omega)).entry
  obtain ⟨c, hc⟩ := (h 2 (by omega)).entry
  obtain ⟨d, hd⟩ := (h 3 (by omega)).entry
  exact ⟨[a, b, c, d], by simp [layoutEntries, ha, hb, hc, hd]⟩

theorem namedBy_eq (h : layoutEntries p = some es) (u : UnitId) : namedBy es u = layoutNamed p u := by
  obtain ⟨e, rfl, he⟩ := layoutEntries_eq h
  rw [namedBy, layoutNamed, List.filter_map, List.length_map]
  refine congrArg List.length (List.filter_congr fun i hi => ?_)
  have hunit := layoutEntry_unit (u := u) (he i hi)
  rw [Bool.eq_iff_iff]
  simpa [layoutNames] using hunit

/-- What refuses a LAYOUT with BAD_VALUE (R2, orders 2 to 5). -/
def layoutBad (p : List Byte) : Prop :=
  (∃ i < 4, ¬ layoutFair p i) ∨ ∃ u, 2 < layoutNamed p u ∨ (0 < layoutNamed p u ∧ (u16At p (16 + 2 * u.val) < 250 ∨ 8000 < u16At p (16 + 2 * u.val)))

theorem layoutRefused_iff (h : layoutEntries p = some es) : layoutRefused p es = true ↔ layoutBad p := by
  have hnamed := namedBy_eq h
  obtain ⟨e, rfl, he⟩ := layoutEntries_eq h
  have hfair : (∃ i < 4, ¬ layoutFair p i) ↔ ∃ x ∈ [0, 1, 2, 3].map e, x.present = true ∧ x.unit = none := by
    simp only [List.mem_map, exists_exists_and_eq_and]
    refine ⟨fun ⟨i, hi, hnot⟩ => ?_, fun ⟨i, hi, hpresent, hunit⟩ => ?_⟩
    · have hmem : i ∈ [0, 1, 2, 3] := by simp; omega
      exact ⟨i, hmem, layoutEntry_unfair hnot (he i hmem)⟩
    · refine ⟨i, by simp at hi; omega, fun hfair => ?_⟩
      by_cases hone : u8At p (4 * i) = 1
      · obtain ⟨u, hu⟩ := hfair.2 hone
        rw [(layoutEntry_unit (he i hi)).mpr hu] at hunit
        cases hunit
      · have hle := hfair.1
        have habsent := (layoutEntry_eq_absent (by omega)).symm.trans (he i hi)
        rw [← Option.some.inj habsent] at hpresent
        cases hpresent
  simp only [layoutRefused, Bool.or_eq_true, List.any_eq_true, Bool.and_eq_true, decide_eq_true_eq, hnamed, layoutBad, hfair,
    Option.isNone_iff_eq_none, mem_allUnits, true_and, or_assoc, exists_or]
  rfl

/-! ## The record (R2) -/

/-- A LAYOUT that R2 does not refuse has four fair entries. -/
theorem layoutFair_of_not_bad (h : ¬ layoutBad p) : ∀ i < 4, layoutFair p i := fun i hi => by
  by_contra hnot
  exact h (.inl ⟨i, hi, hnot⟩)

theorem layoutRecord_station (p : List Byte) (e : Nat → LayoutStation) (st : Station) :
    look (layoutRecord p ([0, 1, 2, 3].map e)).stations st = (e st.val).clamped := by
  match st with
  | 0 | 1 | 2 | 3 => rfl

theorem clamped_present_eq (u : UnitId) (n : Nat) : LayoutStation.clamped { present := true, unit := some u, capacity := n } =
    { present := true, unit := some u, capacity := min 12000 (max 500 n) } := rfl

/-- The stored entry of a station. -/
theorem layoutRecord_present (h : layoutEntries p = some es) {st : Station} {u : UnitId} (hu : layoutNames p st.val u) :
    look (layoutRecord p es).stations st = { present := true, unit := some u, capacity := min 12000 (max 500 (u16At p (4 * st.val + 2))) } := by
  obtain ⟨e, rfl, he⟩ := layoutEntries_eq h
  have hst : st.val ∈ [0, 1, 2, 3] := by simp; omega
  have hentry := (layoutEntry_eq_present hu).symm.trans (he _ hst)
  rw [layoutRecord_station, ← Option.some.inj hentry]
  exact clamped_present_eq u _

theorem layoutRecord_absent (h : layoutEntries p = some es) {st : Station} (hst : u8At p (4 * st.val) = 0) :
    look (layoutRecord p es).stations st = { present := false, unit := none, capacity := 0 } := by
  obtain ⟨e, rfl, he⟩ := layoutEntries_eq h
  have hmem : st.val ∈ [0, 1, 2, 3] := by simp; omega
  have hentry := (layoutEntry_eq_absent hst).symm.trans (he _ hmem)
  rw [layoutRecord_station, ← Option.some.inj hentry]
  rfl

/-- Nothing was brought into range exactly where every capacity lay in it. -/
theorem layoutEntries_clamped_iff (h : layoutEntries p = some es) (hgood : ¬ layoutBad p) : es.map LayoutStation.clamped = es ↔
    ∀ i < 4, u8At p (4 * i) = 1 → 500 ≤ u16At p (4 * i + 2) ∧ u16At p (4 * i + 2) ≤ 12000 := by
  obtain ⟨e, rfl, he⟩ := layoutEntries_eq h
  have heach : ∀ i < 4, (e i).clamped = e i ↔ (u8At p (4 * i) = 1 → 500 ≤ u16At p (4 * i + 2) ∧ u16At p (4 * i + 2) ≤ 12000) := by
    intro i hi
    have hentry := he i (by simp; omega)
    have hfair := layoutFair_of_not_bad hgood i hi
    by_cases hone : u8At p (4 * i) = 1
    · obtain ⟨u, hu⟩ := hfair.2 hone
      rw [← Option.some.inj ((layoutEntry_eq_present hu).symm.trans hentry), clamped_present_eq]
      simp only [LayoutStation.mk.injEq, true_and, hone, forall_const]
      omega
    · have hle := hfair.1
      rw [← Option.some.inj ((layoutEntry_eq_absent (by omega)).symm.trans hentry)]
      exact ⟨fun _ h => absurd h hone, fun _ => rfl⟩
  rw [List.map_map]
  simp only [List.map_cons, List.map_nil, List.cons.injEq, and_true, Function.comp_apply]
  constructor
  · rintro ⟨h0, h1, h2, h3⟩ i hi
    refine (heach i hi).mp ?_
    match i, hi with
    | 0, _ => exact h0
    | 1, _ => exact h1
    | 2, _ => exact h2
    | 3, _ => exact h3
  · intro h
    exact ⟨(heach 0 (by omega)).mpr (h 0 (by omega)), (heach 1 (by omega)).mpr (h 1 (by omega)), (heach 2 (by omega)).mpr (h 2 (by omega)),
      (heach 3 (by omega)).mpr (h 3 (by omega))⟩

end

/-! ## What a layout adopts (R3) -/

section
variable {s : State} {u : UnitId} {st : Station}

/-- A fold that changes some places of a bank, each once. -/
theorem look_foldl_change {α : Type} {n : Nat} (c : Fin n → Bool) (f : Fin n → α → α) {is : List (Fin n)} (his : is.Nodup) (b : Bank α n)
    (i : Fin n) : look (is.foldl (fun b j => if c j then place b j (f j (look b j)) else b) b) i =
      if i ∈ is ∧ c i = true then f i (look b i) else look b i := by
  induction is generalizing b with
  | nil => simp
  | cons j is ih =>
    obtain ⟨hj, his⟩ := List.nodup_cons.mp his
    rw [List.foldl_cons, ih his]
    by_cases hij : i = j
    · subst hij
      rw [if_neg (fun h => hj h.1)]
      by_cases hc : c i = true
      · rw [if_pos hc, if_pos ⟨List.mem_cons_self, hc⟩, look_place_same]
      · rw [if_neg hc, if_neg (fun h => hc h.2)]
    · have hsame : look (if c j then place b j (f j (look b j)) else b) i = look b i := by
        split
        · exact look_place_ne _ _ (Ne.symm hij)
        · rfl
      rw [hsame]
      simp only [List.mem_cons, hij, false_or]

theorem adoptStations_eq (ks : List Station) (s : State) : ks.foldl adoptStation s = { s with
    enabled := ks.foldl (fun b j => if (s.layoutOf j).present then place b j true else b) s.enabled
    heats := ks.foldl (fun b j => if (s.layoutOf j).present then place b j (StationHeat.clear .empty) else b) s.heats } := by
  induction ks generalizing s with
  | nil => rfl
  | cons k ks ih =>
    rw [List.foldl_cons, List.foldl_cons, List.foldl_cons, ih]
    cases h : (s.layoutOf k).present <;> simp only [adoptStation, h] <;> rfl

/-- The record of a used unit as R3 leaves it. -/
def adopted (s : State) (u : UnitId) (p : PowerUnit) : PowerUnit :=
  { p with
    position := s.shown u
    causes := { p.causes with
      noLayout := false, restart := true
      unitFault := p.causes.unitFault || look s.lines.unitFault u
      pump := p.causes.pump || s.lines.pumpFault
      switch := p.causes.switch || (s.shown u).isNone } }

theorem adoptUnits_eq (ks : List UnitId) (s : State) : ks.foldl adoptUnit s = { s with
    units := ks.foldl (fun b j => if s.used j then place b j (adopted s j (look b j)) else b) s.units } := by
  induction ks generalizing s with
  | nil => rfl
  | cons k ks ih =>
    rw [List.foldl_cons, List.foldl_cons, ih]
    cases h : s.used k <;> simp only [adoptUnit, h] <;> rfl

theorem markEvaluated_eq (s : State) : markEvaluated s = { s with
    circuits := allCircuits.foldl (fun b j => if true then place b j { look b j with evaluated := s.shouldEvaluate j } else b) s.circuits } := by
  have key : ∀ (ks : List Circuit) (x : State),
      ks.foldl (fun x c => x.onCircuit c (fun y => { y with evaluated := s.shouldEvaluate c })) x = { x with
        circuits := ks.foldl (fun b j => if true then place b j { look b j with evaluated := s.shouldEvaluate j } else b) x.circuits } := by
    intro ks
    induction ks with
    | nil => exact fun x => rfl
    | cons k ks ih => exact fun x => (ih _).trans rfl
  exact key allCircuits s

variable {v : State}

/-- The part with its stations and units adopted. -/
def State.adoptedUnits (v : State) : State := allUnits.foldl adoptUnit (allStations.foldl adoptStation v)

theorem adoptedUnits_eq (v : State) : v.adoptedUnits = { v with
    enabled := (allStations.foldl adoptStation v).enabled
    heats := (allStations.foldl adoptStation v).heats
    units := v.adoptedUnits.units } := by
  unfold State.adoptedUnits
  rw [adoptUnits_eq, adoptStations_eq]

theorem startPrograms_alone (which : Target → Bool) (s : State) :
    startPrograms which s = { s with runs := (startPrograms which s).runs } := rfl

theorem adoptLayout_started (v : State) : adoptLayout v = { markEvaluated v.adoptedUnits with runs := (adoptLayout v).runs } :=
  startPrograms_alone (fun _ => true) (markEvaluated v.adoptedUnits)

theorem adoptLayout_eq (v : State) : adoptLayout v = { v with
    enabled := (allStations.foldl adoptStation v).enabled
    heats := (allStations.foldl adoptStation v).heats
    units := v.adoptedUnits.units
    circuits := (markEvaluated v.adoptedUnits).circuits
    runs := (adoptLayout v).runs } := by
  have hmark : markEvaluated v.adoptedUnits = { v.adoptedUnits with circuits := (markEvaluated v.adoptedUnits).circuits } := by
    rw [markEvaluated_eq]
  refine (adoptLayout_started v).trans ?_
  generalize (adoptLayout v).runs = r
  generalize (markEvaluated v.adoptedUnits).circuits = c at hmark ⊢
  rw [hmark]
  generalize hx : v.adoptedUnits = x
  rw [adoptedUnits_eq] at hx
  rw [← hx]

theorem adoptLayout_alone (v : State) : adoptLayout v = { v with
    enabled := (adoptLayout v).enabled
    heats := (adoptLayout v).heats
    units := (adoptLayout v).units
    circuits := (adoptLayout v).circuits
    runs := (adoptLayout v).runs } := by
  rw [adoptLayout_eq]

theorem adoptLayout_program (v : State) (w : Program) : (adoptLayout v).program w = v.program w := by
  rw [adoptLayout_eq]
  rfl

theorem adoptLayout_enabled (v : State) (st : Station) :
    look (adoptLayout v).enabled st = ((v.layoutOf st).present || look v.enabled st) := by
  rw [adoptLayout_eq, adoptStations_eq]
  refine (look_foldl_change (fun j => (v.layoutOf j).present) (fun _ _ => true) (by decide) v.enabled st).trans ?_
  simp only [mem_allStations, true_and]
  cases (v.layoutOf st).present <;> rfl

theorem adoptLayout_heat (v : State) (st : Station) :
    (adoptLayout v).heat st = if (v.layoutOf st).present = true then StationHeat.clear .empty else v.heat st := by
  rw [adoptLayout_eq, adoptStations_eq]
  refine (look_foldl_change (fun j => (v.layoutOf j).present) (fun _ _ => StationHeat.clear .empty) (by decide) v.heats st).trans ?_
  simp only [mem_allStations, true_and]
  rfl

theorem adoptLayout_shown (v : State) (u : UnitId) : (adoptLayout v).shown u = v.shown u := by
  rw [adoptLayout_eq]
  rfl

theorem adoptLayout_unit (v : State) (u : UnitId) :
    (adoptLayout v).unit u = if v.used u = true then adopted v u (v.unit u) else v.unit u := by
  rw [adoptLayout_eq, State.adoptedUnits, adoptUnits_eq, adoptStations_eq]
  refine (look_foldl_change (fun j => v.used j) (adopted v) (by decide) v.units u).trans ?_
  simp only [mem_allUnits, true_and]
  rfl

theorem mem_allCircuits (k : Circuit) : k ∈ allCircuits := by
  revert k
  decide

/-- A circuit is to be evaluated with its station, or with its unit (R113). -/
theorem shouldEvaluate_eq (s : State) (k : Circuit) : s.shouldEvaluate k =
    if k.val < 8 then look s.enabled ⟨k.val % 4, by omega⟩ else s.used ⟨(k.val - 8) % 2, by omega⟩ := by
  match k with
  | 0 | 1 | 2 | 3 | 4 | 5 | 6 | 7 | 8 | 9 => rfl

theorem adoptedUnits_used (v : State) (u : UnitId) : v.adoptedUnits.used u = v.used u := by
  rw [adoptedUnits_eq]
  rfl

theorem adoptedUnits_enabled (v : State) : v.adoptedUnits.enabled = (adoptLayout v).enabled := by
  rw [adoptedUnits_eq, adoptLayout_eq]

theorem adoptedUnits_circuits (v : State) : v.adoptedUnits.circuits = v.circuits := by
  rw [adoptedUnits_eq]

theorem markEvaluated_circuit (s : State) (k : Circuit) :
    look (markEvaluated s).circuits k = { look s.circuits k with evaluated := s.shouldEvaluate k } := by
  rw [markEvaluated_eq]
  have hlook := look_foldl_change (fun _ => true) (fun j (c : CircuitSt) => { c with evaluated := s.shouldEvaluate j })
    (show allCircuits.Nodup by decide) s.circuits k
  rw [if_pos ⟨mem_allCircuits k, rfl⟩] at hlook
  exact hlook

theorem adoptLayout_circuit (v : State) (k : Circuit) : look (adoptLayout v).circuits k = { look v.circuits k with
    evaluated := if k.val < 8 then look (adoptLayout v).enabled ⟨k.val % 4, by omega⟩ else v.used ⟨(k.val - 8) % 2, by omega⟩ } := by
  have hcircuits : (adoptLayout v).circuits = (markEvaluated v.adoptedUnits).circuits := by rw [adoptLayout_eq]
  rw [hcircuits, markEvaluated_circuit, adoptedUnits_circuits, shouldEvaluate_eq, adoptedUnits_enabled, adoptedUnits_used]

theorem live_of_runs (s : State) (r : Bank RunState 16) (w : Program) : ({ s with runs := r } : State).live w = s.live w := rfl

theorem program_of_runs (s : State) (r : Bank RunState 16) (w : Program) : ({ s with runs := r } : State).program w = s.program w := rfl

/-- The programs that are live now enter WATCH (R130). -/
theorem adoptLayout_run (v : State) (w : Program) : (adoptLayout v).run w =
    if (adoptLayout v).live w = true then RunState.fresh ((adoptLayout v).program w).period else v.run w := by
  have hrun : (adoptLayout v).run w = _ := startPrograms_run (fun _ => true) (markEvaluated v.adoptedUnits) w
  have hlive : (adoptLayout v).live w = (markEvaluated v.adoptedUnits).live w :=
    (congrArg (fun x : State => x.live w) (adoptLayout_started v)).trans (live_of_runs _ _ w)
  have hprogram : (adoptLayout v).program w = (markEvaluated v.adoptedUnits).program w :=
    (congrArg (fun x : State => x.program w) (adoptLayout_started v)).trans (program_of_runs _ _ w)
  have hold : (markEvaluated v.adoptedUnits).run w = v.run w := by
    rw [markEvaluated_eq, adoptedUnits_eq]
    rfl
  rw [hrun, ← hlive, ← hprogram, hold]
  simp only [true_and]

/-! ## The owner (R2) -/

variable {p : List Byte} {es : List LayoutStation}

theorem layoutOwner_locked (h : s.cfg.layout.loaded = true) : layoutOwner p s = refuse s .layoutLocked := if_pos h

theorem layoutOwner_bad (h : s.cfg.layout.loaded = false) (hbad : layoutBad p) : layoutOwner p s = refuse s .badValue := by
  rw [layoutOwner, if_neg (by rw [h]; decide)]
  cases hes : layoutEntries p with
  | none => rfl
  | some es => exact if_pos ((layoutRefused_iff hes).mpr hbad)

theorem layoutOwner_taken (h : s.cfg.layout.loaded = false) (hgood : ¬ layoutBad p) (hes : layoutEntries p = some es) : layoutOwner p s =
    { state := takeLayout (layoutRecord p es) s, code := if es.map LayoutStation.clamped = es then .ok else .clamped, data := [] } := by
  rw [layoutOwner, if_neg (by rw [h]; decide), hes]
  exact if_neg (mt (layoutRefused_iff hes).mp hgood)

theorem layoutRecord_pairs (hes : layoutEntries p = some es) (hgood : ¬ layoutBad p) (st : Station) (u : UnitId) :
    ((look (layoutRecord p es).stations st).present && ((look (layoutRecord p es).stations st).unit == some u)) = true ↔
      layoutNames p st.val u := by
  have hfair := layoutFair_of_not_bad hgood st.val st.isLt
  by_cases hone : u8At p (4 * st.val) = 1
  · obtain ⟨v, hv⟩ := hfair.2 hone
    rw [layoutRecord_present hes hv, Bool.true_and, beq_iff_eq, Option.some.injEq]
    exact ⟨fun h => h ▸ hv, fun h => unitCode_injective (hv.2.symm.trans h.2)⟩
  · have hle := hfair.1
    rw [layoutRecord_absent hes (by omega), Bool.false_and]
    exact ⟨fun h => (nomatch h), fun h => absurd h.1 hone⟩

theorem layoutNamed_pos_iff : 0 < layoutNamed p u ↔ ∃ st : Station, layoutNames p st.val u := by
  rw [layoutNamed, List.length_pos_iff_exists_mem]
  simp only [List.mem_filter, Bool.and_eq_true, decide_eq_true_eq]
  constructor
  · rintro ⟨i, hi, hnames⟩
    exact ⟨⟨i, by simp at hi; omega⟩, hnames⟩
  · rintro ⟨st, hnames⟩
    exact ⟨st.val, by simp; omega, hnames⟩

theorem layoutPresent (hes : layoutEntries p = some es) (hgood : ¬ layoutBad p) (st : Station) :
    ((s.laidOut (layoutRecord p es)).layoutOf st).present = decide (u8At p (4 * st.val) = 1) := by
  show (look (layoutRecord p es).stations st).present = _
  have hfair := layoutFair_of_not_bad hgood st.val st.isLt
  by_cases hone : u8At p (4 * st.val) = 1
  · obtain ⟨v, hv⟩ := hfair.2 hone
    rw [layoutRecord_present hes hv, decide_eq_true hone]
  · have hle := hfair.1
    rw [layoutRecord_absent hes (by omega), decide_eq_false hone]

/-- A unit is used where a station names it. -/
theorem laidOut_used (s : State) (hes : layoutEntries p = some es) (hgood : ¬ layoutBad p) (u : UnitId) :
    (s.laidOut (layoutRecord p es)).used u = decide (0 < layoutNamed p u) := by
  rw [Bool.eq_iff_iff, decide_eq_true_iff, layoutNamed_pos_iff, State.used, Bool.not_eq_true', ← Bool.not_eq_true,
    List.isEmpty_iff, State.paired, List.filter_eq_nil_iff]
  simp only [not_forall, not_not, mem_allStations, exists_const]
  exact exists_congr fun st => layoutRecord_pairs hes hgood st u

end

/-- Settles O29: the entries as their bytes give them, what refuses them, and what each adopted piece reads. -/
theorem layoutIsLoadedOnce : Obligations.LayoutIsLoadedOnce := by
  intro s tag p c present names named rating bad htakes hlen
  have hfits : RequestKind.layout.fits p = true := fits_of_length hlen
  have hbad : bad ↔ layoutBad p := by
    have hfair : ∀ i, (1 < u8At p (4 * i) ∨ (present i ∧ ¬ ∃ u, names i u)) ↔ ¬ layoutFair p i := fun i => by
      rw [layoutFair, not_and_or, Nat.not_le, Classical.not_imp]
      exact Iff.rfl
    refine or_congr ?_ Iff.rfl
    simp only [hfair]
  refine ⟨fun h => ?_, fun h hb => ?_, fun h hgood => ?_⟩
  · exact serveRequest_refused (k := .layout) rfl htakes hfits (layoutOwner_locked h)
  · exact serveRequest_refused (k := .layout) rfl htakes hfits (layoutOwner_bad h (hbad.mp hb))
  · have hgood := mt hbad.mpr hgood
    obtain ⟨es, hes⟩ := layoutEntries_of_fair (layoutFair_of_not_bad hgood)
    have hadopt := adoptLayout_alone (s.popped.laidOut (layoutRecord p es))
    have hshown := adoptLayout_shown (s.popped.laidOut (layoutRecord p es))
    have hused := laidOut_used s.popped hes hgood
    refine ⟨layoutRecord p es, adoptLayout (s.popped.laidOut (layoutRecord p es)),
      if es.map LayoutStation.clamped = es then .ok else .clamped, rfl, fun st => ⟨fun hpresent => ?stored, fun habsent => ?blank⟩,
      fun u => ?rating, ?state, fun st => ?enabled, fun st => ?heat, fun u => ?unit, fun k => ?circuit, fun w => ?run, ?replies, ?code, ?next⟩
    case stored =>
      obtain ⟨u, hu⟩ := (layoutFair_of_not_bad hgood st.val st.isLt).2 hpresent
      exact ⟨u, hu, layoutRecord_present hes hu⟩
    case blank =>
      have hle := (layoutFair_of_not_bad hgood st.val st.isLt).1
      have hne : u8At p (4 * st.val) ≠ 1 := habsent
      exact layoutRecord_absent hes (by omega)
    case rating =>
      rw [look_ratings, keptRating, namedBy_eq hes]
      rfl
    case state => exact hadopt
    case enabled =>
      rw [adoptLayout_enabled, layoutPresent hes hgood]
      rfl
    case heat =>
      rw [adoptLayout_heat, layoutPresent hes hgood]
      simp only [decide_eq_true_iff]
      rfl
    case unit =>
      rw [adoptLayout_unit, hused, hshown]
      simp only [decide_eq_true_iff]
      rfl
    case circuit =>
      rw [adoptLayout_circuit, hused]
      rfl
    case run =>
      rw [adoptLayout_run, adoptLayout_program]
      rfl
    case replies => split <;> simp
    case code =>
      rw [← layoutEntries_clamped_iff hes hgood]
      split
      · next hsame => exact iff_of_true rfl hsame
      · next hsame => exact iff_of_false (by decide) hsame
    case next =>
      have howner := layoutOwner_taken (s := s.popped) h hgood hes
      have hexec := exec_commandOf_answered (k := .layout) htakes ((if_pos hfits).trans howner) (takeLayout_deed s.popped (layoutRecord p es)).open
      rw [takeLayout_eq] at hexec
      exact hexec

end Sys2Proof.Machine

/-!
PROOFS. PROGRAM EVALUATION (7.2 to 7.6).
-/

namespace Sys2Proof.Machine

section
variable {s : State} {r : ProgramRec} {x : RunState} {v : Int} {d : Dir}

/-! ## The run state's transition (R132 to R137) -/

/-- The run state an evaluation that reads INVALID judges (R132). -/
def RunState.unread (r : ProgramRec) (x : RunState) : RunState :=
  { x with periodTimer := some r.period, stale := min r.staleLimit (x.stale + 1), lastResult := some .invalid }

/-- What is applied when a COUNT ends is nothing or stands. -/
theorem endCount_applied (x : RunState) : (endCount x).applied = x.applied := by
  unfold endCount
  cases h : x.applied <;> simp [enterLatched, enterWatch, h]

theorem enterStale_endCount (r : ProgramRec) (x : RunState) : enterStale r (endCount x) = enterStale r x := by
  unfold enterStale
  rw [endCount_applied]
  unfold endCount
  split <;> rfl

/-- An evaluation that reads INVALID enters STALE at the limit, and otherwise ends a COUNT (R132). -/
theorem evaluate_invalid (r : ProgramRec) (x : RunState) : evaluate r none x =
    if x.state ≠ .stale ∧ r.staleLimit ≤ min r.staleLimit (x.stale + 1) then
      { run := enterStale r (x.unread r), cleared := none, entry := some (2, r.onStale) }
    else { run := if x.state = .count then endCount (x.unread r) else { x.unread r with debounce := 0 }, cleared := none, entry := none } := by
  obtain ⟨state, direction, latchedDir, lastConfirmed, debounce, stale, applied, lastResult, positive, negative, periodTimer⟩ := x
  cases state with
  | count =>
    simp only [evaluate, judgeInvalid, enterStale_endCount]
    rfl
  | _ => rfl

/-- The run state an evaluation that reads a valid value judges (R131). -/
def RunState.read (r : ProgramRec) (v : Int) (x : RunState) : RunState :=
  { x with periodTimer := some r.period, stale := 0,
           lastResult := some (match candidate r v with | some d => d.finding | none => .neither) }

theorem evaluate_off (h : x.state = .off) : evaluate r (some v) x = { run := x.read r v, cleared := none, entry := none } := by
  obtain ⟨state, direction, latchedDir, lastConfirmed, debounce, stale, applied, lastResult, positive, negative, periodTimer⟩ := x
  cases h
  rfl

theorem evaluate_idle (h : x.state = .watch ∨ x.state = .latched) :
    evaluate r (some v) x = judgeIdle r (candidate r v) none (x.read r v) := by
  obtain ⟨state, direction, latchedDir, lastConfirmed, debounce, stale, applied, lastResult, positive, negative, periodTimer⟩ := x
  rcases h with h | h <;> cases h <;> rfl

theorem evaluate_count (h : x.state = .count) (hd : candidate r v = some d) :
    evaluate r (some v) x = countTo r d (if x.direction = some d then x.debounce + 1 else 1) none (x.read r v) := by
  simp only [evaluate, judgeValid, h, hd, RunState.read]

theorem evaluate_uncounted (h : x.state = .count) (hd : candidate r v = none) :
    evaluate r (some v) x = { run := endCount (x.read r v), cleared := none, entry := none } := by
  simp only [evaluate, judgeValid, h, hd, RunState.read]

theorem evaluate_active (h : x.state = .active) :
    evaluate r (some v) x = judgeActive r (x.direction.getD .high) v (x.read r v) := by
  obtain ⟨state, direction, latchedDir, lastConfirmed, debounce, stale, applied, lastResult, positive, negative, periodTimer⟩ := x
  cases h
  rfl

theorem evaluate_stale (h : x.state = .stale) : evaluate r (some v) x =
    if r.clear = .latch ∧ x.applied.isSome = true then judgeIdle r (candidate r v) none (enterLatched (some (staleDirection x)) (x.read r v))
    else judgeIdle r (candidate r v) (x.applied.map Prod.fst) (enterWatch (x.read r v)) := by
  obtain ⟨state, direction, latchedDir, lastConfirmed, debounce, stale, applied, lastResult, positive, negative, periodTimer⟩ := x
  cases h
  rfl

/-- An excursion goes on until the value has come back, then counts toward clearing (R135). -/
theorem judgeActive_eq (r : ProgramRec) (d : Dir) (v : Int) (x : RunState) : judgeActive r d v x =
    if clears r d v = false then { run := { x with debounce := 0 }, cleared := none, entry := none }
    else if x.debounce + 1 < r.debounce then { run := { x with debounce := x.debounce + 1 }, cleared := none, entry := none }
    else if r.clear = .latch ∧ x.applied ≠ none then { run := enterLatched (some d) x, cleared := none, entry := none }
    else { run := enterWatch x, cleared := x.applied.map Prod.fst, entry := none } := by
  unfold judgeActive
  simp only [Option.isSome_iff_ne_none, ← Nat.not_le]
  cases clears r d v <;> by_cases h : r.debounce ≤ x.debounce + 1 <;> simp [h]

/-! ## What is handed on (R138, R140 to R142) -/

theorem exec_programEvaluation_due (hheld : s.resetHeld = false) {w : Program} (hlive : s.live w = true)
    (htimer : (s.run w).periodTimer = some 0) : exec (.programEvaluation w) s = .next (nextFrame (evaluateProgram w s)) := by
  have hdue : (s.live w && (s.run w).periodTimer == some 0) = true := by rw [hlive, htimer]; rfl
  refine (whileRunning_taken (fun s => if s.live w && (s.run w).periodTimer == some 0 then evaluateProgram w s else s) s hheld).trans ?_
  simp only [hdue, if_pos]

theorem exec_programEvaluation_still (hheld : s.resetHeld = false) {w : Program} (h : s.live w = false ∨ (s.run w).periodTimer ≠ some 0) :
    exec (.programEvaluation w) s = .next (nextFrame s) := by
  have hnot : (s.live w && (s.run w).periodTimer == some 0) = false := by
    rw [Bool.and_eq_false_iff, beq_eq_false_iff_ne]
    exact h
  refine (whileRunning_taken (fun s => if s.live w && (s.run w).periodTimer == some 0 then evaluateProgram w s else s) s hheld).trans ?_
  simp only [hnot]
  rfl

/-- The part once the CLEARED notice and the membership of an evaluation have been handed on (R138). -/
def State.membershipMoved (s : State) (w : Program) (v : Option Int) (h : Handed) : State :=
  let stored := s.onRun w (fun _ => h.run)
  handMembership (s.program w).target (s.held w) (stored.held w) (s.targetBarred (s.program w).target)
    (match h.cleared with
      | some a => noticeWatch w 3 a v stored
      | none => stored)

theorem handOn_alone {w : Program} {v : Option Int} {h : Handed} (hentry : h.entry = none) : handOn w v h s = s.membershipMoved w v h := by
  simp only [handOn, hentry]
  rfl

theorem handOn_entered {w : Program} {v : Option Int} {h : Handed} {n : Nat} {a : Action} (hentry : h.entry = some (n, a)) :
    handOn w v h s = handEntry w n a v (s.membershipMoved w v h) := by
  simp only [handOn, hentry]
  rfl

theorem membershipMoved_program {w : Program} {v : Option Int} {h : Handed} : (s.membershipMoved w v h).program w = s.program w := by
  have hcfg : (s.membershipMoved w v h).cfg = s.cfg := by
    refine (handMembership_shared _ ..).internal.rest.cfg.trans ?_
    cases h.cleared <;> rfl
  rw [State.program, hcfg]
  rfl

/-- An entry opens the valves of an emergency, raises WATER and tells, in that order (R138). -/
theorem handEntry_eq (w : Program) (n : Nat) (a : Action) (v : Option Int) (s : State) : handEntry w n a v s =
    let sts := s.reached (s.program w).target
    let opened := if a = .emergency then sts.foldl (openIfMetal (causeProgram w)) s else s
    let wet := if a = .trip ∨ a = .emergency then sts.foldl (fun x st => if (x.phase st).holdsMetal then raise .water st x else x) opened
      else opened
    if a = .nothing then wet else noticeWatch w n a v wet := by
  unfold handEntry
  simp only [trips_iff]

end

/-- Settles O52: the input, the run state's transition state by state, then what `handOn` does with it. -/
theorem evaluationMovesTheProgram : Obligations.EvaluationMovesTheProgram := by
  intro s w hheld r old circuit metal input ownAction source event holding watch latch stopCount active count idle invalid valid h held
    stored told moved stations
  have hinput : s.input r = input := by
    show s.input r = match r.quantity with | .flow => _ | .returned => _ | .delta => _ | .heat => _ | .excess => _ | .supply => _ | .bath => _
    unfold State.input
    cases r.quantity with
    | bath => simp only [Bool.and_eq_true, decide_eq_true_eq]; rfl
    | _ => rfl
  have hholding : ∀ a src x, holding a src x = applyAction a src x := fun a src x => by cases x <;> rfl
  have hactive : ∀ d x, active d x = enterActive r d x := fun d x => by
    cases d <;> simp only [active, hholding] <;> rfl
  have hcount : ∀ d n c x, count d n c x = countTo r d n c x := fun d n c x => by
    simp only [count, hactive]
    cases d <;> rfl
  have hidle : ∀ d c x, idle d c x = judgeIdle r d c x := fun d c x => by
    cases d with
    | none => rfl
    | some d => exact hcount d 1 c x
  have hinvalid : invalid = evaluate r none old := by
    rw [evaluate_invalid]
    simp only [invalid, hholding]
    rfl
  have hlatch : ∀ d x, latch d x = enterLatched d x := fun d x => rfl
  have hwatch : ∀ x, watch x = enterWatch x := fun x => rfl
  have hstop : ∀ x, stopCount x = endCount x := fun x => rfl
  have hvalid : ∀ v, valid v = evaluate r (some v) old := fun v => by
    have hfound : (if r.high ≠ 32767 ∧ r.high < v then some .high else if r.low ≠ -32768 ∧ v < r.low then some .low else none) =
        candidate r v := rfl
    simp only [valid, hfound]
    generalize old = y
    obtain ⟨state, direction, latchedDir, lastConfirmed, debounce, stale, applied, lastResult, positive, negative, periodTimer⟩ := y
    cases state with
    | off =>
      rw [evaluate_off rfl, RunState.read]
      rcases candidate r v with - | (- | -) <;> rfl
    | watch =>
      rw [evaluate_idle (.inl rfl), RunState.read]
      simp only [hidle]
      rcases candidate r v with - | (- | -) <;> rfl
    | latched =>
      rw [evaluate_idle (.inr rfl), RunState.read]
      simp only [hidle]
      rcases candidate r v with - | (- | -) <;> rfl
    | count =>
      simp only [hcount, hstop]
      cases hcand : candidate r v with
      | none =>
        rw [evaluate_uncounted rfl hcand, RunState.read, hcand]
      | some d =>
        rw [evaluate_count rfl hcand, RunState.read, hcand]
        cases d <;> rfl
    | active =>
      rw [evaluate_active rfl, judgeActive_eq, RunState.read]
      simp only [hlatch, hwatch]
      rcases candidate r v with - | (- | -) <;> rfl
    | stale =>
      rw [evaluate_stale rfl, RunState.read]
      simp only [hlatch, hwatch, hidle]
      generalize r.clear = clear
      rcases applied with - | ⟨a, src⟩
      · cases clear <;> rcases candidate r v with - | (- | -) <;> rfl
      · cases clear with
        | latch => cases src <;> rcases candidate r v with - | (- | -) <;> rfl
        | _ => rcases candidate r v with - | (- | -) <;> rfl
  have hjudged : h = evaluate r input old := by
    show (match input with | some v => valid v | none => invalid) = _
    generalize input = i
    cases i with
    | none => exact hinvalid
    | some v => exact hvalid v
  refine ⟨fun hstill => exec_programEvaluation_still hheld hstill, fun hlive htimer => ?_⟩
  have hexec : exec (.programEvaluation w) s = .next (nextFrame (handOn w input h s)) := by
    rw [exec_programEvaluation_due hheld hlive htimer, evaluateProgram, hinput, hjudged]
  have hmoved : s.membershipMoved w input h = moved := by
    show handMembership r.target (s.held w) ((s.onRun w (fun _ => h.run)).held w) (s.targetBarred r.target) _ = moved
    have hrun : (s.onRun w (fun _ => h.run)).run w = h.run := (State.onRun_run s w w _).trans (if_pos rfl)
    have hheld : (s.onRun w (fun _ => h.run)).held w = held h.run :=
      (show (s.onRun w (fun _ => h.run)).held w = held ((s.onRun w (fun _ => h.run)).run w) from rfl).trans (congrArg held hrun)
    rw [hheld]
    rfl
  have hprogram : moved.program w = r := hmoved ▸ membershipMoved_program
  refine ⟨fun hentry => ?alone, fun n a hentry => ?entered⟩
  case alone => rw [hexec, handOn_alone hentry, hmoved]
  case entered =>
    have hstations : stations moved = moved.reached r.target := by
      show (match r.target with | .unit u => moved.paired u | .station st => [st]) = _
      unfold State.reached
      cases r.target <;> rfl
    refine ⟨_, _, rfl, rfl, ?_⟩
    rw [hexec, handOn_entered hentry, hmoved, handEntry_eq, hprogram, ← hstations]
    rfl

end Sys2Proof.Machine

/-!
PROOFS. The model step (2.4): what the bath does, and what the step reports, judges and hands on.
-/

namespace Sys2Proof.Machine

section
variable {s : State} {st : Station} {shop : ShopRec} {sr : StationRec} {g : GradeRec} {power : Nat} {e : Int} {r : HeatRec}

/-! ## The bath (R26 to R30) -/

theorem meltedMass_eq (h : Nat) (e : Int) (r : HeatRec) :
    meltedMass h e r = max (-(r.liquid : Int)) (min r.solid (Int.tdiv e (h * 1000 : Nat))) := by
  unfold meltedMass
  dsimp only
  split_ifs <;> omega

theorem stageClamp_eq (t : Int) : stageClamp t = ((max 11000 (min 16500 t)).toNat, decide (t < 11000 ∨ 16500 < t)) := by
  have hlow : Config.tLow = 11000 := rfl
  have hhigh : Config.tHigh = 16500 := rfl
  unfold stageClamp
  rw [hlow, hhigh]
  split_ifs with h1 h2
  · rw [decide_eq_true (.inr h1)]
    exact congrArg (fun n => (n, true)) (by omega)
  · rw [decide_eq_true (.inl h2)]
    exact congrArg (fun n => (n, true)) (by omega)
  · rw [decide_eq_false (show ¬ (t < 11000 ∨ 16500 < t) by omega)]
    exact congrArg (fun n => (n, false)) (by omega)

/-- The estimate of the bath before its clamp (R27, R29). -/
def bathBefore (shop : ShopRec) (e : Int) (r : HeatRec) : Int :=
  if 0 < r.solid then (shop.tMelt : Int)
  else if r.liquid = 0 then (r.tEst : Int) else (r.tEst : Int) + Int.tdiv e (r.liquid * shop.c10 : Nat)

/-- The energy a step leaves over (R27, R29, R30). -/
def bathRest (shop : ShopRec) (e : Int) (r : HeatRec) : Int :=
  let melts := meltedMass shop.h e r
  if bathBefore shop e r < 11000 ∨ 16500 < bathBefore shop e r then 0
  else if 0 < r.solid then
    (if ((r.liquid : Int) + melts).toNat = 0 ∧ 0 < ((r.solid : Int) - melts).toNat then 0 else e - melts * (shop.h * 1000 : Nat))
  else if r.liquid = 0 then 0 else e - Int.tdiv e (r.liquid * shop.c10 : Nat) * (r.liquid * shop.c10 : Nat)

/-- Stages 4 to 6: metal, estimate and residual. -/
theorem stageBath_eq (shop : ShopRec) (e : Int) (r : HeatRec) : stageBath shop e r =
    ({ r with
        solid := if 0 < r.solid then ((r.solid : Int) - meltedMass shop.h e r).toNat else 0
        liquid := if 0 < r.solid then ((r.liquid : Int) + meltedMass shop.h e r).toNat else r.liquid
        tEst := (max 11000 (min 16500 (bathBefore shop e r))).toNat
        residual := bathRest shop e r },
     decide (bathBefore shop e r < 11000 ∨ 16500 < bathBefore shop e r)) := by
  by_cases hsolid : 0 < r.solid
  · have hbath : bathBefore shop e r = shop.tMelt := if_pos hsolid
    simp only [stageBath, bathRest, stageMelt, stageClamp_eq, if_pos hsolid, hbath, decide_eq_true_eq]
  · have hbath : bathBefore shop e r = (stageHeat shop.c10 e r).1 := by
      unfold bathBefore stageHeat
      rw [if_neg hsolid]
      split <;> rfl
    have hrest : (if r.liquid = 0 then 0 else e - Int.tdiv e (r.liquid * shop.c10 : Nat) * (r.liquid * shop.c10 : Nat)) =
        (stageHeat shop.c10 e r).2 := by
      unfold stageHeat
      split <;> rfl
    have hnone : r.solid = 0 := by omega
    simp only [stageBath, bathRest, stageClamp_eq, if_neg hsolid, hbath, hrest, decide_eq_true_eq]
    rw [← hnone]

theorem availableEnergy_eq (sr : StationRec) (power : Nat) (r : HeatRec) : availableEnergy sr power r =
    ((power * sr.eta : Nat) : Int) - ((if r.liquid = 0 ∨ r.tEst ≤ 250 then 0 else sr.lRef * (r.tEst - 250) * 1000 / 14250 : Nat) : Int)
      + r.residual := by
  have hloss : (if r.liquid = 0 then 0 else lossAt sr.lRef r.tEst) =
      if r.liquid = 0 ∨ r.tEst ≤ 250 then 0 else sr.lRef * (r.tEst - 250) * 1000 / 14250 := by
    unfold lossAt
    by_cases h : r.liquid = 0 <;> simp [h]
  rw [availableEnergy, hloss]

/-! ## What the step leaves of the station and its lining (R28 to R32) -/

/-- The heat of the step, its record written out. -/
theorem bathStep_heat (shop : ShopRec) (sr : StationRec) (g : GradeRec) (power : Nat) (h : StationHeat) (l : LiningRec) :
    (bathStep shop sr g power h l).heat =
      let r := h.record
      let e := availableEnergy sr power r
      let solid := ((r.solid : Int) - meltedMass shop.h e r).toNat
      let tEst := (max 11000 (min 16500 (bathBefore shop e r))).toNat
      let aged := r.liquidAge.map (fun n => min 4294967294 (n + 1))
      { h with
        record := { r with
          phase := if 0 < r.solid ∧ solid = 0 then .hold else r.phase
          solid := if 0 < r.solid then solid else 0
          liquid := if 0 < r.solid then ((r.liquid : Int) + meltedMass shop.h e r).toNat else r.liquid
          tEst := tEst
          residual := bathRest shop e r
          energy := min 4294967295 (r.energy + power * sr.eta / 1000)
          lastDip := r.lastDip.map (fun d => { d with age := min 4294967295 (d.age + 1) })
          liquidAge := if 0 < r.solid ∧ solid = 0 then some (aged.getD 0) else aged }
        aboveMax := decide (g.maximum < tEst)
        belowFloor := decide ((r.phase = .hold ∨ r.phase = .superheat) ∧ tEst + 2 * g.holdBand < g.holdTarget)
        stepTimer := some 1000 } := by
  simp only [bathStep, stageBath_eq, stageCount, isAboveMax, isBelowFloor]
  by_cases hsolid : 0 < h.record.solid
  · simp only [hsolid, if_true, true_and, decide_true, Bool.true_and, decide_eq_true_eq]
    split <;> simp only [meltDoneRecord, Bool.decide_and, Bool.decide_or] <;> rfl
  · simp only [hsolid, if_false, false_and, decide_false, Bool.false_and, Bool.false_eq_true, Bool.decide_and, Bool.decide_or]
    rfl

theorem bathStep_lining (shop : ShopRec) (sr : StationRec) (g : GradeRec) (power : Nat) (h : StationHeat) (l : LiningRec) :
    (bathStep shop sr g power h l).lining =
      let r := h.record
      let e := availableEnergy sr power r
      let tEst := (max 11000 (min 16500 (bathBefore shop e r))).toNat
      { l with
        melted := min 4294967295 (l.melted + (if 0 < r.solid then (meltedMass shop.h e r).toNat else 0))
        peak := max l.peak tEst
        overtemp := if g.maximum < tEst then min 4294967295 (l.overtemp + 1) else l.overtemp } := by
  simp only [bathStep, stageBath_eq, stageLining]
  by_cases h : 0 < h.record.solid <;> simp only [h, if_true, if_false] <;> rfl

theorem bathStep_found (shop : ShopRec) (sr : StationRec) (g : GradeRec) (power : Nat) (h : StationHeat) (l : LiningRec) :
    let b := bathStep shop sr g power h l
    let e := availableEnergy sr power h.record
    (b.meltDone = true ↔ 0 < h.record.solid ∧ ((h.record.solid : Int) - meltedMass shop.h e h.record).toNat = 0) ∧
    (b.clamped = true ↔ bathBefore shop e h.record < 11000 ∨ 16500 < bathBefore shop e h.record) ∧
    (b.overtemp = true ↔ b.heat.aboveMax = true ∧ h.aboveMax = false) ∧
    (b.undertemp = true ↔ b.heat.belowFloor = true ∧ h.belowFloor = false) := by
  refine ⟨?_, ?_, ?_, ?_⟩
  · by_cases hsolid : 0 < h.record.solid
    · simp only [bathStep, stageBath_eq, stageCount, hsolid, if_true, decide_true, Bool.true_and, decide_eq_true_eq, true_and]
    · simp only [bathStep, hsolid, decide_false, Bool.false_and, Bool.false_eq_true, false_and]
  · simp only [bathStep, stageBath_eq, decide_eq_true_eq]
  · simp only [bathStep, Bool.and_eq_true, Bool.not_eq_true']
  · simp only [bathStep, Bool.and_eq_true, Bool.not_eq_true']

/-! ## What follows the bath (R33) -/

/-- What an untouched part can have changed. -/
theorem Untouched.eq {t : State} (h : Untouched s t) :
    t = { s with heats := t.heats, units := t.units, valves := t.valves, taps := t.taps, link := t.link } := by
  obtain ⟨hcfg, henabled, hlinings, hcounter, hinflow, houtflow, halloc, hchannels, hcircuits, hreservoir, hruns, hlines, hheld, hclock,
    hpending⟩ := h
  cases t
  simp only [State.mk.injEq, true_and]
  exact ⟨hcfg, henabled, hlinings, hcounter, hinflow, houtflow, halloc, hchannels, hcircuits, hreservoir, hruns, hlines, hheld, hclock, hpending⟩

theorem release_valves (i : Nat) (e : QueueEntry) (st : Station) (why : ReleaseReason) (s : State) :
    (release i e st why s).valves = s.valves := by
  simp [release, toHold]

theorem stationChecks_valves (st : Station) (s : State) : (stationChecks st s).valves = s.valves := by
  have hrelease : ∀ x : State, (releaseCheck st x).valves = x.valves := fun x => by
    unfold releaseCheck
    split
    · split
      · exact release_valves ..
      · rfl
    · rfl
  have hdip : ∀ x : State, (dipWantedCheck st x).valves = x.valves := fun x => by
    unfold dipWantedCheck
    repeat' split
    all_goals rfl
  have hready : ∀ x : State, (readinessCheck st x).valves = x.valves := fun x => by
    unfold readinessCheck
    repeat' split
    all_goals rfl
  exact ((hready _).trans (hdip _)).trans (hrelease s)

/-- A raise of a flag other than WATER leaves the valves. -/
theorem raise_valves {f : HeatFlag} (hf : f ≠ .water) (st : Station) (s : State) : (raise f st s).valves = s.valves := by
  rw [raise_alone hf]

theorem raise_linings {f : HeatFlag} (hf : f ≠ .water) (st : Station) (s : State) : (raise f st s).linings = s.linings := by
  rw [raise_alone hf]

theorem valves_ite {c : Prop} [Decidable c] {f : State → State} {x : State} (h : (f x).valves = x.valves) :
    (if c then f x else x).valves = x.valves := by
  split
  · exact h
  · rfl

/-- What stages 1 to 7 store, before their notices. -/
def State.bathed (s : State) (st : Station) : State :=
  { s with heats := place s.heats st (s.bathStepOf st).heat, linings := place s.linings st (s.bathStepOf st).lining }

/-- A step's stages report one after another: CLAMPED, the lining, OVERTEMP, UNDERTEMP, MELT DONE (log entries 11 and 12). -/
theorem storeBathStep_eq (st : Station) (s : State) : storeBathStep st s =
    let old := look s.linings st
    let b := s.bathStepOf st
    let x := if b.clamped = true then raise .clamped st (s.bathed st) else s.bathed st
    let c := if old.spent = false ∧ b.lining.spent = true
      then x.notify .lining (stationCode st) (some b.lining.melted) (some b.lining.limit) none else x
    let d := if b.overtemp = true then raise .overtemp st c else c
    let f := if b.undertemp = true then raise .undertemp st d else d
    if b.meltDone = true
      then f.notify .meltDone (stationCode st) (some b.heat.record.heatNo) (some b.heat.record.liquid) (some b.heat.record.energy)
      else f := by
  have hlining : look (if (s.bathStepOf st).clamped = true then raise .clamped st (s.bathed st) else s.bathed st).linings st =
      (s.bathStepOf st).lining := by
    split
    · rw [raise_linings (by decide)]
      exact look_place_same _ _ _
    · exact look_place_same _ _ _
  have hedge : liningEdge st (look s.linings st) (if (s.bathStepOf st).clamped = true then raise .clamped st (s.bathed st) else s.bathed st) =
      if (look s.linings st).spent = false ∧ (s.bathStepOf st).lining.spent = true
      then State.notify (if (s.bathStepOf st).clamped = true then raise .clamped st (s.bathed st) else s.bathed st) .lining (stationCode st)
        (some (s.bathStepOf st).lining.melted) (some (s.bathStepOf st).lining.limit) none
      else (if (s.bathStepOf st).clamped = true then raise .clamped st (s.bathed st) else s.bathed st) := by
    unfold liningEdge noticeLining
    rw [hlining]
    simp only [Bool.and_eq_true, Bool.not_eq_true']
    rfl
  simp only
  rw [← hedge]
  rfl

theorem storeBathStep_valves (st : Station) (s : State) : (storeBathStep st s).valves = s.valves := by
  rw [storeBathStep_eq]
  refine (valves_ite (f := fun x => x.notify .meltDone _ _ _ _) rfl).trans ?_
  refine (valves_ite (f := raise .undertemp st) (raise_valves (by decide) ..)).trans ?_
  refine (valves_ite (f := raise .overtemp st) (raise_valves (by decide) ..)).trans ?_
  refine (valves_ite (f := fun x => x.notify .lining _ _ _ _) rfl).trans ?_
  exact valves_ite (f := raise .clamped st) (raise_valves (by decide) ..)

theorem modelStep_valves (st : Station) (s : State) : (modelStep st s).valves = s.valves := by
  unfold modelStep
  rw [stationChecks_valves]
  split <;> simp [storeBathStep_valves]

/-- A station in HOLD or SUPERHEAT stays in one of them under shared work. -/
theorem Shared.held {s t : State} (h : Shared s t) {st : Station} (hs : s.phase st = .hold ∨ s.phase st = .superheat) :
    t.phase st = .hold ∨ t.phase st = .superheat := by
  refine h.keeps (P := fun x => x.phase st = .hold ∨ x.phase st = .superheat) (fun a b hab ha => ?_) hs
  have hplaced : ∀ (o : Station) (h : StationHeat), h.record.phase = .hold ∨ h.record.phase = .superheat ∨ h.record.phase = a.phase o →
      (look (place a.heats o h) st).record.phase = .hold ∨ (look (place a.heats o h) st).record.phase = .superheat := fun o h hphase => by
    rw [look_place]
    split
    · next ho =>
      subst ho
      rcases hphase with h | h | h
      · exact .inl h
      · exact .inr h
      · rw [h]; exact ha
    · exact ha
  cases hab with
  | request o => exact hplaced o _ (.inr (.inr rfl))
  | @assign i e o _ _ _ _ => exact hplaced o _ (.inr (.inl rfl))
  | @release i e o _ _ _ => exact hplaced o _ (.inl rfl)
  | @flag f o _ => exact hplaced o _ (.inr (.inr rfl))
  | _ => exact ha

theorem exec_modelStep_running (hheld : s.resetHeld = false) (h : (s.phase st).running = true) :
    exec (.modelStep st) s = .next (nextFrame (modelStep st s)) :=
  (whileRunning_taken (fun s => if (s.phase st).running then modelStep st s else s) s hheld).trans (by simp only [h, if_pos])

theorem exec_modelStep_still (hheld : s.resetHeld = false) (h : (s.phase st).running = false) :
    exec (.modelStep st) s = .next (nextFrame s) :=
  (whileRunning_taken (fun s => if (s.phase st).running then modelStep st s else s) s hheld).trans (by simp [h])

end

/-- Settles O37: the bath step is its stages, its notices those of `storeBathStep_eq`; what follows keeps the metal of every station. -/
theorem modelStepMovesTheBath : Obligations.ModelStepMovesTheBath := by
  intro s st hheld
  refine ⟨exec_modelStep_still hheld, ?_⟩
  intro hrunning r shop sr power loss e melts solid liquid rise warmed bath rest tEst meltDone aged g old lining spent heat a b c d f stepped
  have hexec := exec_modelStep_running hheld hrunning
  have hpower : s.stationPower st = power := rfl
  have hstep : s.bathStepOf st = bathStep shop sr g power (s.heat st) old := by
    rw [State.bathStepOf, hpower]
    rfl
  have he : availableEnergy sr power (s.heat st).record = e := availableEnergy_eq sr power r
  have hmelts : meltedMass shop.h e (s.heat st).record = melts := meltedMass_eq shop.h e r
  have hbath : bathBefore shop e (s.heat st).record = bath := rfl
  have hrest : bathRest shop e (s.heat st).record = rest := by
    unfold bathRest
    simp only [hmelts, hbath]
    rfl
  have hheat : (s.bathStepOf st).heat = heat := by
    rw [hstep, bathStep_heat]
    simp only [he, hmelts, hbath, hrest]
    rfl
  have hlining : (s.bathStepOf st).lining = lining := by
    rw [hstep, bathStep_lining]
    simp only [he, hmelts, hbath]
    rfl
  obtain ⟨hdone, hclamped, hover, hunder⟩ := bathStep_found shop sr g power (s.heat st) old
  rw [← hstep, he, hmelts] at hdone
  rw [← hstep, he, hbath] at hclamped
  rw [← hstep, hheat] at hover hunder
  have hold : (look s.linings st).spent = false ↔ ¬ spent old := by
    rw [← Bool.not_eq_true]
    exact not_congr (spent_iff old)
  have hnew : lining.spent = true ↔ spent lining := spent_iff lining
  have hstored : storeBathStep st s =
      if meltDone then f.notify .meltDone (stationCode st) (some r.heatNo) (some heat.record.liquid) (some heat.record.energy) else f := by
    have ha : s.bathed st = a := by rw [State.bathed, hheat, hlining]
    have hb : (if (s.bathStepOf st).clamped = true then raise .clamped st (s.bathed st) else s.bathed st) = b := by
      rw [ha]
      exact if_congr hclamped rfl rfl
    have hc : (if (look s.linings st).spent = false ∧ lining.spent = true
        then b.notify .lining (stationCode st) (some lining.melted) (some lining.limit) none else b) = c :=
      if_congr (and_congr hold hnew) rfl rfl
    have hd : (if (s.bathStepOf st).overtemp = true then raise .overtemp st c else c) = d := if_congr hover rfl rfl
    have hf : (if (s.bathStepOf st).undertemp = true then raise .undertemp st d else d) = f := if_congr hunder rfl rfl
    rw [storeBathStep_eq]
    simp only
    rw [hb, hheat, hlining, hc, hd, hf]
    exact if_congr hdone rfl rfl
  have hstep' : modelStep st s = stationChecks st (if meltDone then reexamine stepped else stepped) := by
    unfold modelStep
    rw [hstored]
    exact congrArg (stationChecks st) (if_congr hdone rfl rfl)
  refine ⟨by rw [hexec, hstep'], nextFrame (modelStep st s), hexec, ?_⟩
  -- what the shared work after the bath keeps
  have hshared := modelStep_shared s st
  have hvalves := modelStep_valves st s
  rw [hheat, hlining] at hshared
  generalize modelStep st s = y at hshared hvalves
  have hrest := hshared.internal.rest
  have hmetal : (y.heat st).metal = heat.metal := (hshared.metal st).trans (congrArg StationHeat.metal (look_place_same _ _ _))
  have hothers : ∀ o, o ≠ st → (y.heat o).metal = (s.heat o).metal := fun o ho =>
    (hshared.metal o).trans (congrArg StationHeat.metal (look_place_ne _ _ (Ne.symm ho)))
  have hheat' : (nextFrame y).heat st = y.heat st := by rw [State.heat, nextFrame_heats]; rfl
  have hrecord' : (nextFrame y).record st = y.record st := congrArg StationHeat.record hheat'
  have hphase' : (nextFrame y).phase st = y.phase st := congrArg HeatRec.phase hrecord'
  have hkept : ∀ {α : Type} (p : StationHeat → α), p (y.heat st).metal = p heat.metal := fun p => congrArg p hmetal
  refine ⟨?state, linkKept_nextFrame hshared.standing.link, fun o ho => ?others, ?_⟩
  case state =>
    have huntouched := (hrest.trans (nextFrame_untouched y)).eq
    rw [show (nextFrame y).valves = s.valves by rw [nextFrame_valves, hvalves]] at huntouched
    exact huntouched
  case others =>
    rw [show (nextFrame y).heat o = y.heat o by rw [State.heat, nextFrame_heats]; rfl]
    exact hothers o ho
  rw [hheat', hrecord', hphase']
  refine ⟨hkept (fun h => h.record.solid), hkept (fun h => h.record.liquid), hkept (fun h => h.record.tEst), hkept (fun h => h.record.residual),
    hkept (fun h => h.record.energy), hkept (fun h => h.record.lastDip), hkept (fun h => h.record.grade), hkept (fun h => h.record.heatNo),
    hkept (fun h => h.record.chargeNo), hkept (fun h => h.history), hkept (fun h => h.stepTimer), hkept (fun h => h.aboveMax),
    hkept (fun h => h.belowFloor), fun hend => ⟨?aged, ?held⟩, fun hnot => ?still⟩
  case aged => exact (hkept (fun h => h.record.liquidAge)).trans (if_pos hend)
  case held =>
    refine hshared.held (.inl ?_)
    exact (congrArg (fun h : StationHeat => h.record.phase) (look_place_same s.heats st heat)).trans (if_pos hend)
  case still => exact (hkept (fun h => h.record.liquidAge)).trans (if_neg hnot)

end Sys2Proof.Machine

/-!
PROOFS. The flags and the phase of a model step (2.6, 8.2).
-/

namespace Sys2Proof.Machine

section
variable {s t x : State} {st o : Station} {f g : HeatFlag} {e d : QueueEntry} {i : Nat}

/-! ## Flags that the scheduler leaves alone -/

/-- The flags of a station. -/
def State.flagsOf (s : State) (st : Station) : FlagSet := (s.record st).flags

theorem recompute_flagsOf (a : Station) (s : State) : (recompute a s).flagsOf = s.flagsOf :=
  funext fun o => congrArg HeatRec.flags (recompute_record s a o)

theorem onRecord_flagsOf (s : State) (a : Station) {p : HeatRec → HeatRec} (hp : ∀ r, (p r).flags = r.flags) :
    (s.onRecord a p).flagsOf = s.flagsOf := by
  funext o
  rw [State.flagsOf, State.onRecord_record]
  split
  · next h => rw [hp, h]; rfl
  · rfl

theorem assign_flagsOf (i : Nat) (e : QueueEntry) (a : Station) (s : State) : (assign i e a s).flagsOf = s.flagsOf := by
  show (recompute a ((s.onEntry i _).onRecord a _)).flagsOf = _
  rw [recompute_flagsOf]
  exact onRecord_flagsOf (s.onEntry i _) a (fun _ => rfl)

theorem reexamine_flagsOf (s : State) : (reexamine s).flagsOf = s.flagsOf :=
  reexamine_keeps s (fun x => x.flagsOf = s.flagsOf) (fun x i e a hx _ _ _ => (assign_flagsOf i e a x).trans hx) rfl

theorem release_flagsOf (i : Nat) (e : QueueEntry) (a : Station) (why : ReleaseReason) (s : State) : (release i e a why s).flagsOf = s.flagsOf := by
  unfold release
  simp only
  rw [reexamine_flagsOf]
  show (recompute a ((s.onEntry i _).onRecord a _)).flagsOf = _
  rw [recompute_flagsOf]
  exact onRecord_flagsOf (s.onEntry i _) a (fun _ => rfl)

theorem releaseCheck_flagsOf (a : Station) (s : State) : (releaseCheck a s).flagsOf = s.flagsOf := by
  unfold releaseCheck
  split
  · split
    · exact release_flagsOf ..
    · rfl
  · rfl

theorem dipWantedCheck_heats (a : Station) (s : State) : (dipWantedCheck a s).heats = s.heats := by
  unfold dipWantedCheck
  repeat' split
  all_goals rfl

theorem readinessCheck_heats (a : Station) (s : State) : (readinessCheck a s).heats = s.heats := by
  unfold readinessCheck
  repeat' split
  all_goals rfl

theorem stationChecks_flagsOf (a : Station) (s : State) : (stationChecks a s).flagsOf = s.flagsOf := by
  have hheats : (stationChecks a s).heats = (releaseCheck a s).heats := (readinessCheck_heats a _).trans (dipWantedCheck_heats a _)
  have hflags : (stationChecks a s).flagsOf = (releaseCheck a s).flagsOf := funext fun o => by
    rw [State.flagsOf, State.record, hheats]
    rfl
  exact hflags.trans (releaseCheck_flagsOf a s)

/-! ## Flags that the step's own stages set -/

/-- A stage that raises a flag of a running station where its condition holds. -/
theorem raiseIf_flags (hf : f ≠ .water) {c : Prop} [Decidable c] (hrun : (x.phase st).running = true) :
    hasFlag ((if c then raise f st x else x).flagsOf st) g = (hasFlag (x.flagsOf st) g || (decide c && decide (g = f))) := by
  split
  · next hc =>
    rw [State.flagsOf, raise_flags hf, hrun]
    simp [hc, State.flagsOf]
  · next hc => simp [hc]

/-- A heat but for its flags. -/
def StationHeat.unflagged (h : StationHeat) : StationHeat := { h with record := { h.record with flags := 0 } }

theorem raiseIf_unflagged (hf : f ≠ .water) {c : Prop} [Decidable c] :
    ((if c then raise f st x else x).heat o).unflagged = (x.heat o).unflagged := by
  split
  · rw [raise_heat hf]
    rfl
  · rfl

theorem notifyIf_heats {c : Prop} [Decidable c] {kind : NoticeKind} {n : Nat} {v1 v2 v3 : Option Int} :
    (if c then x.notify kind n v1 v2 v3 else x).heats = x.heats := by
  split <;> rfl

/-- The stored step leaves the heat of its bath, but for flags. -/
theorem storeBathStep_unflagged (st : Station) (s : State) :
    ((storeBathStep st s).heat st).unflagged = (s.bathStepOf st).heat.unflagged := by
  have hnotify : ∀ {c : Prop} [Decidable c] {x : State} {kind : NoticeKind} {n : Nat} {v1 v2 v3 : Option Int},
      ((if c then x.notify kind n v1 v2 v3 else x).heat st).unflagged = (x.heat st).unflagged := fun {c} _ {x} {_ _ _ _ _} =>
    congrArg (fun h => (look h st).unflagged) (notifyIf_heats (x := x) (c := c))
  rw [storeBathStep_eq]
  refine hnotify.trans ((raiseIf_unflagged (by decide)).trans ((raiseIf_unflagged (by decide)).trans (hnotify.trans
    ((raiseIf_unflagged (by decide)).trans ?_))))
  exact congrArg StationHeat.unflagged (look_place_same _ _ _)

theorem raiseIf_phase (hf : f ≠ .water) {c : Prop} [Decidable c] : (if c then raise f st x else x).phase o = x.phase o := by
  have h := congrArg (fun h : StationHeat => h.record.phase) (raiseIf_unflagged (st := st) (x := x) (o := o) (c := c) hf)
  exact h

theorem notifyIf_phase {c : Prop} [Decidable c] {kind : NoticeKind} {n : Nat} {v1 v2 v3 : Option Int} :
    (if c then x.notify kind n v1 v2 v3 else x).phase o = x.phase o := by
  split <;> rfl

theorem notifyIf_flagsOf {c : Prop} [Decidable c] {kind : NoticeKind} {n : Nat} {v1 v2 v3 : Option Int} :
    (if c then x.notify kind n v1 v2 v3 else x).flagsOf = x.flagsOf := by
  split <;> rfl

theorem storeBathStep_flags (st : Station) (s : State) (hrun : (s.bathStepOf st).heat.record.phase.running = true) :
    hasFlag ((storeBathStep st s).flagsOf st) g =
      (hasFlag (s.bathStepOf st).heat.record.flags g || ((s.bathStepOf st).clamped && decide (g = .clamped)) ||
        ((s.bathStepOf st).overtemp && decide (g = .overtemp)) || ((s.bathStepOf st).undertemp && decide (g = .undertemp))) := by
  have hheat : (s.bathed st).heat st = (s.bathStepOf st).heat := look_place_same _ _ _
  have hphase : (s.bathed st).phase st = (s.bathStepOf st).heat.record.phase := congrArg (fun h : StationHeat => h.record.phase) hheat
  have hflags : (s.bathed st).flagsOf st = (s.bathStepOf st).heat.record.flags := congrArg (fun h : StationHeat => h.record.flags) hheat
  have hstart : ((s.bathed st).phase st).running = true := by rw [hphase]; exact hrun
  rw [storeBathStep_eq]
  simp only
  rw [notifyIf_flagsOf, raiseIf_flags (by decide), raiseIf_flags (by decide), notifyIf_flagsOf, raiseIf_flags (by decide) hstart, hflags]
  · simp only [Bool.decide_eq_true]
  · rw [notifyIf_phase, raiseIf_phase (by decide)]
    exact hstart
  · rw [raiseIf_phase (by decide), notifyIf_phase, raiseIf_phase (by decide)]
    exact hstart

theorem raise_taps_same (hf : f ≠ .water) (st : Station) (s : State) : (raise f st s).taps = s.taps := by
  rw [raise_alone hf]

theorem taps_ite {c : Prop} [Decidable c] {p : State → State} {x : State} (h : (p x).taps = x.taps) :
    (if c then p x else x).taps = x.taps := by
  split
  · exact h
  · rfl

theorem storeBathStep_taps (st : Station) (s : State) : (storeBathStep st s).taps = s.taps := by
  rw [storeBathStep_eq]
  refine (taps_ite (p := fun x => x.notify .meltDone _ _ _ _) rfl).trans ?_
  refine (taps_ite (p := raise .undertemp st) (raise_taps_same (by decide) ..)).trans ?_
  refine (taps_ite (p := raise .overtemp st) (raise_taps_same (by decide) ..)).trans ?_
  refine (taps_ite (p := fun x => x.notify .lining _ _ _ _) rfl).trans ?_
  exact taps_ite (p := raise .clamped st) (raise_taps_same (by decide) ..)

/-! ## A station that waits for a ladle (R28, R151, R153) -/

/-- Nothing takes the station away from an entry it has been given to (R152, R154). -/
def State.keepsFor (s : State) (e : QueueEntry) (st : Station) : Prop :=
  s.unitInhibited st = false ∧ s.barred st = false ∧ hasFlag (s.record st).flags .water = false ∧ s.holdsAbove st e.mass = true

theorem State.keepsFor.releaseReason (h : s.keepsFor e st) : s.releaseReason e st = none := by
  obtain ⟨hinhibited, hbarred, hwater, hholds⟩ := h
  simp [State.releaseReason, hinhibited, hbarred, hwater, hholds]

theorem eligible_keepsFor (h : s.eligible e st = true) : s.keepsFor e st ∧ ∀ d ∈ s.taps.entries, d.station ≠ some st := by
  simp only [State.eligible, Bool.and_eq_true, Bool.not_eq_true', Option.isNone_iff_eq_none] at h
  obtain ⟨⟨⟨⟨⟨-, hholds⟩, hfree⟩, hbarred⟩, hinhibited⟩, hwater⟩ := h
  exact ⟨⟨hinhibited, hbarred, hwater, hholds⟩, by simpa [State.entryOf] using hfree⟩

/-- A recomputation makes no unit INHIBITED. -/
theorem recompute_unitInhibited (a : Station) (h : s.unitInhibited st = false) : (recompute a s).unitInhibited st = false := by
  have hcfg := (recompute_internal s a).rest.cfg
  rw [← Bool.not_eq_true, unitInhibited_eq_true_iff] at h ⊢
  rintro ⟨u, hu, hstate⟩
  refine h ⟨u, (unitOf_of_cfg hcfg).symm.trans hu, ?_⟩
  rcases recompute_cases s a with heq | ⟨v, t, -, -, heq⟩ <;> rw [heq] at hstate
  · exact hstate
  · by_cases hv : v = u
    · subst hv
      rw [show (startChangeover v t (s.demanded a)).unit v = _ from look_place_same _ _ _] at hstate
      cases hstate
    · rw [show (startChangeover v t (s.demanded a)).unit u = _ from look_place_ne _ _ hv] at hstate
      exact hstate

/-- The entries of a queue of which one has been given a station. -/
theorem mem_assign_iff (he : x.taps.entries[i]? = some e) : d ∈ (assign i e o x).taps.entries ↔
    d = { e with station := some o } ∨ ∃ j, j ≠ i ∧ x.taps.entries[j]? = some d := by
  have hentries : (assign i e o x).taps.entries = x.taps.entries.modify i (fun e => { e with station := some o }) := by
    show (recompute o ((x.onEntry i _).onRecord o _)).taps.entries = _
    rw [recompute_taps]
    rfl
  rw [hentries, List.mem_iff_getElem?]
  simp only [List.getElem?_modify]
  constructor
  · rintro ⟨j, hj⟩
    by_cases hij : i = j
    · subst hij
      rw [he] at hj
      simp only [if_true, Option.map_eq_map, Option.map_some, Option.some.injEq] at hj
      exact .inl hj.symm
    · simp only [hij, if_false, Option.map_eq_map, Option.map_id'] at hj
      exact .inr ⟨j, Ne.symm hij, hj⟩
  · rintro (rfl | ⟨j, hji, hj⟩)
    · exact ⟨i, by rw [he]; simp⟩
    · exact ⟨j, by simp [Ne.symm hji, hj]⟩

theorem assign_record_self (i : Nat) (e : QueueEntry) (o : Station) (x : State) :
    (assign i e o x).record o = { x.record o with phase := .superheat, dipMark := false } := by
  show (recompute o ((x.onEntry i _).onRecord o _)).record o = _
  rw [recompute_record, State.onRecord_record, if_pos rfl]
  rfl

theorem assign_record_other (i : Nat) (e : QueueEntry) (x : State) (h : st ≠ o) : (assign i e o x).record st = x.record st := by
  show (recompute o ((x.onEntry i _).onRecord o _)).record st = _
  rw [recompute_record, State.onRecord_record, if_neg (Ne.symm h)]
  rfl

theorem Untouched.barred (h : Untouched s t) (st : Station) : t.barred st = s.barred st := by
  simp only [State.barred, State.bars, State.held, State.run, State.program, h.cfg, h.runs]

/-- An assignment, to this or another station, leaves what keeps a station for an entry. -/
theorem assign_keepsFor (i : Nat) (o : Station) (h : x.keepsFor d st) (hflags : hasFlag ((assign i e o x).record st).flags .water = false)
    (hliquid : ((assign i e o x).record st).liquid = (x.record st).liquid) : (assign i e o x).keepsFor d st := by
  obtain ⟨hinhibited, hbarred, -, hholds⟩ := h
  have hrest := (assign_internal x i e o).rest
  refine ⟨?_, ?_, hflags, ?_⟩
  · exact recompute_unitInhibited (s := (x.onEntry i _).onRecord o _) o hinhibited
  · rw [hrest.barred]
    exact hbarred
  · rw [State.holdsAbove, hliquid, State.stationRec, hrest.cfg]
    exact hholds

/-- What a re-examination of the queue of `s` keeps of a station in HOLD that no entry has: the entries without a station, or with this one, waited
in `s`; no entry has the station, which is as it was, or one has, and then nothing takes it away. -/
structure Awaits (s : State) (st : Station) (m : Bool) (x : State) : Prop where
  waited : ∀ e ∈ x.taps.entries, e.station = none ∨ e.station = some st → ∃ d ∈ s.taps.entries, d.ladle = e.ladle ∧ d.station = none
  free : (∀ e ∈ x.taps.entries, e.station ≠ some st) → x.phase st = .hold ∧ (x.record st).dipMark = m
  taken : ∀ e ∈ x.taps.entries, e.station = some st → x.phase st = .superheat ∧ (x.record st).dipMark = false ∧ x.keepsFor e st

theorem Awaits.assigned {m : Bool} (h : Awaits s st m x) (he : x.taps.entries[i]? = some e) (hnone : e.station = none)
    (hchoice : x.choice e = some o) : Awaits s st m (assign i e o x) := by
  obtain ⟨hkeeps, hnobody⟩ := eligible_keepsFor (choice_eligible x hchoice)
  have hold : ∀ {d}, d ∈ x.taps.entries → d.station ≠ none → d ∈ (assign i e o x).taps.entries := fun {d} hd hsome => by
    obtain ⟨j, hj⟩ := List.mem_iff_getElem?.mp hd
    refine (mem_assign_iff he).mpr (.inr ⟨j, fun hji => hsome ?_, hj⟩)
    rw [hji, he, Option.some.injEq] at hj
    exact hj ▸ hnone
  have hmem : ∀ {d}, d ∈ (assign i e o x).taps.entries → d.station ≠ some o → d ∈ x.taps.entries := fun {d} hd hother => by
    rcases (mem_assign_iff he).mp hd with rfl | ⟨j, -, hj⟩
    · exact absurd rfl hother
    · exact List.mem_of_getElem? hj
  have hnew : ({ e with station := some o } : QueueEntry) ∈ (assign i e o x).taps.entries := (mem_assign_iff he).mpr (.inl rfl)
  by_cases ho : st = o
  · -- the station itself is given away
    subst ho
    refine ⟨fun d hd hst => ?_, fun hfree => absurd rfl (hfree _ hnew), fun d hd hst => ?_⟩
    · rcases (mem_assign_iff he).mp hd with rfl | ⟨j, -, hj⟩
      · exact h.waited e (List.mem_of_getElem? he) (.inl hnone)
      · exact h.waited d (List.mem_of_getElem? hj) hst
    · rcases (mem_assign_iff he).mp hd with rfl | ⟨j, -, hj⟩
      · have hrecord := assign_record_self i e st x
        refine ⟨congrArg HeatRec.phase hrecord, congrArg HeatRec.dipMark hrecord, assign_keepsFor (d := { e with station := some st }) i st
          hkeeps ?_ (by rw [hrecord])⟩
        rw [hrecord]
        exact hkeeps.2.2.1
      · exact absurd hst (hnobody d (List.mem_of_getElem? hj))
  · have hrecord := assign_record_other i e x ho
    have hphase : (assign i e o x).phase st = x.phase st := congrArg HeatRec.phase hrecord
    have hother : ∀ {d : QueueEntry}, d.station = some st → d.station ≠ some o := fun hst h => ho (Option.some.inj (hst.symm.trans h))
    refine ⟨fun d hd hst => ?_, fun hfree => ?_, fun d hd hst => ?_⟩
    · refine h.waited d (hmem hd ?_) hst
      rcases hst with hst | hst
      · rw [hst]; exact nofun
      · exact hother hst
    · rw [hphase, hrecord]
      exact h.free fun d hd hst => hfree d (hold hd (by rw [hst]; exact nofun)) hst
    · rw [hphase, hrecord]
      obtain ⟨hsuper, hmark, hkept⟩ := h.taken d (hmem hd (hother hst)) hst
      refine ⟨hsuper, hmark, assign_keepsFor i o hkept ?_ (by rw [hrecord])⟩
      rw [hrecord]
      exact hkept.2.2.1

theorem Awaits.reexamined {m : Bool} (h : Awaits s st m x) : Awaits s st m (reexamine x) :=
  reexamine_keeps x (Awaits s st m) (fun _ _ _ _ hx he hnone hchoice => hx.assigned he hnone hchoice) h

/-- A station without an entry has no checks. -/
theorem stationChecks_unassigned (h : ∀ d ∈ x.taps.entries, d.station ≠ some st) : stationChecks st x = x := by
  have hindex := entryIndex_none h
  have hrelease : releaseCheck st x = x := by simp only [releaseCheck, unpermitted_none hindex]
  have hdip : dipWantedCheck st x = x := by simp only [dipWantedCheck, hindex]
  have hready : readinessCheck st x = x := by simp only [readinessCheck, hindex]
  rw [stationChecks, hrelease, hdip, hready]

/-- The entry of the same ladle at the same station. -/
def State.stillServes (s : State) (d : QueueEntry) : Prop := ∃ e ∈ s.taps.entries, e.ladle = d.ladle ∧ e.station = d.station

theorem onEntry_stillServes (h : x.stillServes d) {p : QueueEntry → QueueEntry} (hp : ∀ e, (p e).ladle = e.ladle ∧ (p e).station = e.station) :
    (x.onEntry i p).stillServes d := by
  obtain ⟨e, he, hladle, hstation⟩ := h
  obtain ⟨j, hj⟩ := List.mem_iff_getElem?.mp he
  have hget : (x.onEntry i p).taps.entries[j]? = some (if i = j then p e else e) := by
    show (x.taps.entries.modify i p)[j]? = _
    rw [List.getElem?_modify, hj]
    rfl
  refine ⟨_, List.mem_of_getElem? hget, ?_⟩
  split
  · exact ⟨(hp e).1.trans hladle, (hp e).2.trans hstation⟩
  · exact ⟨hladle, hstation⟩

theorem dipWantedCheck_stillServes (h : x.stillServes d) : (dipWantedCheck st x).stillServes d := by
  unfold dipWantedCheck
  split
  · split
    · split
      · split
        · exact onEntry_stillServes h (fun _ => ⟨rfl, rfl⟩)
        · exact h
      · exact onEntry_stillServes h (fun _ => ⟨rfl, rfl⟩)
    · exact h
  · exact h

theorem readinessCheck_stillServes (h : x.stillServes d) : (readinessCheck st x).stillServes d := by
  unfold readinessCheck
  split
  · split
    · split
      · exact onEntry_stillServes h (fun _ => ⟨rfl, rfl⟩)
      · exact h
    · exact h
  · exact h

/-- A station that an entry has, and that nothing takes away, keeps phase and mark through its checks, and the entry stays. -/
theorem stationChecks_assigned (hd : d ∈ x.taps.entries) (hst : d.station = some st)
    (hkeeps : ∀ e ∈ x.taps.entries, e.station = some st → x.keepsFor e st) :
    (stationChecks st x).heats = x.heats ∧ (stationChecks st x).stillServes d := by
  obtain ⟨e, he⟩ : ∃ e, x.entryOf st = some e := by
    cases hfound : x.entryOf st with
    | some e => exact ⟨e, rfl⟩
    | none => exact absurd hst (by simpa using List.find?_eq_none.mp hfound d hd)
  obtain ⟨hstation, before, after, hentries, hfirst⟩ := List.find?_eq_some_iff_append.mp he
  have hserving : x.Serving st before e after := ⟨hentries, by simpa using hstation, fun c hc => by simpa using hfirst c hc⟩
  have hmem : e ∈ x.taps.entries := by rw [hentries]; simp
  have hstill : releaseCheck st x = x := hserving.releaseCheck_still (.inr (hkeeps e hmem hserving.station).releaseReason)
  rw [stationChecks, hstill]
  exact ⟨(readinessCheck_heats st _).trans (dipWantedCheck_heats st x), readinessCheck_stillServes (dipWantedCheck_stillServes ⟨d, hd, rfl, rfl⟩)⟩

/-! ## The step of a running station -/

theorem bathStepOf_ended (s : State) (st : Station) : (s.bathStepOf st).meltDone = true ↔
    0 < (s.record st).solid ∧ (s.bathStepOf st).heat.record.solid = 0 := by
  rw [State.bathStepOf, (bathStep_found ..).1, bathStep_heat]
  refine and_congr_right fun hsolid => ?_
  simp only
  rw [if_pos hsolid]

theorem bathStepOf_phase (s : State) (st : Station) : (s.bathStepOf st).heat.record.phase =
    if (s.bathStepOf st).meltDone = true then .hold else s.phase st := by
  rw [State.bathStepOf, bathStep_heat]
  exact if_congr (bathStep_found ..).1.symm rfl rfl

theorem bathStepOf_marks (s : State) (st : Station) : (s.bathStepOf st).heat.record.flags = (s.record st).flags ∧
    (s.bathStepOf st).heat.record.dipMark = (s.record st).dipMark := by
  rw [State.bathStepOf, bathStep_heat]
  exact ⟨rfl, rfl⟩

theorem modelStep_flagsOf (st : Station) (s : State) : (modelStep st s).flagsOf = (storeBathStep st s).flagsOf := by
  unfold modelStep
  rw [stationChecks_flagsOf]
  split
  · rw [reexamine_flagsOf, recompute_flagsOf]
  · rw [recompute_flagsOf]

/-- The station as its stored step leaves it, its request recomputed. -/
def State.steppedBath (s : State) (st : Station) : State := recompute st (storeBathStep st s)

theorem modelStep_ended (h : (s.bathStepOf st).meltDone = true) : modelStep st s = stationChecks st (reexamine (s.steppedBath st)) := by
  unfold modelStep
  rw [h]
  rfl

theorem modelStep_unended (h : ¬ (s.bathStepOf st).meltDone = true) : modelStep st s = stationChecks st (s.steppedBath st) := by
  unfold modelStep
  exact congrArg (stationChecks st) (if_neg h)

theorem steppedBath_marks (s : State) (st : Station) :
    (s.steppedBath st).phase st = (if (s.bathStepOf st).meltDone = true then .hold else s.phase st) ∧
    ((s.steppedBath st).record st).dipMark = (s.record st).dipMark ∧ (s.steppedBath st).taps = s.taps := by
  have hheat := storeBathStep_unflagged st s
  have hrecord : (s.steppedBath st).record st = (storeBathStep st s).record st := recompute_record _ st st
  refine ⟨?_, ?_, (recompute_taps _ st).trans (storeBathStep_taps st s)⟩
  · rw [← bathStepOf_phase, State.phase]
    have hphase := congrArg (fun h : StationHeat => h.record.phase) hheat
    exact (congrArg HeatRec.phase hrecord).trans hphase
  · rw [← (bathStepOf_marks s st).2, hrecord]
    have hmark := congrArg (fun h : StationHeat => h.record.dipMark) hheat
    exact hmark

/-- Where no entry has the station, MELT DONE alone changes its phase, and a ladle may then take it (R28, R151). -/
theorem modelStep_unassigned (hnobody : ∀ d ∈ s.taps.entries, d.station ≠ some st) :
    (¬ (s.bathStepOf st).meltDone = true →
      (modelStep st s).phase st = s.phase st ∧ ((modelStep st s).record st).dipMark = (s.record st).dipMark) ∧
    ((s.bathStepOf st).meltDone = true →
      ((modelStep st s).phase st = .hold ∧ ((modelStep st s).record st).dipMark = (s.record st).dipMark) ∨
      ((modelStep st s).phase st = .superheat ∧ ((modelStep st s).record st).dipMark = false ∧
        ∃ d ∈ (modelStep st s).taps.entries, d.station = some st ∧ ∃ e ∈ s.taps.entries, e.ladle = d.ladle ∧ e.station = none)) := by
  obtain ⟨hphase, hmark, htaps⟩ := steppedBath_marks s st
  have hfree : ∀ d ∈ (s.steppedBath st).taps.entries, d.station ≠ some st := by rw [htaps]; exact hnobody
  refine ⟨fun hnot => ?_, fun hended => ?_⟩
  · rw [modelStep_unended hnot, stationChecks_unassigned hfree, hphase, if_neg hnot, hmark]
    exact ⟨rfl, rfl⟩
  · rw [if_pos hended] at hphase
    have hstart : Awaits s st (s.record st).dipMark (s.steppedBath st) := by
      refine ⟨fun e he hst => ⟨e, htaps ▸ he, rfl, ?_⟩, fun _ => ⟨hphase, hmark⟩, fun e he hst => absurd hst (hfree e he)⟩
      exact hst.resolve_right (hfree e he)
    have hawaits := hstart.reexamined
    rw [modelStep_ended hended]
    generalize reexamine (s.steppedBath st) = y at hawaits
    by_cases hnone : ∀ d ∈ y.taps.entries, d.station ≠ some st
    · rw [stationChecks_unassigned hnone]
      exact .inl (hawaits.free hnone)
    · push Not at hnone
      obtain ⟨d, hd, hst⟩ := hnone
      obtain ⟨hsuper, hclear, -⟩ := hawaits.taken d hd hst
      obtain ⟨hheats, e, he, hladle, hstation⟩ := stationChecks_assigned hd hst (fun e he hst => (hawaits.taken e he hst).2.2)
      obtain ⟨c, hc, hsame, hwaited⟩ := hawaits.waited d hd (.inr hst)
      have hrecord : (stationChecks st y).record st = y.record st := by rw [State.record, hheats]; rfl
      refine .inr ⟨(congrArg HeatRec.phase hrecord).trans hsuper, ?_, e, he, hstation.trans hst, c, hc, hsame.trans hladle.symm, hwaited⟩
      rw [hrecord]
      exact hclear

end

/-- Settles O38: the flags are those of the bath and of its three raises; the phase is the bath's, or that of a ladle's assignment. -/
theorem modelStepSetsFlagsAtCrossings : Obligations.ModelStepSetsFlagsAtCrossings := by
  intro s t st hheld hrunning hexec
  have ht : t = nextFrame (modelStep st s) := by
    rw [exec_modelStep_running hheld hrunning] at hexec
    exact (Host.Outcome.next.inj hexec).symm
  subst ht
  have hheat : (nextFrame (modelStep st s)).heat st = (modelStep st s).heat st := by rw [State.heat, nextFrame_heats]; rfl
  have hrecord : (nextFrame (modelStep st s)).record st = (modelStep st s).record st := congrArg StationHeat.record hheat
  have hphase : (nextFrame (modelStep st s)).phase st = (modelStep st s).phase st := congrArg HeatRec.phase hrecord
  have hmetal : ((modelStep st s).heat st).metal = (s.bathStepOf st).heat.metal :=
    ((modelStep_shared s st).metal st).trans (congrArg StationHeat.metal (look_place_same _ _ _))
  have hkept : ∀ {α : Type} (p : StationHeat → α), p ((modelStep st s).heat st).metal = p (s.bathStepOf st).heat.metal :=
    fun p => congrArg p hmetal
  have habove : ((modelStep st s).heat st).aboveMax = (s.bathStepOf st).heat.aboveMax := hkept (fun h => h.aboveMax)
  have hbelow : ((modelStep st s).heat st).belowFloor = (s.bathStepOf st).heat.belowFloor := hkept (fun h => h.belowFloor)
  have hsolid : ((modelStep st s).record st).solid = (s.bathStepOf st).heat.record.solid := hkept (fun h => h.record.solid)
  have hrun : (s.bathStepOf st).heat.record.phase.running = true := by
    rw [bathStepOf_phase]
    split
    · rfl
    · exact hrunning
  have hflags : ∀ g, hasFlag ((modelStep st s).record st).flags g =
      (hasFlag (s.record st).flags g || ((s.bathStepOf st).clamped && decide (g = .clamped)) ||
        ((s.bathStepOf st).overtemp && decide (g = .overtemp)) || ((s.bathStepOf st).undertemp && decide (g = .undertemp))) := fun g => by
    show hasFlag ((modelStep st s).flagsOf st) g = _
    rw [modelStep_flagsOf, storeBathStep_flags st s hrun, (bathStepOf_marks s st).1]
  have hover : (s.bathStepOf st).overtemp = ((s.bathStepOf st).heat.aboveMax && !(s.heat st).aboveMax) := rfl
  have hunder : (s.bathStepOf st).undertemp = ((s.bathStepOf st).heat.belowFloor && !(s.heat st).belowFloor) := rfl
  rw [hrecord, hheat, hphase, nextFrame_taps, habove, hbelow, hsolid, ← hover, ← hunder]
  refine ⟨?_, ?_, fun f hclamped hover hunder => ?_, fun hold => ?_, fun hnobody => ?_⟩
  · rw [hflags]
    simp
  · rw [hflags]
    simp
  · rw [hflags]
    simp [hclamped, hover, hunder]
  · rw [hflags, hold]
    simp
  · obtain ⟨hstill, hended⟩ := modelStep_unassigned hnobody
    have hdone := bathStepOf_ended s st
    intro meltDone
    have hmelt : meltDone ↔ (s.bathStepOf st).meltDone = true := hdone.symm
    rw [hmelt]
    refine ⟨fun hnot => (hstill hnot).1, fun h => (hended h).imp_left And.left, fun hnot => ?_⟩
    by_cases h : (s.bathStepOf st).meltDone = true
    · rcases hended h with ⟨-, hmark⟩ | ⟨hsuper, -⟩
      · exact hmark
      · exact absurd ⟨h, hsuper⟩ hnot
    · exact (hstill h).2

end Sys2Proof.Machine

/-!
PROOFS. Records and heat images as bytes, and what reads back from them (9.2.1 to 9.3).
-/

namespace Sys2Proof.Machine

section
variable {n : Nat}

/-! ## Fields -/

theorem byte_read (h : n < 256) : (BitVec.ofNat 8 n).toNat = n := by
  rw [BitVec.toNat_ofNat, Nat.mod_eq_of_lt h]

theorem word_read (h : n < 65536) : (BitVec.ofNat 8 n).toNat + 256 * (BitVec.ofNat 8 (n / 256)).toNat = n := by
  simp only [BitVec.toNat_ofNat]
  omega

/-- The bytes of a number, low byte first. -/
theorem long_read (h : n < 4294967296) :
    (BitVec.ofNat 8 n).toNat + 256 * (BitVec.ofNat 8 (n / 256)).toNat +
      65536 * ((BitVec.ofNat 8 (n / 256 / 256)).toNat + 256 * (BitVec.ofNat 8 (n / 256 / 256 / 256)).toNat) = n := by
  simp only [BitVec.toNat_ofNat]
  omega

theorem signed_read {v : Int} (hlow : -32768 ≤ v) (hhigh : v ≤ 32767) : asSigned 16 (v % (256 ^ 2 : Nat)).toNat = v := by
  unfold asSigned
  simp only [Nat.reducePow, Nat.reduceSub]
  split <;> omega

theorem le_of_clampTo {lo hi x : Nat} (h : clampTo lo hi x = x) : x ≤ hi := by
  unfold clampTo at h
  omega

variable {p : List Byte} {i lo hi : Nat}

/-- A field read back from the bytes that stand at its offset. -/
theorem u8At_of_get (h0 : p.getD i 0 = BitVec.ofNat 8 n) (h : n < 256) : u8At p i = n := by
  rw [u8At, h0]
  exact byte_read h

theorem u16At_of_get (h0 : p.getD i 0 = BitVec.ofNat 8 n) (h1 : p.getD (i + 1) 0 = BitVec.ofNat 8 (n / 256)) (h : n < 65536) : u16At p i = n := by
  rw [u16At, u8At, u8At, h0, h1]
  exact word_read h

theorem u32At_of_get (h0 : p.getD i 0 = BitVec.ofNat 8 n) (h1 : p.getD (i + 1) 0 = BitVec.ofNat 8 (n / 256))
    (h2 : p.getD (i + 2) 0 = BitVec.ofNat 8 (n / 256 / 256)) (h3 : p.getD (i + 3) 0 = BitVec.ofNat 8 (n / 256 / 256 / 256))
    (h : n < 4294967296) : u32At p i = n := by
  rw [u32At, u16At, u16At, u8At, u8At, u8At, u8At, h0, h1, h2, h3]
  exact long_read h

theorem byte_clamped (h : clampTo lo hi n = n) (hhi : hi < 256) : (BitVec.ofNat 8 n).toNat = n :=
  byte_read (Nat.lt_of_le_of_lt (le_of_clampTo h) hhi)

theorem word_clamped (h : clampTo lo hi n = n) (hhi : hi < 65536) :
    (BitVec.ofNat 8 n).toNat + 256 * (BitVec.ofNat 8 (n / 256)).toNat = n := word_read (Nat.lt_of_le_of_lt (le_of_clampTo h) hhi)

theorem u8At_clamped (h : clampTo lo hi n = n) (h0 : p.getD i 0 = BitVec.ofNat 8 n) (hhi : hi < 256) : u8At p i = n :=
  u8At_of_get h0 (Nat.lt_of_le_of_lt (le_of_clampTo h) hhi)

theorem u16At_clamped (h : clampTo lo hi n = n) (h0 : p.getD i 0 = BitVec.ofNat 8 n) (h1 : p.getD (i + 1) 0 = BitVec.ofNat 8 (n / 256))
    (hhi : hi < 65536) : u16At p i = n := u16At_of_get h0 h1 (Nat.lt_of_le_of_lt (le_of_clampTo h) hhi)

theorem contractFor_le (h : contractFor n = n) : n ≤ 16000 := by
  unfold contractFor at h
  split at h
  · omega
  · exact le_of_clampTo h

/-! ## Fields behind other bytes -/

variable {b c : Byte}

theorem u8At_cons_succ (b : Byte) (p : List Byte) (i : Nat) : u8At (b :: p) (i + 1) = u8At p i := rfl
theorem u8At_cons_zero (b : Byte) (p : List Byte) : u8At (b :: p) 0 = b.toNat := rfl
theorem u16At_cons_succ (b : Byte) (p : List Byte) (i : Nat) : u16At (b :: p) (i + 1) = u16At p i := rfl
theorem u16At_cons_zero (b c : Byte) (p : List Byte) : u16At (b :: c :: p) 0 = b.toNat + 256 * c.toNat := rfl
theorem le_two (n : Nat) : le 2 n = [BitVec.ofNat 8 n, BitVec.ofNat 8 (n / 256)] := rfl

/-! ## The records of 9.3 -/

theorem shop_reads (r : ShopRec) (h : { r with lInst := 500 }.clamped = { r with lInst := 500 }) (hinst : r.lInst ≤ 16000) :
    shopOf r.bytes = some r := by
  have hsync : yesNoOf (u8At r.bytes 21) = some r.demandSync := by
    show yesNoOf (BitVec.ofNat 8 (yesNo r.demandSync)).toNat = _
    cases r.demandSync <;> rfl
  rw [shopOf, hsync, Option.map_some]
  obtain ⟨c10, latent, tMelt, dipAgeMax, driftTol, transferDrop, minDwell, contract, interval, baseLoad, holdReserve, demandSync, lInst, coolStart,
    coolStop, reservoir, permitTime, expiryLimit, silenceTime⟩ := r
  simp only [ShopRec.clamped, ShopRec.mk.injEq] at h
  obtain ⟨hc10, hlatent, hmelt, hage, htol, hdrop, hdwell, hcontract, hinterval, hbase, hreserve, -, -, hstart, hstop, hreservoir, hpermit, hexpiry,
    hsilence⟩ := h
  simp only at hinst
  have hlength : interval ≤ 3600 := hinterval.symm.le.trans (clampTo_within (by omega)).2
  have hpower := contractFor_le hcontract
  simp only [Option.some.injEq, ShopRec.mk.injEq, true_and, ShopRec.bytes, le_two, List.cons_append, List.nil_append, u8At_cons_succ,
    u8At_cons_zero, u16At_cons_succ, u16At_cons_zero]
  exact ⟨byte_clamped hc10 (by omega), word_clamped hlatent (by omega), word_clamped hmelt (by omega), word_clamped hage (by omega),
    word_clamped htol (by omega), word_clamped hdrop (by omega), word_clamped hdwell (by omega), word_read (by omega),
    word_read (by omega), word_clamped hbase (by omega), word_clamped hreserve (by omega), word_read (by omega), word_clamped hstart (by omega),
    word_clamped hstop (by omega), word_clamped hreservoir (by omega), word_clamped hpermit (by omega), byte_clamped hexpiry (by omega),
    byte_clamped hsilence (by omega)⟩

theorem station_reads (r : StationRec) {capacity : Nat} (hcapacity : capacity ≤ 12000) (h : r.clamped capacity = r) :
    stationRecOf r.bytes = some r := by
  obtain ⟨lRef, eta, heelMin, coilMinFlow, mask⟩ := r
  simp only [StationRec.clamped, StationRec.mk.injEq] at h
  obtain ⟨hloss, heta, hheel, hflow, -⟩ := h
  rw [stationRecOf]
  simp only [Option.some.injEq, StationRec.mk.injEq]
  exact ⟨u16At_clamped hloss rfl rfl (by omega), u16At_clamped heta rfl rfl (by omega), u16At_clamped hheel rfl rfl (by omega),
      u16At_clamped hflow rfl rfl (by omega), rfl⟩

theorem unit_reads (r : UnitRec) (h : r.clamped = r) : unitRecOf r.bytes = some r := by
  obtain ⟨minPower, rampRate, travelTime, mode⟩ := r
  simp only [UnitRec.clamped, UnitRec.mk.injEq] at h
  obtain ⟨hpower, hramp, htravel, -⟩ := h
  have hmode : unitModeOf (u8At (UnitRec.bytes ⟨minPower, rampRate, travelTime, mode⟩) 4) = some mode := by
    show unitModeOf (BitVec.ofNat 8 mode.code).toNat = _
    cases mode <;> rfl
  rw [unitRecOf, hmode, Option.map_some]
  simp only [Option.some.injEq, UnitRec.mk.injEq, and_true]
  exact ⟨u8At_clamped hpower rfl (by omega), u16At_clamped hramp rfl rfl (by omega), u8At_clamped htravel rfl (by omega)⟩

theorem circuit_reads (h : pulsesClamped n = n) : circuitRecOf (le 4 n) = some n := by
  have hle : n ≤ 100000 := le_of_clampTo h
  exact congrArg some (u32At_of_get rfl rfl rfl rfl (by omega))

theorem grade_reads (r : GradeRec) (h : r.clamped = r) : gradeRecOf r.bytes = some r := by
  obtain ⟨tapTarget, tapWindow, holdTarget, holdBand, maximum⟩ := r
  simp only [GradeRec.clamped, GradeRec.mk.injEq] at h
  obtain ⟨htap, hwindow, hhold, hband, hmax⟩ := h
  rw [gradeRecOf]
  simp only [Option.some.injEq, GradeRec.mk.injEq]
  exact ⟨u16At_clamped htap rfl rfl (by omega), u16At_clamped hwindow rfl rfl (by omega), u16At_clamped hhold rfl rfl (by omega),
      u16At_clamped hband rfl rfl (by omega),
    u16At_clamped hmax rfl rfl (by omega)⟩

theorem lining_reads (r : LiningRec) (hmelted : r.melted ≤ top32) (hlimit : r.limit ≤ top32) (hpeak : r.peak ≤ 16500)
    (hovertemp : r.overtemp ≤ top32) :
    liningRecOf r.bytes = some r := by
  have htop : top32 = 4294967295 := rfl
  obtain ⟨melted, limit, peak, overtemp⟩ := r
  simp only at hmelted hlimit hpeak hovertemp
  rw [liningRecOf]
  simp only [Option.some.injEq, LiningRec.mk.injEq]
  exact ⟨u32At_of_get rfl rfl rfl rfl (by omega), u32At_of_get rfl rfl rfl rfl (by omega), u16At_of_get rfl rfl (by omega),
      u32At_of_get rfl rfl rfl rfl (by omega)⟩

theorem actionOf_code (x : Action) : actionOf (BitVec.ofNat 8 x.code).toNat = some x := by cases x <;> rfl

theorem quantityOf_code (x : Quantity) : quantityOf (BitVec.ofNat 8 x.code).toNat = some x := by cases x <;> rfl

theorem clearModeOf_code (x : ClearMode) : clearModeOf (BitVec.ofNat 8 x.code).toNat = some x := by cases x <;> rfl

theorem yesNoOf_code (x : Bool) : yesNoOf (BitVec.ofNat 8 (yesNo x)).toNat = some x := by cases x <;> rfl

theorem targetOf_code (x : Target) : targetOf (BitVec.ofNat 8 x.code).toNat = some x := by
  cases x with
  | unit u => match u with | 0 | 1 => rfl
  | station st => match st with | 0 | 1 | 2 | 3 => rfl

/-- An index that its quantity allows takes one byte. -/
theorem index_lt {q : Quantity} (h : indexFor q n = some n) : n < 256 := by
  unfold indexFor at h
  cases q <;> simp only [Option.ite_none_right_eq_some, Option.some.injEq] at h <;> omega

theorem period_lt (h : periodOf n = some n) : n < 65536 := by
  unfold periodOf at h
  simp only [Option.ite_none_right_eq_some] at h
  omega

theorem s16At_cons_succ (b : Byte) (p : List Byte) (i : Nat) : s16At (b :: p) (i + 1) = s16At p i := rfl

theorem s16At_cons_zero (b c : Byte) (p : List Byte) : s16At (b :: c :: p) 0 = asSigned 16 (b.toNat + 256 * c.toNat) := rfl

theorem leSigned_two (v : Int) : leSigned 2 v =
    [BitVec.ofNat 8 (v % (256 ^ 2 : Nat)).toNat, BitVec.ofNat 8 ((v % (256 ^ 2 : Nat)).toNat / 256)] := rfl

/-- A signed field of two bytes. -/
theorem signedWord_read {v : Int} (hlow : -32768 ≤ v) (hhigh : v ≤ 32767) :
    asSigned 16 ((BitVec.ofNat 8 (v % (256 ^ 2 : Nat)).toNat).toNat + 256 * (BitVec.ofNat 8 ((v % (256 ^ 2 : Nat)).toNat / 256)).toNat) = v := by
  rw [word_read (by simp only [Nat.reducePow]; omega)]
  exact signed_read hlow hhigh

theorem program_reads (r : ProgramRec) (h : r.fits) : programRecOf r.bytes = some r := by
  obtain ⟨enabled, quantity, index, high, low, hysteresis, debounce, period, onHigh, onLow, onStale, percent, staleLimit, target, clear⟩ := r
  obtain ⟨hclamped, hindex, hperiod, hhigh, hhigh', hlow, hlow'⟩ := h
  simp only [ProgramRec.clamped, ProgramRec.mk.injEq, true_and, and_true] at hclamped
  obtain ⟨hhysteresis, hdebounce, hpercent, hstale⟩ := hclamped
  simp only at hindex hperiod hhigh hhigh' hlow hlow'
  simp only [programRecOf, ProgramRec.bytes, byteOf, le_two, leSigned_two, List.cons_append, List.nil_append, u8At_cons_succ, u8At_cons_zero,
    u16At_cons_succ, u16At_cons_zero, s16At_cons_succ, s16At_cons_zero, yesNoOf_code, quantityOf_code, actionOf_code, targetOf_code, clearModeOf_code,
    byte_read (index_lt hindex), hindex, word_read (period_lt hperiod), hperiod, signedWord_read hhigh hhigh', signedWord_read hlow hlow',
    word_clamped hhysteresis (by decide), byte_clamped hdebounce (by decide), byte_clamped hpercent (by decide), byte_clamped hstale (by decide),
    Option.bind_eq_bind, Option.bind_some]

/-! ## The layout (R4) -/

/-- A station entry that R2 accepts. -/
def LayoutStation.sound (e : LayoutStation) : Prop := e = LayoutStation.absent ∨
  ∃ u c, e = { present := true, unit := some u, capacity := c } ∧ 500 ≤ c ∧ c ≤ 12000

theorem LayoutFits.sound {l : Layout} (h : LayoutFits l) (st : Station) : (look l.stations st).sound := by
  cases hp : (look l.stations st).present with
  | false => exact .inl (h.absent st hp)
  | true =>
    obtain ⟨hunit, hlow, hhigh⟩ := h.present st hp
    obtain ⟨u, hu⟩ := Option.isSome_iff_exists.mp hunit
    refine .inr ⟨u, (look l.stations st).capacity, ?_, hlow, hhigh⟩
    rw [← hu, ← hp]

theorem LayoutStation.sound.clamped {e : LayoutStation} (h : e.sound) : e.clamped = e := by
  rcases h with rfl | ⟨u, c, rfl, hlow, hhigh⟩
  · rfl
  · rw [clamped_present_eq]
    exact congrArg (fun n => ({ present := true, unit := some u, capacity := n } : LayoutStation)) (by omega)

/-- The bytes of a sound entry are those of an entry. -/
theorem layoutEntry_reads {e : LayoutStation} (h : e.sound) (h0 : p.getD (4 * i) 0 = BitVec.ofNat 8 (yesNo e.present))
    (h1 : p.getD (4 * i + 1) 0 = BitVec.ofNat 8 (unitOrNone e.unit)) (h2 : p.getD (4 * i + 2) 0 = BitVec.ofNat 8 e.capacity)
    (h3 : p.getD (4 * i + 3) 0 = BitVec.ofNat 8 (e.capacity / 256)) : layoutEntry p i = some e := by
  rcases h with rfl | ⟨u, c, rfl, hlow, hhigh⟩
  · exact layoutEntry_eq_absent (u8At_of_get h0 (by decide))
  · have hcapacity : u16At p (4 * i + 2) = c := u16At_of_get h2 h3 (by omega)
    have hnames : layoutNames p i u := by
      refine ⟨u8At_of_get h0 (by decide), u8At_of_get h1 ?_⟩
      show u.val + 1 < 256
      omega
    rw [layoutEntry_eq_present hnames, hcapacity]

/-- The bytes of a layout, station by station. -/
theorem layout_bytes (l : Layout) : l.bytes =
    ([0, 1, 2, 3].map (fun st : Station => [byteOf (yesNo (look l.stations st).present), byteOf (unitOrNone (look l.stations st).unit)] ++
      le 2 (look l.stations st).capacity)).flatten ++ (le 2 (look l.ratings 0) ++ le 2 (look l.ratings 1)) := by
  rw [Layout.bytes, toList_eq_map, toList_eq_map]
  rfl

theorem layout_reads (l : Layout) (hloaded : l.loaded = true) (h : LayoutFits l) : ∃ es, layoutEntries l.bytes = some es ∧
    layoutRefused l.bytes es = false ∧ layoutRecord l.bytes es = l := by
  have hentry : ∀ st : Station, layoutEntry l.bytes st.val = some (look l.stations st) := fun st => by
    rw [layout_bytes]
    match st with
    | 0 | 1 | 2 | 3 => exact layoutEntry_reads (h.sound _) rfl rfl rfl rfl
  have hes : layoutEntries l.bytes = some l.stations.toList := by
    rw [layoutEntries, show layoutEntry l.bytes 0 = _ from hentry 0, show layoutEntry l.bytes 1 = _ from hentry 1,
      show layoutEntry l.bytes 2 = _ from hentry 2, show layoutEntry l.bytes 3 = _ from hentry 3, toList_eq_map]
    rfl
  have hlow : ∀ u, look l.ratings u < 65536 := fun u => by
    rcases h.ratings u with ⟨-, h⟩ | ⟨-, -, h⟩ <;> omega
  have hrating : ∀ u, ratingField l.bytes u = look l.ratings u := fun u => by
    rw [layout_bytes]
    match u with
    | 0 => exact u16At_of_get rfl rfl (hlow 0)
    | 1 => exact u16At_of_get rfl rfl (hlow 1)
  have hmem : ∀ e ∈ l.stations.toList, ∃ st, e = look l.stations st := fun e he => by
    rw [toList_eq_map] at he
    obtain ⟨st, -, rfl⟩ := List.mem_map.mp he
    exact ⟨st, rfl⟩
  refine ⟨_, hes, ?_, ?_⟩
  · simp only [layoutRefused, Bool.or_eq_false_iff, List.any_eq_false, Bool.and_eq_true, decide_eq_true_eq, not_and, hrating]
    refine ⟨⟨fun e he hpresent => ?_, fun u _ => Nat.not_lt.mpr (h.pairs u)⟩, fun u _ hused => ?_⟩
    · obtain ⟨st, rfl⟩ := hmem e he
      have hsome := (h.present st hpresent).1
      rw [Option.isNone_iff_eq_none]
      intro hnone
      rw [hnone] at hsome
      cases hsome
    · rcases h.ratings u with ⟨hnone, -⟩ | ⟨-, hrange⟩
      · omega
      · simp only [Bool.or_eq_true, decide_eq_true_eq]
        omega
  · have hstations : (layoutRecord l.bytes l.stations.toList).stations = l.stations := by
      refine Vector.toList_inj.mp ((layoutRecord_stations (by simp)).trans ?_)
      refine (List.map_congr_left fun e he => ?_).trans (List.map_id _)
      obtain ⟨st, rfl⟩ := hmem e he
      exact (h.sound st).clamped
    have hratings : (layoutRecord l.bytes l.stations.toList).ratings = l.ratings := by
      refine bank_ext fun u => ?_
      rw [look_ratings, keptRating, hrating]
      rcases h.ratings u with ⟨hnone, hzero⟩ | ⟨hused, -⟩
      · rw [if_neg (by omega), hzero]
      · rw [if_pos hused]
    calc layoutRecord l.bytes l.stations.toList
        = { loaded := true, stations := (layoutRecord l.bytes l.stations.toList).stations,
            ratings := (layoutRecord l.bytes l.stations.toList).ratings } := rfl
      _ = l := by rw [hstations, hratings, ← hloaded]

/-! ## The heat image (9.2.2) -/

theorem u32At_cons_succ (b : Byte) (p : List Byte) (i : Nat) : u32At (b :: p) (i + 1) = u32At p i := rfl

theorem le_four (n : Nat) : le 4 n =
    [BitVec.ofNat 8 n, BitVec.ofNat 8 (n / 256), BitVec.ofNat 8 (n / 256 / 256), BitVec.ofNat 8 (n / 256 / 256 / 256)] := rfl

/-- The bytes of a last dip, those of its temperature and age, or of no dip. -/
def dipImage (d : Option LastDip) (dipAge : BitVec 32) : List Byte :=
  le 2 ((d.map LastDip.temp).getD 0) ++ le 4 ((d.map LastDip.age).getD dipAge.toNat)

theorem heatImage_eq (st : Station) (r : HeatRec) (dipAge : BitVec 32) {g : Grade} (hg : r.grade = some g) : heatImage st r dipAge =
    [1, byteOf (stationCode st), byteOf r.phase.code, byteOf g.val] ++ le 2 r.heatNo ++ [byteOf r.chargeNo, r.flags] ++ le 4 r.solid ++
    le 4 r.liquid ++ le 2 r.tEst ++ dipImage r.lastDip dipAge ++ le 4 (r.liquidAge.getD top32) ++ leSigned 8 r.residual ++ le 4 r.energy ++
    le 8 0 := by
  rw [heatImage, hg]
  cases r.lastDip <;> rfl

theorem u32At_cons_zero (b c d e : Byte) (p : List Byte) :
    u32At (b :: c :: d :: e :: p) 0 = b.toNat + 256 * c.toNat + 65536 * (d.toNat + 256 * e.toNat) := rfl

theorem s64At_cons_succ (b : Byte) (p : List Byte) (i : Nat) : s64At (b :: p) (i + 1) = s64At p i := rfl

/-- The low four bytes of a number. -/
theorem low_read (n : Nat) : (BitVec.ofNat 8 n).toNat + 256 * (BitVec.ofNat 8 (n / 256)).toNat +
    65536 * ((BitVec.ofNat 8 (n / 256 / 256)).toNat + 256 * (BitVec.ofNat 8 (n / 256 / 256 / 256)).toNat) = n % 4294967296 := by
  simp only [BitVec.toNat_ofNat]
  omega

theorem s64At_leSigned {v : Int} (h : v.natAbs ≤ 10000000000) (rest : List Byte) : s64At (leSigned 8 v ++ rest) 0 = v := by
  have hbytes : ∀ m, le 8 m = le 4 m ++ le 4 (m / 4294967296) := fun m => le_add 4 4 m
  have hlow : ∀ m, u32At (le 8 m ++ rest) 0 = m % 4294967296 := fun m => by
    rw [hbytes]
    exact low_read m
  have hhigh : ∀ m, u32At (le 8 m ++ rest) (0 + 4) = m / 4294967296 % 4294967296 := fun m => by
    rw [hbytes]
    exact low_read (m / 4294967296)
  rw [s64At, leSigned, hlow, hhigh, asSigned]
  simp only [Nat.reducePow, Nat.reduceSub]
  split <;> omega

section
variable {st : Station} {r : HeatRec} {dipAge : BitVec 32} {g : Grade}

/-- The fields of a heat image, at their offsets (9.2.2). -/
theorem heatImage_reads (hg : r.grade = some g) (hno : r.heatNo ≤ 65535) (hcharge : r.chargeNo ≤ 255) (hsolid : r.solid < 4294967296)
    (hliquid : r.liquid < 4294967296) (htEst : r.tEst < 65536) (hresidual : r.residual.natAbs ≤ 10000000000) (henergy : r.energy ≤ 4294967295)
    (hdip : ∀ d, r.lastDip = some d → d.temp < 65536 ∧ d.age < 4294967296) (hage : ∀ a, r.liquidAge = some a → a < 4294967296) :
    let im := heatImage st r dipAge
    (u8At im 0 = 1 ∧ u8At im 1 = stationCode st ∧ u8At im 2 = r.phase.code ∧ u8At im 3 = g.val ∧ u16At im 4 = r.heatNo) ∧
    (u8At im 6 = r.chargeNo ∧ im.getD 7 0 = r.flags ∧ u32At im 8 = r.solid ∧ u32At im 12 = r.liquid ∧ u16At im 16 = r.tEst) ∧
    (u16At im 18 = (r.lastDip.map LastDip.temp).getD 0 ∧ u32At im 20 = (r.lastDip.map LastDip.age).getD dipAge.toNat ∧
      u32At im 24 = r.liquidAge.getD top32 ∧ s64At im 28 = r.residual ∧ u32At im 36 = r.energy) ∧
    im.drop 40 = [0, 0, 0, 0, 0, 0, 0, 0] ∧ im.length = 48 := by
  intro im
  have hcode : r.phase.code < 256 := by cases r.phase <;> decide
  have htemp : (r.lastDip.map LastDip.temp).getD 0 < 65536 := by
    cases hd : r.lastDip with
    | none => decide
    | some d => exact (hdip d hd).1
  have hold : (r.lastDip.map LastDip.age).getD dipAge.toNat < 4294967296 := by
    cases hd : r.lastDip with
    | none => exact dipAge.isLt
    | some d => exact (hdip d hd).2
  have hliquidAge : r.liquidAge.getD top32 < 4294967296 := by
    cases ha : r.liquidAge with
    | none => decide
    | some a => exact hage a ha
  have him : im = _ := heatImage_eq st r dipAge hg
  clear_value im
  subst him
  have hskip : ∀ (rest : List Byte) (i : Nat), u32At (leSigned 8 r.residual ++ rest) (i + 8) = u32At rest i := fun _ _ => rfl
  have hdrop : ∀ (rest : List Byte) (i : Nat), List.drop (i + 8) (leSigned 8 r.residual ++ rest) = List.drop i rest := fun _ _ => rfl
  simp only [dipImage, le_two, le_four, byteOf, List.append_assoc, List.cons_append, List.nil_append, u8At_cons_succ, u8At_cons_zero,
    u16At_cons_succ, u16At_cons_zero, u32At_cons_succ, u32At_cons_zero, s64At_cons_succ, s64At_leSigned hresidual, hskip,
    List.getD_cons_succ, List.getD_cons_zero, List.drop_succ_cons, hdrop]
  refine ⟨⟨rfl, byte_read ?_, byte_read hcode, byte_read ?_, word_read ?_⟩, ⟨byte_read ?_, trivial, long_read hsolid, long_read hliquid,
    word_read htEst⟩, ⟨word_read htemp, long_read hold, long_read hliquidAge, trivial, long_read ?_⟩, rfl, ?_⟩
  · exact Nat.lt_of_le_of_lt (Nat.succ_le_of_lt st.isLt) (by decide)
  · exact Nat.lt_trans g.isLt (by decide)
  · omega
  · omega
  · omega
  · simp only [List.length_cons, List.length_append, leSigned, le_length]

/-- A heat that the tables of chapter 2 allow. -/
structure ImageFits (r : HeatRec) (capacity : Nat) : Prop where
  running : r.phase.running = true
  grade : r.grade.isSome = true
  heatNo : 1 ≤ r.heatNo ∧ r.heatNo ≤ 65535
  chargeNo : r.chargeNo ≤ 255
  mass : 0 < r.solid + r.liquid ∧ r.solid + r.liquid ≤ capacity ∧ capacity ≤ 12000
  tEst : 11000 ≤ r.tEst ∧ r.tEst ≤ 16500
  residual : r.residual.natAbs ≤ 10000000000
  energy : r.energy ≤ 4294967295
  dip : ∀ d, r.lastDip = some d → 10000 ≤ d.temp ∧ d.temp ≤ 17500 ∧ d.age ≤ 4294967295
  age : ∀ a, r.liquidAge = some a → a ≤ 4294967294

variable {capacity tMelt : Nat}

theorem heatImage_valid (h : ImageFits r capacity) : (heatImage st r dipAge).length = 48 ∧
    imageInvalid (stationCode st) capacity (heatImage st r dipAge) = false := by
  obtain ⟨g, hg⟩ := Option.isSome_iff_exists.mp h.grade
  obtain ⟨hrunning, -, hno, hcharge, hmass, htEst, hresidual, henergy, hdip, hage⟩ := h
  obtain ⟨⟨hone, hst, hphase, hgrade, hheat⟩, ⟨-, -, hsolid, hliquid, hest⟩, ⟨htemp, -, -, hrest, -⟩, hzero, hlength⟩ :=
    heatImage_reads (st := st) (r := r) (dipAge := dipAge) hg hno.2 hcharge (by omega) (by omega) (by omega) hresidual henergy
      (fun d hd => by have := hdip d hd; omega) (fun a ha => by have := hage a ha; omega)
  refine ⟨hlength, ?_⟩
  have hcode : 3 ≤ r.phase.code ∧ r.phase.code ≤ 6 := by
    cases hp : r.phase <;> rw [hp] at hrunning <;> revert hrunning <;> decide
  have hlast : (r.lastDip.map LastDip.temp).getD 0 = 0 ∨
      10000 ≤ (r.lastDip.map LastDip.temp).getD 0 ∧ (r.lastDip.map LastDip.temp).getD 0 ≤ 17500 := by
    cases hd : r.lastDip with
    | none => exact .inl rfl
    | some d => exact .inr ⟨(hdip d hd).1, (hdip d hd).2.1⟩
  have hreserved : ([0, 0, 0, 0, 0, 0, 0, 0] : List Byte).any (fun b => b != 0) = false := rfl
  have htemps : Config.tLow = 11000 ∧ Config.tHigh = 16500 := ⟨rfl, rfl⟩
  have hgradeRange := g.isLt
  simp only [imageInvalid, hone, hst, hphase, hgrade, hheat, hsolid, hliquid, hest, htemp, hrest, hzero, hreserved, htemps, Bool.or_eq_false_iff,
    Bool.and_eq_false_iff, decide_eq_false_iff_not, and_true, ne_eq, not_true_eq_false, not_false_eq_true, true_and]
  generalize (r.lastDip.map LastDip.temp).getD 0 = temp at hlast
  omega

theorem heatImage_loads (h : ImageFits r capacity) : loadedRecord tMelt (heatImage st r dipAge) =
    { r with phase := if 0 < r.solid then .melt else .hold, tEst := if 0 < r.solid then tMelt else r.tEst, dipMark := false } := by
  obtain ⟨g, hg⟩ := Option.isSome_iff_exists.mp h.grade
  obtain ⟨-, -, hno, hcharge, hmass, htEst, hresidual, henergy, hdip, hage⟩ := h
  obtain ⟨⟨-, -, -, hgrade, hheat⟩, ⟨hcharges, hflags, hsolid, hliquid, hest⟩, ⟨htemp, hold, hliquidAge, hrest, hspent⟩, -, -⟩ :=
    heatImage_reads (st := st) (r := r) (dipAge := dipAge) hg hno.2 hcharge (by omega) (by omega) (by omega) hresidual henergy
      (fun d hd => by have := hdip d hd; omega) (fun a ha => by have := hage a ha; omega)
  have hdips : (if (r.lastDip.map LastDip.temp).getD 0 = 0 then none
      else some { temp := (r.lastDip.map LastDip.temp).getD 0, age := (r.lastDip.map LastDip.age).getD dipAge.toNat }) = r.lastDip := by
    cases hd : r.lastDip with
    | none => rfl
    | some d =>
      have hrange := hdip d hd
      exact if_neg (show ¬ d.temp = 0 by omega)
  have hages : (if r.liquidAge.getD top32 = top32 then none else some (r.liquidAge.getD top32)) = r.liquidAge := by
    cases ha : r.liquidAge with
    | none => rfl
    | some a =>
      have hrange := hage a ha
      have htop : top32 = 4294967295 := rfl
      exact if_neg (show ¬ a = top32 by omega)
  rw [loadedRecord]
  simp only [hgrade, hheat, hcharges, hflags, hsolid, hliquid, hest, htemp, hold, hliquidAge, hrest, hspent, hdips, hages, gradeOf_of_lt g.isLt]
  rw [hg]

end

end

/-! ## The tables (9.3) -/

section
variable (s : State)

theorem tableBytes_station : s.tableBytes .station = allStations.map (fun st => (s.stationRec st).bytes) := by
  rw [State.tableBytes, toList_eq_map, List.map_map]
  rfl

theorem tableBytes_unit : s.tableBytes .unit = allUnits.map (fun u => (s.unitRec u).bytes) := by
  rw [State.tableBytes, toList_eq_map, List.map_map]
  rfl

theorem tableBytes_circuit : s.tableBytes .circuit = (List.finRange 10).map (fun k => le 4 (look s.cfg.circuits k)) := by
  rw [State.tableBytes, toList_eq_map, List.map_map]
  rfl

theorem tableBytes_program : s.tableBytes .program = allPrograms.map (fun w => (s.program w).bytes) := by
  rw [State.tableBytes, toList_eq_map, List.map_map]
  rfl

theorem tableBytes_grade : s.tableBytes .grade = (List.finRange 16).map (fun g => (s.gradeRec g).bytes) := by
  rw [State.tableBytes, toList_eq_map, List.map_map]
  rfl

theorem tableBytes_lining : s.tableBytes .lining = allStations.map (fun st => (look s.linings st).bytes) := by
  rw [State.tableBytes, toList_eq_map, List.map_map]
  rfl

theorem settings_capacity {s : State} (hs : SettingsFit s) (st : Station) : s.capacity st ≤ 12000 := by
  show (look s.cfg.layout.stations st).capacity ≤ 12000
  cases hloaded : s.cfg.layout.loaded with
  | false =>
    rw [hs.blank hloaded, Layout.blank, look_replicate]
    exact Nat.zero_le _
  | true =>
    rcases (hs.layout hloaded).sound st with h | ⟨u, c, h, -, hhigh⟩ <;> rw [h]
    · exact Nat.zero_le _
    · exact hhigh

end

/-- Settles O18: each record's bytes are its fields in order, and each field reads back at its offset. -/
theorem recordsReadBack : Obligations.RecordsReadBack := by
  refine ⟨rfl, rfl, ?tables, ?records, ?images⟩
  case tables =>
    intro s yes b1 entry m
    have hyes : ∀ b, yes b = byteOf (yesNo b) := fun b => by cases b <;> rfl
    refine ⟨?_, ?_, ?_, ?_, tableBytes_circuit s, ?_, tableBytes_grade s, tableBytes_lining s, rfl, rfl, tableBytes_station s, tableBytes_unit s,
      tableBytes_program s, tableBytes_grade s, tableBytes_lining s⟩
    · have hentry : ∀ st, entry st = [byteOf (yesNo (look s.cfg.layout.stations st).present),
          byteOf (unitOrNone (look s.cfg.layout.stations st).unit)] ++ le 2 (look s.cfg.layout.stations st).capacity := fun st => by
        show [yes (s.layoutOf st).present, _] ++ _ =
          [byteOf (yesNo (s.layoutOf st).present), byteOf (unitOrNone (s.layoutOf st).unit)] ++ le 2 (s.layoutOf st).capacity
        rw [hyes]
        cases (s.layoutOf st).unit <;> rfl
      rw [State.tableBytes, layout_bytes, hentry, hentry, hentry, hentry]
      simp only [List.map_cons, List.map_nil, List.flatten_cons, List.flatten_nil, List.append_assoc, List.append_nil]
    · rw [State.tableBytes, ShopRec.bytes, hyes]
      simp only [List.append_assoc, List.cons_append, List.nil_append]
      rfl
    · exact tableBytes_station s
    · exact tableBytes_unit s
    · rw [tableBytes_program]
      simp only [hyes]
      rfl
  case records =>
    intro s hs
    have hcapacity : ∀ st, s.capacity st ≤ 12000 := settings_capacity hs
    have hinst : s.cfg.shop.lInst ≤ 16000 := by
      rcases hs.lInst with h | h <;> omega
    refine ⟨fun hloaded => layout_reads _ hloaded (hs.layout hloaded), shop_reads _ hs.shop hinst,
      fun st => station_reads _ (hcapacity st) (hs.stations st), fun u => unit_reads _ (hs.units u), fun k => circuit_reads (hs.circuits k),
      fun w => program_reads _ (hs.programs w), fun g => grade_reads _ (hs.grades g).1, fun st => ?_⟩
    obtain ⟨hmelted, hlimit, hpeak, hovertemp⟩ := hs.linings st
    exact lining_reads _ hmelted hlimit hpeak hovertemp
  case images =>
    intro st r dipAge capacity tMelt hrunning hgrade hno hno' hcharge hmass hmass' hcapacity htEst htEst' hresidual henergy hdip hage
    have hfits : ImageFits r capacity := ⟨hrunning, hgrade, ⟨hno, hno'⟩, hcharge, ⟨hmass, hmass', hcapacity⟩, ⟨htEst, htEst'⟩, hresidual, henergy,
      hdip, hage⟩
    obtain ⟨hlength, hvalid⟩ := heatImage_valid (st := st) (dipAge := dipAge) hfits
    exact ⟨hlength, hvalid, heatImage_loads hfits⟩

end Sys2Proof.Machine
